-- ==== Sys2Proof/Word.lean ====
section
/-!
DEFINITION. The word types of the module: bits where the spec has bits.
-/
namespace Sys2Proof

/-- A 64-bit register or general-register value. -/
abbrev U64 := BitVec 64
/-- A 32-bit value. -/
abbrev U32 := BitVec 32
/-- One byte. -/
abbrev Byte := BitVec 8

end Sys2Proof
end

