-- ==== Sys2Proof/Syntax.lean ====
section
/-!
DEFINITION. The commands of the module: one constructor per row of spec/opcode_table.json, in its order, with operands of
the row's kind. For a Tyten instruction `e` is the engine that retires it at its pc, `d`, `a`, `b`, `r` are register numbers, `imm` and `off`
immediates, `w` and `dbl` the width bits. `p` is a ring or Uhlux port, `k` a station, entry or channel, `f` a frame, `master` a master's
number (Table 15-2), `t` and `auth` of a management command its transport (0 management Ethernet, 1 SMBus, 2 mailbox) and whether its session is authenticated.
-/
namespace Sys2Proof
namespace Machine

/-- An NRP frame (Table 03-4). `word` is bytes 11 to 14. `lseq` and `retry` are the link tag's (R107). -/
structure Frame where
  type : Nat
  cls : Nat
  flags : Nat := 0
  route : Nat := 0
  dest : Nat := 0
  origin : Nat := 0
  src : Nat := 0
  seq : Nat := 0
  launch : Nat := 0
  word : Nat := 0
  len : Nat := 0
  acc : Nat := 0
  hops : Nat := 0
  aux : Nat := 0
  payload : List Byte := []
  lseq : Nat := 0
  retry : Nat := 0
deriving DecidableEq, Repr

end Machine
open Machine (Frame)

/-- The commands. -/
inductive Instr where
  /-- R2: A write to a register or field that has no step of its own acts by its access type, landing RWS values in the staging copy. -/
  | registerWrite (master : BitVec 7) (off : BitVec 26) (n : Nat) (enabled : Bool) (value : U64)
  /-- R9: A 32-bit read of a 64-bit register's lower half latches the upper half for that master. -/
  | registerLowerHalfRead (master : BitVec 7) (word : BitVec 23)
  /-- R2: A read of an RC field returns its value and then clears the field. -/
  | rcFieldRead (master : BitVec 7) (word : BitVec 24)
  /-- R648: The staging checks started by a staging-copy write finish, within 20 µs of the write. -/
  | stagingCheckComplete
  /-- R5: A write to GL_STAGE_COMMIT captures all staging copies as the pending set, or is refused by R7 or a failed check. -/
  | stageCommit (master : BitVec 7) (tag : BitVec 16)
  /-- R651: A write to GL_STAGE_DISCARD copies every active value into its staging copy, unless a commit is pending. -/
  | stageDiscard
  /-- R650: While beat_en is 0, an accepted commit is applied within 1 µs of acceptance. -/
  | commitApplyBeatsOff
  /-- R639: GL_RESET with key 0xD1CE and kind 1 starts a module reset 10 µs later. -/
  | glResetModule (master : BitVec 7)
  /-- R639: GL_RESET with key 0xD1CE and kind 2 starts an H-die reset 10 µs later. -/
  | glResetHdie (master : BitVec 7)
  /-- R49: A write of 1 to BT_CTRL.beat_en starts the beats at BT_BEAT_START, or is refused. -/
  | beatStart
  /-- R50: A write of 0 to BT_CTRL.beat_en stops downbeat launches and sets the final edge. -/
  | beatStop
  /-- R50: At the first nominal strike instant after the stop, beat_run clears and any pending commit is applied. -/
  | finalEdge
  /-- R33: A write of 1 to BT_CTRL.step sets fabric time to BT_TIME_SET, or is refused while beats run. -/
  | timeStep
  /-- R51: At the module's strike instant BT_BEAT_NUM increments and the staging point falls. -/
  | beatEdge
  /-- R56: The content of the next downbeat is fixed 1 µs before its nominal launch. -/
  | downbeatContentFix
  /-- R54: At strike minus lead, the module launches one downbeat on every ring port that is up. -/
  | downbeatLaunch
  /-- R60: The module's own downbeat returns at the other port of the ring and the loop delay is remeasured. -/
  | downbeatLoopReturn (p : Fin 8) (f : Frame)
  /-- R533: At input-complete the input bank of the beat closes and input-phase work starts. -/
  | phaseInputComplete
  /-- R535: At the output deadline the unit sends image-out frames from the output bank. -/
  | phaseOutputDeadline
  /-- R175: At the decision deadline the strike unit evaluates every group and builds the commit bitmap. -/
  | decisionDeadline
  /-- R36: At each whole second of fabric time the module starts the PPS output pulse. -/
  | ppsPulseStart
  /-- R36: The PPS output pulse ends after width_us. -/
  | ppsPulseEnd
  /-- R186: The strike mirror pulse ends after its width. -/
  | strikeMirrorPulseEnd
  /-- R34: A fabric time sample arrives on SB1 every 1 µs and corrects the H-die copy. -/
  | hdieTimeSample (agree : Bool)
  /-- R38: The PTM requester starts a dialog every BT_PTM_CFG.interval. -/
  | ptmRequest
  /-- R38: A PTM dialog completes and gives an offset sample to the servo. -/
  | ptmDialogComplete (ok : Bool) (rtt : Nat) (host : Int)
  /-- R37: An IEEE 1588 Sync sample is taken and fed to qualification and the servo. -/
  | ptpSyncReceive (domain : Nat) (l2 : Bool) (t1 : Nat) (t3 : Nat) (t4 : Nat)
  /-- R41: An IEEE 1588 Announce from the selected master is received. -/
  | ptpAnnounceReceive (domain : Nat) (l2 : Bool)
  /-- R41: Announce receipt timeout disqualifies the IEEE 1588 source. -/
  | ptpAnnounceTimeout
  /-- R39: A PPS input edge supplies phase and the whole-second count. -/
  | ppsEdge (t : Nat) (falling : Bool) (ref : Bool)
  /-- R41: Two consecutive expected PPS edges are missing and the source disqualifies. -/
  | ppsMissing
  /-- R41: The 10 MHz input is lost for 10 µs and the PPS source disqualifies. -/
  | ref10Loss
  /-- R43: A better source that has stayed qualified for wtr_s replaces the selected one. -/
  | waitToRestoreExpire
  /-- R59: A write of 1 to BT_CAL_CTRL.start calibrates the selected ring. -/
  | calibrateRing (ring : Fin 4)
  /-- R686: A calibration downbeat arrives at the other port and gives loop delay C or A. -/
  | calDownbeatReceive (p : Fin 8) (f : Frame)
  /-- R80: An SFP28 module is inserted and its A0h page read. -/
  | sfpInsert (p : Fin 8) (code : Nat)
  /-- R82: An SFP28 module is removed and the port goes down with cause 0x5. -/
  | sfpRemove (p : Fin 8)
  /-- R82: TX_FAULT is asserted and the port goes down with cause 0x5. -/
  | sfpTxFault (p : Fin 8)
  /-- R82: LOS is asserted and the port goes down with cause 0x1. -/
  | sfpLosAssert (p : Fin 8)
  /-- R81: LOS goes low and the port starts its block lock search. -/
  | sfpLosDeassert (p : Fin 8)
  /-- R675: Page A2h of each SFP28 module is read once per second. -/
  | sfpTempPoll (p : Fin 8) (temp : BitVec 16)
  /-- R82: Block lock or RS-FEC alignment is lost or hi_ber set; port down cause 0x2. -/
  | pcsLockLoss (p : Fin 8) (hiBer : Bool)
  /-- R81: Lock held for 1 ms without hi_ber moves the port to training. -/
  | portLockHoldExpire (p : Fin 8)
  /-- R684: A port not up within 1 ms of training returns to down. -/
  | portTrainingTimeout (p : Fin 8)
  /-- R78: In RS-FEC auto mode, a 100 ms attempt ends and the setting toggles. -/
  | fecAutoAttemptExpire (p : Fin 8)
  /-- R82: No valid frame for 10 µs takes the port down with cause 0x3. -/
  | portSilenceTimeout (p : Fin 8)
  /-- R108: A link frame is received with acknowledgement, NAK, skip number and echo. -/
  | linkFrameReceive (p : Fin 8) (f : Frame) (corrected : Nat)
  /-- R110: A link frame is sent within 2 µs of accepting a frame or at least every 2 µs. -/
  | linkFrameSend (p : Fin 8)
  /-- R111: No acknowledgement within RG_LINK_RTT plus 10 µs resends held frames. -/
  | replayTimeout (p : Fin 8)
  /-- R86: A queued frame starts on a port, with preemption cuts at 64-byte boundaries. -/
  | frameTransmit (p : Fin 8) (cut : Option Nat)
  /-- R532: An image-in frame is checked, deduplicated and written into the input bank. -/
  | imageInReceive (p : Fin 8) (f : Frame)
  /-- R95: A read-response is matched to its read and delivered to its initiator. -/
  | readResponseReceive (p : Fin 8) (f : Frame)
  /-- R389: A write-ack resolves its write as done or failed. -/
  | writeAckReceive (p : Fin 8) (f : Frame)
  /-- R469: A first copy of a TC0 event frame is matched against the reflex table and posted. -/
  | eventFrameTc0 (p : Fin 8) (f : Frame) (upset : Option (Fin 2 × Fin 4096 × Fin 10 × U64))
  /-- R408: A TC2 event frame is posted behind its fence tag. -/
  | eventFrameTc2 (p : Fin 8) (f : Frame)
  /-- R171: A vote frame is accepted for the current decision or classed and counted. -/
  | voteReceive (p : Fin 8) (f : Frame)
  /-- R126: A write of 1 to ST_ENUM_CTRL.start requests an enumeration run. -/
  | enumStart (ring : Fin 4)
  /-- R130: An answer is resolved to a position, numbered and sent an assign. -/
  | enumAnswerReceive (p : Fin 8) (f : Frame)
  /-- R127: No answer within 5 ms switches to the west port or ends the run. -/
  | enumProbeTimeout (ring : Fin 4)
  /-- R133: The probe arrives at the other module port and the run closes. -/
  | enumProbeReturn (p : Fin 8) (f : Frame)
  /-- R131: A delay-answer gives the cable round trip of a newly assigned station. -/
  | delayAnswerReceive (p : Fin 8) (f : Frame)
  /-- R131: No delay-answer within 5 ms retries, and ends the run after three tries. -/
  | delayRequestTimeout (k : BitVec 14)
  /-- R139: A replay or timing block write without write-ack in 3 beats is repeated or fails. -/
  | adoptionStepTimeout (k : BitVec 14)
  /-- R134: No frame from a station in 3 consecutive beats makes its entry absent. -/
  | stationAbsentTimeout (k : BitVec 14)
  /-- R134: A write to ST_CLAMP_SET clamps the named valid station at once. -/
  | stClampSet (k : BitVec 14)
  /-- R134: A write to ST_CLAMP_CLR releases the clamp and restarts adoption. -/
  | stClampClr (k : BitVec 14)
  /-- R150: While beats are off, the reroute happens 2 µs after detection. -/
  | rerouteTimerExpire (ring : Fin 4)
  /-- R153: After a non-break route change, D1 plus 1 µs passes and new-route frames start. -/
  | routeChangeWaitExpire (k : BitVec 14)
  /-- R177: A write to SK_FORCE_HOLD takes effect at once for later decisions. -/
  | skForceHoldWrite (k : Fin 4) (v : U64)
  /-- R200: A write of 1 to EN_CTRL.start puts the engine in init. -/
  | engineStart (e : Fin 64)
  /-- R217: A write of 1 to EN_CTRL.stop requests the engine to stop. -/
  | engineStop (e : Fin 64)
  /-- R217: Once issued instructions retire and the store buffer drains, the engine enters stopped. -/
  | engineStopComplete (e : Fin 64)
  /-- R218: A write to EN_CL_CLAMP clamps or releases all four engines of a cluster. -/
  | clusterClamp (c : Fin 16) (set : Bool)
  /-- R216: A write to an instruction SRAM window is performed only while the engine is not running. -/
  | isramWrite (e : Fin 64) (a : BitVec 16) (data : List Byte)
  /-- R220: A write of 1 to EN_MIGRATE.go accepts or refuses a cluster migration. -/
  | migrateRequest (src : Fin 16)
  /-- R221: An engine not idle within grace_us abandons the migration with code 0x5. -/
  | migrationGraceExpire
  /-- R221: The cluster copy completes, the map entries swap and the port reopens. -/
  | migrationCopyDone
  /-- R198: A phase binding fires at its phase time and becomes pending. -/
  | bindingFire (e : Fin 64) (k : Fin 16)
  /-- R201: An idle engine dispatches the highest-priority pending binding. -/
  | bindingDispatch (e : Fin 64)
  /-- R206: BUDGET reaches 0 and raises the budget overrun exception. -/
  | budgetExpire (e : Fin 64)
  /-- R208: An uncorrectable ECC error in engine memory raises the machine check. -/
  | machineCheck (e : Fin 64)
  /-- R330: A store leaves the store buffer after its predecessors retire and reaches its serialising point. -/
  | storeBufferDrain (e : Fin 64) (port : Bool)
  /-- R343: A response for an outstanding fabric or device read is held in its reorder-buffer entry. -/
  | fabricReadResponse (e : Fin 64)
  /-- R259: A waiting barrier's covered accesses resolve and it retires with its status word. -/
  | barrierResolved (e : Fin 64)
  /-- R297: The H-die fabric time reaches a WAITPH or WAITT target and the engine resumes. -/
  | waitTimeReached (e : Fin 64)
  /-- R323: An EVWAIT times out and writes the timeout word. -/
  | evwaitTimeout (e : Fin 64)
  /-- R228: Adds two registers modulo 2^64, or 32 bits in the w form. -/
  | add (e : Fin 64) (w : Bool) (d : Fin 32) (a : Fin 32) (b : Fin 32)
  /-- R228: Subtracts register b from register a. -/
  | sub (e : Fin 64) (w : Bool) (d : Fin 32) (a : Fin 32) (b : Fin 32)
  /-- R228: Bitwise AND of two registers. -/
  | and (e : Fin 64) (d : Fin 32) (a : Fin 32) (b : Fin 32)
  /-- R228: Bitwise OR of two registers. -/
  | or (e : Fin 64) (d : Fin 32) (a : Fin 32) (b : Fin 32)
  /-- R228: Bitwise XOR of two registers. -/
  | xor (e : Fin 64) (d : Fin 32) (a : Fin 32) (b : Fin 32)
  /-- R228: a AND NOT b. -/
  | andn (e : Fin 64) (d : Fin 32) (a : Fin 32) (b : Fin 32)
  /-- R228: a OR NOT b. -/
  | orn (e : Fin 64) (d : Fin 32) (a : Fin 32) (b : Fin 32)
  /-- R228: Logical left shift. -/
  | sll (e : Fin 64) (w : Bool) (d : Fin 32) (a : Fin 32) (b : Fin 32)
  /-- R228: Logical right shift. -/
  | srl (e : Fin 64) (w : Bool) (d : Fin 32) (a : Fin 32) (b : Fin 32)
  /-- R228: Arithmetic right shift. -/
  | sra (e : Fin 64) (w : Bool) (d : Fin 32) (a : Fin 32) (b : Fin 32)
  /-- R228: Rotate left. -/
  | rol (e : Fin 64) (w : Bool) (d : Fin 32) (a : Fin 32) (b : Fin 32)
  /-- R228: Rotate right. -/
  | ror (e : Fin 64) (w : Bool) (d : Fin 32) (a : Fin 32) (b : Fin 32)
  /-- R228: Sets d to 1 when a is less than b, signed. -/
  | slt (e : Fin 64) (d : Fin 32) (a : Fin 32) (b : Fin 32)
  /-- R228: Sets d to 1 when a is less than b, unsigned. -/
  | sltu (e : Fin 64) (d : Fin 32) (a : Fin 32) (b : Fin 32)
  /-- R228: Signed minimum. -/
  | min (e : Fin 64) (d : Fin 32) (a : Fin 32) (b : Fin 32)
  /-- R228: Signed maximum. -/
  | max (e : Fin 64) (d : Fin 32) (a : Fin 32) (b : Fin 32)
  /-- R228: Unsigned minimum. -/
  | minu (e : Fin 64) (d : Fin 32) (a : Fin 32) (b : Fin 32)
  /-- R228: Unsigned maximum. -/
  | maxu (e : Fin 64) (d : Fin 32) (a : Fin 32) (b : Fin 32)
  /-- R228: Count of leading zeros. -/
  | clz (e : Fin 64) (w : Bool) (d : Fin 32) (a : Fin 32)
  /-- R228: Count of trailing zeros. -/
  | ctz (e : Fin 64) (w : Bool) (d : Fin 32) (a : Fin 32)
  /-- R228: Count of one bits. -/
  | popc (e : Fin 64) (w : Bool) (d : Fin 32) (a : Fin 32)
  /-- R228: Reverses the bytes of a register. -/
  | bswap (e : Fin 64) (w : Bool) (d : Fin 32) (a : Fin 32)
  /-- R228: Sign-extends the low byte. -/
  | sextb (e : Fin 64) (d : Fin 32) (a : Fin 32)
  /-- R228: Sign-extends the low halfword. -/
  | sexth (e : Fin 64) (d : Fin 32) (a : Fin 32)
  /-- R229: Adds a sign-extended immediate. -/
  | addi (e : Fin 64) (d : Fin 32) (a : Fin 32) (imm : BitVec 16)
  /-- R229: ANDs a zero-extended immediate. -/
  | andi (e : Fin 64) (d : Fin 32) (a : Fin 32) (imm : BitVec 16)
  /-- R229: ORs a zero-extended immediate. -/
  | ori (e : Fin 64) (d : Fin 32) (a : Fin 32) (imm : BitVec 16)
  /-- R229: XORs a zero-extended immediate. -/
  | xori (e : Fin 64) (d : Fin 32) (a : Fin 32) (imm : BitVec 16)
  /-- R229: Signed compare with an immediate. -/
  | slti (e : Fin 64) (d : Fin 32) (a : Fin 32) (imm : BitVec 16)
  /-- R229: Unsigned compare with an immediate. -/
  | sltiu (e : Fin 64) (d : Fin 32) (a : Fin 32) (imm : BitVec 16)
  /-- R229: Shift or rotate by an immediate amount. -/
  | shi (e : Fin 64) (d : Fin 32) (a : Fin 32) (imm : BitVec 16)
  /-- R229: Shifts left 16 and ORs in an immediate. -/
  | lsh (e : Fin 64) (d : Fin 32) (a : Fin 32) (imm : BitVec 16)
  /-- R230: Low bits of a product. -/
  | mul (e : Fin 64) (w : Bool) (d : Fin 32) (a : Fin 32) (b : Fin 32)
  /-- R230: High 64 bits of a signed product. -/
  | mulh (e : Fin 64) (d : Fin 32) (a : Fin 32) (b : Fin 32)
  /-- R230: High 64 bits of an unsigned product. -/
  | mulhu (e : Fin 64) (d : Fin 32) (a : Fin 32) (b : Fin 32)
  /-- R230: High 64 bits of signed times unsigned. -/
  | mulhsu (e : Fin 64) (d : Fin 32) (a : Fin 32) (b : Fin 32)
  /-- R231: Signed quotient; a zero divisor raises the arithmetic exception. -/
  | div (e : Fin 64) (w : Bool) (d : Fin 32) (a : Fin 32) (b : Fin 32)
  /-- R231: Unsigned quotient. -/
  | divu (e : Fin 64) (w : Bool) (d : Fin 32) (a : Fin 32) (b : Fin 32)
  /-- R231: Signed remainder. -/
  | rem (e : Fin 64) (w : Bool) (d : Fin 32) (a : Fin 32) (b : Fin 32)
  /-- R231: Unsigned remainder. -/
  | remu (e : Fin 64) (w : Bool) (d : Fin 32) (a : Fin 32) (b : Fin 32)
  /-- R237: Floating-point addition, binary32 or binary64. -/
  | fadd (e : Fin 64) (dbl : Bool) (d : Fin 32) (a : Fin 32) (b : Fin 32)
  /-- R237: Floating-point subtraction. -/
  | fsub (e : Fin 64) (dbl : Bool) (d : Fin 32) (a : Fin 32) (b : Fin 32)
  /-- R237: Floating-point multiplication. -/
  | fmul (e : Fin 64) (dbl : Bool) (d : Fin 32) (a : Fin 32) (b : Fin 32)
  /-- R237: Floating-point division. -/
  | fdiv (e : Fin 64) (dbl : Bool) (d : Fin 32) (a : Fin 32) (b : Fin 32)
  /-- R237: Floating-point square root. -/
  | fsqrt (e : Fin 64) (dbl : Bool) (d : Fin 32) (a : Fin 32)
  /-- R237: minimumNumber of two values. -/
  | fmin (e : Fin 64) (dbl : Bool) (d : Fin 32) (a : Fin 32) (b : Fin 32)
  /-- R237: maximumNumber of two values. -/
  | fmax (e : Fin 64) (dbl : Bool) (d : Fin 32) (a : Fin 32) (b : Fin 32)
  /-- R237: Fused multiply-add into d with one rounding. -/
  | fmac (e : Fin 64) (dbl : Bool) (d : Fin 32) (a : Fin 32) (b : Fin 32)
  /-- R237: Magnitude of a with the sign of b. -/
  | fsgnj (e : Fin 64) (dbl : Bool) (d : Fin 32) (a : Fin 32) (b : Fin 32)
  /-- R237: Magnitude of a with the inverted sign of b. -/
  | fsgnjn (e : Fin 64) (dbl : Bool) (d : Fin 32) (a : Fin 32) (b : Fin 32)
  /-- R237: Magnitude of a with sign a XOR sign b. -/
  | fsgnjx (e : Fin 64) (dbl : Bool) (d : Fin 32) (a : Fin 32) (b : Fin 32)
  /-- R237: Quiet equality comparison. -/
  | feq (e : Fin 64) (dbl : Bool) (d : Fin 32) (a : Fin 32) (b : Fin 32)
  /-- R237: Signalling less-than comparison. -/
  | flt (e : Fin 64) (dbl : Bool) (d : Fin 32) (a : Fin 32) (b : Fin 32)
  /-- R237: Signalling less-or-equal comparison. -/
  | fle (e : Fin 64) (dbl : Bool) (d : Fin 32) (a : Fin 32) (b : Fin 32)
  /-- R238: Converts binary64 to binary32. -/
  | fcvtSD (e : Fin 64) (d : Fin 32) (a : Fin 32)
  /-- R238: Converts binary32 to binary64. -/
  | fcvtDS (e : Fin 64) (d : Fin 32) (a : Fin 32)
  /-- R239: Converts binary32 to signed 32-bit, saturating. -/
  | fcvtWS (e : Fin 64) (rz : Bool) (d : Fin 32) (a : Fin 32)
  /-- R239: Converts binary32 to unsigned 32-bit, saturating. -/
  | fcvtWuS (e : Fin 64) (rz : Bool) (d : Fin 32) (a : Fin 32)
  /-- R239: Converts binary32 to signed 64-bit, saturating. -/
  | fcvtLS (e : Fin 64) (rz : Bool) (d : Fin 32) (a : Fin 32)
  /-- R239: Converts binary32 to unsigned 64-bit, saturating. -/
  | fcvtLuS (e : Fin 64) (rz : Bool) (d : Fin 32) (a : Fin 32)
  /-- R239: Converts binary64 to signed 32-bit, saturating. -/
  | fcvtWD (e : Fin 64) (rz : Bool) (d : Fin 32) (a : Fin 32)
  /-- R239: Converts binary64 to unsigned 32-bit, saturating. -/
  | fcvtWuD (e : Fin 64) (rz : Bool) (d : Fin 32) (a : Fin 32)
  /-- R239: Converts binary64 to signed 64-bit, saturating. -/
  | fcvtLD (e : Fin 64) (rz : Bool) (d : Fin 32) (a : Fin 32)
  /-- R239: Converts binary64 to unsigned 64-bit, saturating. -/
  | fcvtLuD (e : Fin 64) (rz : Bool) (d : Fin 32) (a : Fin 32)
  /-- R238: Converts signed 32-bit to binary32. -/
  | fcvtSW (e : Fin 64) (d : Fin 32) (a : Fin 32)
  /-- R238: Converts unsigned 32-bit to binary32. -/
  | fcvtSWu (e : Fin 64) (d : Fin 32) (a : Fin 32)
  /-- R238: Converts signed 64-bit to binary32. -/
  | fcvtSL (e : Fin 64) (d : Fin 32) (a : Fin 32)
  /-- R238: Converts unsigned 64-bit to binary32. -/
  | fcvtSLu (e : Fin 64) (d : Fin 32) (a : Fin 32)
  /-- R238: Converts signed 32-bit to binary64. -/
  | fcvtDW (e : Fin 64) (d : Fin 32) (a : Fin 32)
  /-- R238: Converts unsigned 32-bit to binary64. -/
  | fcvtDWu (e : Fin 64) (d : Fin 32) (a : Fin 32)
  /-- R238: Converts signed 64-bit to binary64. -/
  | fcvtDL (e : Fin 64) (d : Fin 32) (a : Fin 32)
  /-- R238: Converts unsigned 64-bit to binary64. -/
  | fcvtDLu (e : Fin 64) (d : Fin 32) (a : Fin 32)
  /-- R238: One-hot class of a binary32 value. -/
  | fclassS (e : Fin 64) (d : Fin 32) (a : Fin 32)
  /-- R238: One-hot class of a binary64 value. -/
  | fclassD (e : Fin 64) (d : Fin 32) (a : Fin 32)
  /-- R240: Loads a sign-extended byte. -/
  | lb (e : Fin 64) (d : Fin 32) (a : Fin 32) (imm : BitVec 16)
  /-- R240: Loads a zero-extended byte. -/
  | lbu (e : Fin 64) (d : Fin 32) (a : Fin 32) (imm : BitVec 16)
  /-- R240: Loads a sign-extended halfword. -/
  | lh (e : Fin 64) (d : Fin 32) (a : Fin 32) (imm : BitVec 16)
  /-- R240: Loads a zero-extended halfword. -/
  | lhu (e : Fin 64) (d : Fin 32) (a : Fin 32) (imm : BitVec 16)
  /-- R240: Loads a sign-extended word. -/
  | lw (e : Fin 64) (d : Fin 32) (a : Fin 32) (imm : BitVec 16)
  /-- R240: Loads a zero-extended word. -/
  | lwu (e : Fin 64) (d : Fin 32) (a : Fin 32) (imm : BitVec 16)
  /-- R240: Loads a doubleword. -/
  | ld (e : Fin 64) (d : Fin 32) (a : Fin 32) (imm : BitVec 16)
  /-- R240: Loads a pair of doublewords into d and d+1. -/
  | ldp (e : Fin 64) (d : Fin 32) (a : Fin 32) (imm : BitVec 16)
  /-- R240: Stores a byte. -/
  | sb (e : Fin 64) (d : Fin 32) (a : Fin 32) (imm : BitVec 16)
  /-- R240: Stores a halfword. -/
  | sh (e : Fin 64) (d : Fin 32) (a : Fin 32) (imm : BitVec 16)
  /-- R240: Stores a word. -/
  | sw (e : Fin 64) (d : Fin 32) (a : Fin 32) (imm : BitVec 16)
  /-- R240: Stores a doubleword. -/
  | sd (e : Fin 64) (d : Fin 32) (a : Fin 32) (imm : BitVec 16)
  /-- R240: Stores a pair of doublewords. -/
  | stp (e : Fin 64) (d : Fin 32) (a : Fin 32) (imm : BitVec 16)
  /-- R250: Loads and reserves the 64-byte granule. -/
  | lr (e : Fin 64) (d : Fin 32) (a : Fin 32) (w : Bool)
  /-- R250: Stores if the reservation holds and clears it. -/
  | sc (e : Fin 64) (d : Fin 32) (b : Fin 32) (a : Fin 32) (w : Bool)
  /-- R250: Atomic swap. -/
  | amoswap (e : Fin 64) (d : Fin 32) (b : Fin 32) (a : Fin 32) (w : Bool)
  /-- R250: Atomic add. -/
  | amoadd (e : Fin 64) (d : Fin 32) (b : Fin 32) (a : Fin 32) (w : Bool)
  /-- R250: Atomic AND. -/
  | amoand (e : Fin 64) (d : Fin 32) (b : Fin 32) (a : Fin 32) (w : Bool)
  /-- R250: Atomic OR. -/
  | amoor (e : Fin 64) (d : Fin 32) (b : Fin 32) (a : Fin 32) (w : Bool)
  /-- R250: Atomic XOR. -/
  | amoxor (e : Fin 64) (d : Fin 32) (b : Fin 32) (a : Fin 32) (w : Bool)
  /-- R250: Atomic signed minimum. -/
  | amomin (e : Fin 64) (d : Fin 32) (b : Fin 32) (a : Fin 32) (w : Bool)
  /-- R250: Atomic signed maximum. -/
  | amomax (e : Fin 64) (d : Fin 32) (b : Fin 32) (a : Fin 32) (w : Bool)
  /-- R250: Atomic unsigned minimum. -/
  | amominu (e : Fin 64) (d : Fin 32) (b : Fin 32) (a : Fin 32) (w : Bool)
  /-- R250: Atomic unsigned maximum. -/
  | amomaxu (e : Fin 64) (d : Fin 32) (b : Fin 32) (a : Fin 32) (w : Bool)
  /-- R250: Atomic compare and swap. -/
  | cas (e : Fin 64) (d : Fin 32) (b : Fin 32) (a : Fin 32) (w : Bool)
  /-- R255: Branches if a equals b. -/
  | beq (e : Fin 64) (a : Fin 32) (b : Fin 32) (off : BitVec 16)
  /-- R255: Branches if a differs from b. -/
  | bne (e : Fin 64) (a : Fin 32) (b : Fin 32) (off : BitVec 16)
  /-- R255: Branches if a is less than b, signed. -/
  | blt (e : Fin 64) (a : Fin 32) (b : Fin 32) (off : BitVec 16)
  /-- R255: Branches if a is at least b, signed. -/
  | bge (e : Fin 64) (a : Fin 32) (b : Fin 32) (off : BitVec 16)
  /-- R255: Branches if a is less than b, unsigned. -/
  | bltu (e : Fin 64) (a : Fin 32) (b : Fin 32) (off : BitVec 16)
  /-- R255: Branches if a is at least b, unsigned. -/
  | bgeu (e : Fin 64) (a : Fin 32) (b : Fin 32) (off : BitVec 16)
  /-- R255: Jumps by a word offset. -/
  | j (e : Fin 64) (off : BitVec 26)
  /-- R255: Jumps and links into g31. -/
  | jal (e : Fin 64) (off : BitVec 26)
  /-- R255: Jumps to a register plus offset and links into d. -/
  | jalr (e : Fin 64) (d : Fin 32) (a : Fin 32) (imm : BitVec 16)
  /-- R257: Barrier on normal stores and device accesses. -/
  | barD (e : Fin 64) (d : Fin 32)
  /-- R257: Barrier adding loads and fabric store acceptance. -/
  | barA (e : Fin 64) (d : Fin 32)
  /-- R257: Barrier adding far-side resolution of fabric stores. -/
  | barS (e : Fin 64) (d : Fin 32)
  /-- R262: Reads a state register. -/
  | srd (e : Fin 64) (d : Fin 32) (sr : Fin 32)
  /-- R264: Writes a state register. -/
  | swr (e : Fin 64) (sr : Fin 32) (a : Fin 32)
  /-- R265: Raises the breakpoint exception. -/
  | brk (e : Fin 64)
  /-- R210: Returns from an exception to EPC. -/
  | eret (e : Fin 64)
  /-- R266: Ends the activation and returns the engine to idle. -/
  | yield (e : Fin 64)
  /-- R267: Enters halted after the store buffer drains. -/
  | halt (e : Fin 64)
  /-- R265: Raises the trap exception. -/
  | trap (e : Fin 64) (imm : BitVec 16)
  /-- R277: Non-posted fabric load. -/
  | fld (e : Fin 64) (d : Fin 32) (a : Fin 32) (cls : Fin 4) (sz : Fin 8) (sw : Fin 4) (tm : Bool) (off : BitVec 8)
  /-- R277: Posted fabric store. -/
  | fst (e : Fin 64) (d : Fin 32) (a : Fin 32) (cls : Fin 4) (sz : Fin 8) (sw : Fin 4) (tm : Bool) (off : BitVec 8)
  /-- R289: Non-posted fabric store returning a completion code. -/
  | fstn (e : Fin 64) (d : Fin 32) (a : Fin 32) (cls : Fin 4) (sz : Fin 8) (sw : Fin 4) (tm : Bool) (off : BitVec 8)
  /-- R300: Descriptor-driven gather from fabric space. -/
  | gath (e : Fin 64) (d : Fin 32) (a : Fin 32) (cls : Fin 4) (sw : Fin 4) (tm : Bool) (n : BitVec 8)
  /-- R300: Descriptor-driven scatter to fabric space. -/
  | scat (e : Fin 64) (d : Fin 32) (a : Fin 32) (cls : Fin 4) (sw : Fin 4) (tm : Bool) (n : BitVec 8)
  /-- R307: Copies a station's part of the process image. -/
  | imgcp (e : Fin 64) (d : Fin 32) (a : Fin 32) (outImg : Bool) (toImage : Bool)
  /-- R292: Sets the launch register from a beat phase. -/
  | ltset (e : Fin 64) (r : Fin 32) (ph : Fin 8) (t : BitVec 18)
  /-- R292: Sets the launch register from an absolute time. -/
  | ltabs (e : Fin 64) (r : Fin 32)
  /-- R297: Waits for a beat phase time. -/
  | waitph (e : Fin 64) (r : Fin 32) (ph : Fin 8) (t : BitVec 18)
  /-- R297: Waits for an absolute fabric time. -/
  | waitt (e : Fin 64) (r : Fin 32)
  /-- R312: Compares elements and journals changes. -/
  | delta (e : Fin 64) (d : Fin 32) (a : Fin 32) (sz : Fin 8) (be : Bool) (cnt : Bool) (mode : Fin 4)
  /-- R316: Appends one journal entry. -/
  | japp (e : Fin 64) (d : Fin 32) (a : Fin 32)
  /-- R318: Converts between raw and engineering units. -/
  | scale (e : Fin 64) (d : Fin 32) (a : Fin 32) (k : BitVec 8) (sz : Fin 8) (rev : Bool) (sg : Bool) (s32 : Bool)
  /-- R319: Updates a CRC state over a local block. -/
  | crc (e : Fin 64) (d : Fin 32) (a : Fin 32) (n : BitVec 8) (mode : Fin 8)
  /-- R320: Posts an event to an engine queue or the event table. -/
  | evpost (e : Fin 64) (d : Fin 32) (a : Fin 32) (target : Fin 4) (urgent : Bool)
  /-- R323: Waits for a matching event in the engine's queue. -/
  | evwait (e : Fin 64) (d : Fin 32) (a : Fin 32) (t : BitVec 8)
  /-- R367: A host read through BAR2 is translated, checked and sent as frames or cycles. -/
  | hostBar2Read (tag : Nat) (rid : Nat) (off : BitVec 36) (be : List Bool)
  /-- R371: A host posted write through BAR2 is translated and cut into frames or cycles. -/
  | hostBar2Write (rid : Nat) (off : BitVec 36) (be : List Bool) (data : List Byte)
  /-- R363: A host read of module DRAM through BAR4. -/
  | hostBar4Read (tag : Nat) (rid : Nat) (off : BitVec 34) (n : Nat)
  /-- R363: A host write of module DRAM through BAR4. -/
  | hostBar4Write (off : BitVec 34) (be : List Bool) (data : List Byte)
  /-- R356: An AtomicOp request is completed with UR. -/
  | hostAtomicop (tag : Nat) (rid : Nat) (bar : Fin 3) (off : BitVec 36)
  /-- R361: A host access to an SRAM window of BAR0. -/
  | sramWindowAccess (tag : Nat) (off : BitVec 26) (n : Nat) (data : Option (List Byte))
  /-- R396: A host read open longer than BR_HRD_TO is taken as abandoned. -/
  | hostReadAbandon (tag : Nat)
  /-- R393: A station request unanswered for T_stn ends with code 0x10. -/
  | stationTimeout (b : Nat)
  /-- R405: A write of 1 to BR_CWP_CTRL.go sends a confirmed write. -/
  | cwpGo (k : Fin 8)
  /-- R406: A read of BR_CWP_STATUS completes only once the slot's write is resolved. -/
  | cwpStatusRead (m : BitVec 7) (k : Fin 8)
  /-- R400: A write of 1 to BR_ORPH_POP removes the oldest orphan entry. -/
  | orphanPop
  /-- R408: A fenced event is delivered once its fence is satisfied. -/
  | eventFenceSatisfied (idx : Nat)
  /-- R409: A tagged seq that never arrives is taken as resolved and the event delivered with loss. -/
  | fenceTimeout (idx : Nat)
  /-- R425: A due outbound request starts its cycles once the port owns the bus. -/
  | uhluxOutboundStart (p : Fin 2)
  /-- R430: ACK_N ends an outbound or acknowledge cycle as performed. -/
  | uhluxAck (p : Fin 2) (data : BitVec 16)
  /-- R430: BERR_N or RETRY_N from the card fails the cycle and its request. -/
  | uhluxBerr (p : Fin 2)
  /-- R430: No ACK_N within t_to releases the strobes and fails the cycle. -/
  | uhluxCycleTimeout (p : Fin 2)
  /-- R447: absent_after consecutive timeouts to one slot mark it absent. -/
  | uhluxSlotAbsent (p : Fin 2) (slot : Fin 16)
  /-- R429: A host read still open 100 µs after acceptance ends with code 0x13. -/
  | uhluxReadTimeout (b : Nat)
  /-- R434: An outbound request not started within 10 µs ends with code 0x12. -/
  | uhluxBusHogTimeout (p : Fin 2)
  /-- R432: BR_N from a card drives BGOUT_N when the module owns no cycle. -/
  | uhluxBusRequest (p : Fin 2)
  /-- R432: BBSY_N low releases BGOUT_N; its release returns the bus. -/
  | uhluxBbsy (p : Fin 2) (low : Bool)
  /-- R439: A card master's cycle into the module is checked and queued, answered or retried. -/
  | uhluxInboundCycle (p : Fin 2) (a : BitVec 24) (word : Bool) (lock : Bool) (data : Option (BitVec 16))
  /-- R440: A queued inbound write is performed at the DRAM controller. -/
  | uhluxInboundWritePerform (p : Fin 2)
  /-- R435: An inbound cycle not answerable within t_sack is ended with RETRY_N. -/
  | uhluxSlaveAckTimeout (p : Fin 2)
  /-- R436: A cycle between cards with no response for t_to is ended with BERR_N. -/
  | uhluxBusTimer (p : Fin 2) (a : BitVec 24)
  /-- R442: An enabled IRQ_N level runs an interrupt acknowledge cycle. -/
  | uhluxIrq (p : Fin 2) (levels : BitVec 7)
  /-- R444: A level is sampled again 1 µs after its acknowledge cycle. -/
  | uhluxIrqResample (p : Fin 2) (level : Fin 8)
  /-- R446: Three consecutive spurious acknowledges clear the level's enable. -/
  | uhluxIrqAutoDisable (p : Fin 2) (level : Fin 8)
  /-- R448: A write of 1 to UX_CTRL.sysreset holds SYSRESET_N low. -/
  | uhluxSysreset (p : Fin 2)
  /-- R448: SYSRESET_N is released after 1 ms. -/
  | uhluxSysresetEnd (p : Fin 2)
  /-- R447: A write of 1 to a UX_SLOT absent bit readmits the slot. -/
  | uxSlotReadmit (p : Fin 2) (mask : BitVec 16)
  /-- R463: The holdoff timer ends and sends pending occurrences in one MSI-X write. -/
  | holdoffTimerEnd (id : BitVec 16)
  /-- R462: A held event is delivered when the engine queue has room. -/
  | eventHeldDeliver (e : Fin 64)
  /-- R465: Clearing a vector or function mask sends one message for pending occurrences. -/
  | msixUnmask (v : Option (BitVec 11))
  /-- R467: The link returns to L0 with credits and held MSI-X writes are issued. -/
  | pcieLinkL0Return
  /-- R474: One reflex entry's two copies are compared each µs. -/
  | reflexTableCompare (idx : Fin 4096) (upset : Option (Fin 2 × Fin 4096 × Fin 10 × U64))
  /-- R670: A filtered interlock input change is presented as a TC0 event frame. -/
  | interlockInputChange (k : Fin 6) (level : Bool)
  /-- R491: A packet is injected at its local port once its regulator holds enough tokens. -/
  | nocPacketInject (src : Fin 24) (dst : Fin 24) (sport : Fin 4) (dport : Fin 4) (master : BitVec 7) (cls : Fin 4) (op : BitVec 4) (tag : BitVec 10) (addr : BitVec 48) (bseq : U64) (code : Byte) (data : List Byte)
  /-- R489: A packet reaches its destination port and its CRC is checked. -/
  | nocPacketDeliver (idx : Nat) (hop : Nat) (noise : List (BitVec 264))
  /-- R496: A packet unfinished for 4 µs is absorbed and counted toward isolation. -/
  | nocTargetTimeout (idx : Nat)
  /-- R496: After iso_after unfinished packets the target port is isolated. -/
  | nocPortIsolate (r : Fin 24)
  /-- R495: A write of 1 to NC_PORT_CTRL.isolate isolates the port at once. -/
  | ncPortIsolateWrite (r : Fin 24)
  /-- R498: A write of 1 to NC_PORT_CTRL.release opens an isolated port. -/
  | ncPortRelease (r : Fin 24)
  /-- R499: A packet for the F-die held 4 µs while the link is down is absorbed. -/
  | dovetailPortHoldExpire (bridge : Bool) (idx : Nat)
  /-- R500: A gateable cluster idle for gate_idle_us starts powering down. -/
  | clusterGateIdleExpire (c : Fin 16)
  /-- R500: The power switch opens and the cluster is gated. -/
  | clusterSwitchOpen (c : Fin 16)
  /-- R501: A wake request aborts a power-down or starts the wake. -/
  | clusterWake (c : Fin 16)
  /-- R501: The woken cluster's port opens and waiting packets are delivered. -/
  | clusterWakeDone (c : Fin 16)
  /-- R525: A write of 1 to PT_CTRL.clear_first clears PT_FIRST.valid. -/
  | ptClearFirst
  /-- R547: The unit writes a queued entry to its slot in three steps. -/
  | journalEntryWrite
  /-- R551: A read of word 0 of JN_RD_ENTRY returns the entry at the cursor and advances it. -/
  | journalReaderRead (master : BitVec 7) (r : Fin 4)
  /-- R551: A write to JN_RD_CUR sets the reader cursor, capped at JN_DONE. -/
  | journalCursorWrite (r : Fin 4) (v : U64)
  /-- R552: A write to JN_CTRL.degrade requests entry to or exit from no-journal mode. -/
  | jnDegradeWrite (v : Bool)
  /-- R542: A write of word 3 of JN_MV_DESC queues a mover descriptor. -/
  | moverDescEnqueue (master : BitVec 7) (c : Fin 8) (word3 : U64)
  /-- R543: A mover starts its next descriptor, at once or at its phase. -/
  | moverStart (c : Fin 8)
  /-- R544: A mover's last write is performed and JN_MV_DONE increments. -/
  | moverDone (c : Fin 8) (data : List Byte) (ok : Bool)
  /-- R545: Bus Master Enable 0 for more than 1 s ends the running descriptor. -/
  | moverBmeTimeout (c : Fin 8)
  /-- R555: The scrubber reads and checks one DRAM line. -/
  | scrubLine (line : BitVec 28) (corr : BitVec 8) (bad : BitVec 8)
  /-- R559: CT_CLAMP ring_port bit clamps or releases a ring port. -/
  | clampRingPort (p : Fin 8) (set : Bool)
  /-- R560: CT_CLAMP uhlux bit clamps or releases an Uhlux port. -/
  | clampUhluxPort (p : Fin 2) (set : Bool)
  /-- R560: CT_CLAMP dram bit clamps or releases the DRAM controller. -/
  | clampDram (set : Bool)
  /-- R560: CT_CLAMP movers bit ends running descriptors and empties the queues. -/
  | clampMovers (set : Bool)
  /-- R559: CT_CLAMP tenon bit clamps or releases the tenon link. -/
  | clampTenon (set : Bool)
  /-- R564: A write of 1 to CT_LOG_CTRL.clear empties the error log. -/
  | errorLogClear
  /-- R567: A CT_TEST_REQ of kind 0 requests a cluster BIST. -/
  | selfTestClusterBist (c : Fin 16) (migrate : Bool)
  /-- R569: A CT_TEST_REQ of kind 1 requests a ring SerDes recalibration. -/
  | selfTestRingRecal (p : Fin 16)
  /-- R568: A cluster BIST ends and releases or keeps the clamp. -/
  | bistDone (ok : Bool) (element : BitVec 8)
  /-- R569: A port recalibration finishes and the port is brought up again. -/
  | recalDone
  /-- R578: A twin time message gives the primary's fabric time. -/
  | twinTime (t : U64)
  /-- R578: A twin bank data message carries image bank bytes. -/
  | twinBankData (bank : Fin 4) (off : Nat) (data : List Byte)
  /-- R578: A twin message carries committed register values. -/
  | twinStagedSet (pairs : List (Nat × U64))
  /-- R578: A twin message carries declared region data. -/
  | twinDeclData (region : Fin 8) (off : Nat) (data : List Byte)
  /-- R578: A twin message carries counters and sequence numbers. -/
  | twinCounters (jn : U64) (br : U64) (seqs : List (Nat × Nat)) (regs : List (Nat × U64))
  /-- R579: Message 0x06 makes the standby declare takeover. -/
  | twinFailureDecl (cause : BitVec 16)
  /-- R574: The beat-sealed message makes the standby apply the mirror as one whole. -/
  | twinBeatSealed (beat : BitVec 32) (count : Nat)
  /-- R578: The standby's acknowledgement of a seal reaches the primary. -/
  | twinSealAck (beat : BitVec 32)
  /-- R579: No downbeat copy for two consecutive beats makes the standby declare takeover. -/
  | twinDownbeatMissing
  /-- R579: A write of 1 to TW_CTRL.takeover declares takeover on a synchronised standby. -/
  | twTakeover
  /-- R579: A write of 1 to TW_CTRL.resign makes the primary send message 0x06. -/
  | twResign
  /-- R582: The tenon link fails and mirroring stops without takeover. -/
  | tenonLinkDown
  /-- R591: A flit is checked, acknowledged, credited or NAKed. -/
  | dovetailFlitReceive (d : Fin 2) (noise : BitVec 680)
  /-- R596: An active lane loses lock and the link retrains. -/
  | dovetailLaneLockLoss (d : Fin 2) (lane : Fin 17)
  /-- R596: CRC errors in one ms above err_thresh start a retrain. -/
  | dovetailErrorRateCheck
  /-- R596: A write of 1 to DV_CTRL.retrain retrains the link. -/
  | dovetailRetrainRequest
  /-- R597: A write of 1 to DV_CTRL.unspare clears failed lanes at the next training. -/
  | dovetailUnspare
  /-- R598: A retrain completes and replay resumes. -/
  | dovetailRetrainDone (h2f : BitVec 17) (f2h : BitVec 17)
  /-- R595: A retrain not done within 2 µs takes the link down. -/
  | dovetailRetrainTimeout
  /-- R595: With both dies ready, training starts at once and every 100 µs in down. -/
  | dovetailTrainingStart
  /-- R597: Training locks enough lanes and the link is up. -/
  | dovetailTrainingDone (h2f : BitVec 17) (f2h : BitVec 17)
  /-- R595: Training not done within 50 µs returns the link to down. -/
  | dovetailTrainingTimeout
  /-- R607: A die leaving reset drives ready on SB1. -/
  | dieReady (die : Fin 2) (dom : Fin 12) (entries : Nat)
  /-- R608: A stopped clock returns and held register writes take effect. -/
  | clockDomainResume (b : Fin 12)
  /-- R613: A feed crosses its valid or overvoltage threshold. -/
  | feedValidChange (f : Fin 2) (valid : Bool) (excess : Bool) (mv : BitVec 16)
  /-- R629: A SEAT pin opens or closes. -/
  | seatChange (pin : Fin 2) (closed : Bool)
  /-- R626: The EN input goes high or low. -/
  | enChange (high : Bool)
  /-- R616: Seating conditions held for t_seat start precharge. -/
  | seatingDone
  /-- R617: V_out reaches V_in minus V_pcd and the gate ramp starts. -/
  | prechargeDone
  /-- R617: Precharge not done within t_pc latches the stage. -/
  | prechargeTimeout
  /-- R618: The gate reaches full level and the stage enters on. -/
  | gateFullyOn
  /-- R619: The current limit becomes active or inactive and the fault timer counts. -/
  | currentLimitChange (active : Bool)
  /-- R619: The fault timer reaches t_flt and the stage latches. -/
  | faultTimerExpire
  /-- R620: Current above I_hs turns the gate off and latches. -/
  | hardShortTrip
  /-- R622: A quiet window of t_pgq asserts PG. -/
  | pgQuietWindowExpire
  /-- R625: EN low for t_en clears a latch-off. -/
  | enLatchClearTimer
  /-- R626: EN low for t_enoff turns the stage off. -/
  | enOffTimer
  /-- R627: No valid feed for 10 µs turns the stage off without latching. -/
  | noFeedTimeout
  /-- R631: The next timed step of the domain power-up sequence takes place. -/
  | domainPowerUpStep
  /-- R632: A cage switch overload turns that cage off. -/
  | sfpCageOverload (p : Fin 8)
  /-- R633: A domain converter out of tolerance holds that domain off. -/
  | domainConverterFault (d : Fin 6)
  /-- R641: DRAM training completes or fails at boot. -/
  | dramTrainingDone (ok : Bool)
  /-- R641: Boot ends, GL_BOOT_STATUS.done is set and the journal starts. -/
  | bootComplete
  /-- R638: PERST_N asserted performs an endpoint reset. -/
  | perstAssert
  /-- R638: A Function Level Reset performs an endpoint reset. -/
  | flr
  /-- R638: Hot reset or DL_Down performs an endpoint reset. -/
  | pcieLinkDown
  /-- R357: Entry to D3hot stops BAR decoding and holds MSI-X writes. -/
  | pcieD3hotEnter
  /-- R358: Bus Master Enable 0 holds MSI-X writes and mover requests. -/
  | pcieBusMasterDisable
  /-- R653: Management command returning identity, versions, floors and revoked slots. -/
  | getId (t : Fin 3) (auth : Bool)
  /-- R653: Management command returning health status. -/
  | getHealth (t : Fin 3) (auth : Bool)
  /-- R653: Management command returning PW_STAGE and PW_FEED. -/
  | getPower (t : Fin 3) (auth : Bool)
  /-- R653: Management command returning sensor values and levels. -/
  | getThermal (t : Fin 3) (auth : Bool)
  /-- R658: Management command setting a sensor's thresholds. -/
  | setThresh (t : Fin 3) (auth : Bool) (sensor : BitVec 8) (warn : BitVec 8) (crit : BitVec 8)
  /-- R655: Management command reading one error-log entry or its shadow. -/
  | readLog (t : Fin 3) (auth : Bool) (pos : BitVec 16)
  /-- R564: Management command clearing the error log. -/
  | clearLog (t : Fin 3) (auth : Bool)
  /-- R655: Management command reading one non-volatile log record. -/
  | readNvlog (t : Fin 3) (auth : Bool) (index : BitVec 16)
  /-- R656: Management command writing CT_TEST_REQ. -/
  | selfTest (t : Fin 3) (auth : Bool) (req : BitVec 32)
  /-- R653: Management command returning CT_TEST_STATUS. -/
  | testStatus (t : Fin 3) (auth : Bool)
  /-- R654: Selects the non-booted bank for an update and marks it invalid. -/
  | fwBegin (t : Fin 3) (auth : Bool) (kind : BitVec 8) (len : BitVec 32)
  /-- R654: Writes up to 4 KiB of image data into the update bank. -/
  | fwData (t : Fin 3) (auth : Bool) (off : BitVec 32) (data : List Byte)
  /-- R643: Verifies the written image. -/
  | fwVerify (t : Fin 3) (auth : Bool)
  /-- R646: Activates a verified image, raising the rollback floor and revoking keys as carried. -/
  | fwActivate (t : Fin 3) (auth : Bool)
  /-- R637: Management command performing the selected reset kind. -/
  | moduleReset (t : Fin 3) (auth : Bool) (kind : BitVec 8)
  /-- R559: Management command writing CT_CLAMP. -/
  | setClamp (t : Fin 3) (auth : Bool) (v : BitVec 32)
  /-- R658: Sensors are read every 10 ms and levels updated. -/
  | sensorPoll (t0 : BitVec 16) (t1 : BitVec 16) (t2 : BitVec 16) (t3 : BitVec 16) (t4 : BitVec 16)
  /-- R659: The management watchdog resets the controller after 1 s unserved. -/
  | mcWatchdogExpire
  /-- R81: A port's PCS reaches block lock, and RS-FEC alignment where it is on, which starts the 1 ms hold before training. -/
  | pcsBlockLock (p : Fin 8)
  /-- R41: The tenon link to the twin comes up, setting TW_STATUS.tenon_up and allowing the twin source to qualify and mirroring to resume. -/
  | tenonLinkUp
  /-- R41: Eight consecutive expected IEEE 1588 Sync samples are missing and the source disqualifies. -/
  | ptpSyncMissing
  /-- R41: The PCI Express link has been out of L0 for more than 100 ms and the PTM source disqualifies. -/
  | ptmL0AbsenceTimeout
  /-- R226: The engine reaches a word with opcode 0x00, a reserved opcode or fn, or a non-zero unused field, and raises the illegal instruction exception. -/
  | illegalInstruction (e : Fin 64)
  /-- R256: After the instruction at 0xFFFC retires, the sequential fetch beyond the instruction SRAM raises the instruction fetch fault with EADDR 0x1_0000. -/
  | instructionFetchFault (e : Fin 64)
  /-- R98: A received frame or fragment fails its CRC, is stomped, fails the checks of R98 or reassembly, and is discarded, counted and NAKed as a lost sequenced frame. -/
  | badFrameReceive (p : Fin 8) (l6 : BitVec 8) (l7 : BitVec 8) (bs : List Byte) (uncorrected : Nat)
  /-- R573: A standby or fenced module receives a ring frame not addressed to it and forwards it as a transit hop, adding residence and hops. -/
  | transitFrameForward (p : Fin 8) (f : Frame)
  /-- R357: The function returns from D3hot to D0, resumes BAR decoding, releases held MSI-X writes and lets image movers start new transfers. -/
  | pcieD0Return
  /-- R358: Bus Master Enable is set to 1 again, and held MSI-X writes and waiting image mover requests proceed. -/
  | pcieBusMasterEnable
  /-- R637: The JTAG reset instruction on the debug access port performs a module reset. -/
  | jtagReset
  /-- R533: The image unit's stale-station copy or output carry finishes, setting filled or carried in the bank status record and releasing waiting IMGCP copies. -/
  | imageCopyComplete (out : Bool)
deriving DecidableEq, Repr

end Sys2Proof
end

