-- ==== Sys2Proof/Decode.lean ====
section
/-!
DEFINITION. Commands by words. The rows of spec/opcode_table.json give no bits (every row's "fields" is empty), so no word spells a command.
-/
namespace Sys2Proof

/-- The command a table word spells: none, since no row gives bits. -/
def decodeTableWord (_nbits _w : Nat) : Option Instr := none

end Sys2Proof
end

