-- ==== Sys2Proof/Config.lean ====
section
/-!
DEFINITION. What the spec leaves open: uninterpreted constants with no body, so that nothing can be proved of their
values. Each is named in an assumption-log entry.
-/
namespace Sys2Proof

/-- The value number k of those the spec leaves undefined or does not state (log entry 3). -/
opaque Config.freeValue : Nat → Nat

/-- Low byte of an error-log cause the spec asks for without giving its number; k names the occasion (log entry 4). -/
opaque Config.openCause : Nat → Nat

/-- The 64-bit detail field of a log entry whose parts the spec names without giving their bit places, from those
parts (log entry 5). -/
opaque Config.packDetail : List Nat → Nat

/-- IEEE 754-2019 lets an implementation detect tininess before or after rounding (log entry 6). -/
opaque Config.tinyBeforeRounding : Bool

/-- IEEE 754-2019 leaves open whether fusedMultiplyAdd(0, ∞, quiet NaN) signals invalid (log entry 6). -/
opaque Config.fmaInvalidOnQuietNan : Bool

/-- Rounding of a quotient whose resolution the spec states and whose rounding it does not: whether num / den is
rounded up when it is not exact (log entry 7). -/
opaque Config.roundUp : Nat → Nat → Bool

/-- The rounding, as an FCSR code, of the binary32 difference that DELTA compares (Table 08-14 does not name it; log entry 7). -/
opaque Config.deltaRound : Nat

/-- Where two directions or choices are equal and the spec names no winner; the number names the occasion (log entry
8). -/
opaque Config.tie : Nat → Bool

/-- Bytes a primary mirrors per beat beside the station images and the declared regions: the spec counts them in R575
and does not give their message sizes (log entry 10). -/
opaque Config.mirrorOther : Nat

/-- The coefficients of the servo's proportional-integral loop by bandwidth code, in units of the frequency word for each ns of offset:
the proportional and the integral one; and for each ns that a second of a source without phase is off. The spec gives bandwidth and
damping and not these numbers (log entry 11). -/
opaque Config.servoKp : Nat → Nat
opaque Config.servoKi : Nat → Nat
opaque Config.servoKf : Nat → Nat

/-- The cluster whose SRAM a declared region d with a cluster SRAM address means: the register holds an engine address, which
names no cluster (log entry 12). -/
opaque Config.declCluster : Nat → Nat

/-- Cause of the log entry for a GL_RESET write of another kind: the card says that it is logged and Table 20-9 names no cause
for it (log entry 4). -/
opaque Config.resetKindCause : Nat

/-- Whether an image's digest, its ECDSA P-384 signature and the hash of its public key hold (R643): cryptography the model does
not compute; the argument is the image's bytes by offset (log entry 13). -/
opaque Config.imageGenuine : List (Nat × BitVec 8) → Bool

/-- Whether the rows of the on-die network are numbered from north to south (NC_PAR_LOG names the ports and no rule the direction; log
entry 75). -/
opaque Config.rowZeroNorth : Bool

/-- The vendor, subsystem vendor and subsystem IDs that the configuration image carries (Table 10-1; log entry 77). -/
opaque Config.pcieId : Fin 3 → Nat

/-- The number of tier-2 rings that the coupler word of an answer gives, 0 for a station that is no coupler: the places of its flag and
count within the 4 bytes are not stated (Table 03-8; log 62). -/
opaque Config.couplerRings : Nat → Nat

end Sys2Proof
end

