-- ==== Sys2Proof/Machine/Regs.lean ====
section
/-!
DEFINITION. The module's registers: one name per register card of the spec (its BAR0 byte offset; families take
their index), and one name per field. Registers reached through a select register (station table, ATT, event
table, reflex table, mirrors, group information, NoC statistics) have keys above BAR0, one per entry, so that
every register has one home; the register access path translates. R4: the staging copy of X is the same key in
the staged map.
-/
namespace Sys2Proof.Machine

/-- A register field: its register's key, its lowest bit, its width. -/
structure RF where
  reg : Nat
  lo : Nat
  width : Nat
deriving DecidableEq, Repr

/-- BT_TIME (02): Fabric time. -/
def BT_TIME : Nat := 0x100000
def BT_TIME_time_ns : RF := ⟨BT_TIME, 0, 64⟩
/-- BT_TIME_SUB (02): Fabric time fraction. -/
def BT_TIME_SUB : Nat := 0x100008
def BT_TIME_SUB_frac : RF := ⟨BT_TIME_SUB, 0, 16⟩
/-- BT_STATUS (02): Time and beat status. -/
def BT_STATUS : Nat := 0x100010
def BT_STATUS_hdie_time_free : RF := ⟨BT_STATUS, 13, 1⟩
def BT_STATUS_beat_run : RF := ⟨BT_STATUS, 12, 1⟩
def BT_STATUS_time_valid : RF := ⟨BT_STATUS, 11, 1⟩
def BT_STATUS_src_qual : RF := ⟨BT_STATUS, 7, 4⟩
def BT_STATUS_src_sel : RF := ⟨BT_STATUS, 4, 3⟩
def BT_STATUS_servo_state : RF := ⟨BT_STATUS, 0, 2⟩
/-- BT_EVENT (02): Time and beat events. -/
def BT_EVENT : Nat := 0x100018
def BT_EVENT_loop_changed : RF := ⟨BT_EVENT, 9, 1⟩
def BT_EVENT_lead_exceeded : RF := ⟨BT_EVENT, 8, 1⟩
def BT_EVENT_start_refused : RF := ⟨BT_EVENT, 7, 1⟩
def BT_EVENT_step_refused : RF := ⟨BT_EVENT, 6, 1⟩
def BT_EVENT_step_done : RF := ⟨BT_EVENT, 5, 1⟩
def BT_EVENT_offset_large : RF := ⟨BT_EVENT, 4, 1⟩
def BT_EVENT_pps_lost : RF := ⟨BT_EVENT, 3, 1⟩
def BT_EVENT_holdover_exit : RF := ⟨BT_EVENT, 2, 1⟩
def BT_EVENT_holdover_enter : RF := ⟨BT_EVENT, 1, 1⟩
def BT_EVENT_src_switch : RF := ⟨BT_EVENT, 0, 1⟩
/-- BT_CTRL (02): Beat and time control. -/
def BT_CTRL : Nat := 0x100020
def BT_CTRL_step : RF := ⟨BT_CTRL, 1, 1⟩
def BT_CTRL_beat_en : RF := ⟨BT_CTRL, 0, 1⟩
/-- BT_TIME_SET (02): Time to step to. -/
def BT_TIME_SET : Nat := 0x100028
def BT_TIME_SET_time_ns : RF := ⟨BT_TIME_SET, 0, 64⟩
/-- BT_SRC_CFG (02): Source enables and reversion. -/
def BT_SRC_CFG : Nat := 0x100030
def BT_SRC_CFG_wtr_s : RF := ⟨BT_SRC_CFG, 5, 16⟩
def BT_SRC_CFG_revertive : RF := ⟨BT_SRC_CFG, 4, 1⟩
def BT_SRC_CFG_src_en : RF := ⟨BT_SRC_CFG, 0, 4⟩
/-- BT_SRC_PRIO (02): Source priorities. -/
def BT_SRC_PRIO : Nat := 0x100034
def BT_SRC_PRIO_prio_twin : RF := ⟨BT_SRC_PRIO, 9, 3⟩
def BT_SRC_PRIO_prio_pps : RF := ⟨BT_SRC_PRIO, 6, 3⟩
def BT_SRC_PRIO_prio_ptp : RF := ⟨BT_SRC_PRIO, 3, 3⟩
def BT_SRC_PRIO_prio_ptm : RF := ⟨BT_SRC_PRIO, 0, 3⟩
/-- BT_SERVO (02): Servo parameters. -/
def BT_SERVO : Nat := 0x100038
def BT_SERVO_slew_ppm : RF := ⟨BT_SERVO, 16, 7⟩
def BT_SERVO_step_us : RF := ⟨BT_SERVO, 4, 12⟩
def BT_SERVO_bw : RF := ⟨BT_SERVO, 0, 2⟩
/-- BT_FREQ (02): Frequency word. -/
def BT_FREQ : Nat := 0x100040
def BT_FREQ_freq : RF := ⟨BT_FREQ, 0, 32⟩
/-- BT_OFFSET (02): Last offset of the selected source. -/
def BT_OFFSET : Nat := 0x100044
def BT_OFFSET_offset_ns : RF := ⟨BT_OFFSET, 0, 32⟩
/-- BT_HOLDOVER (02): Holdover duration. -/
def BT_HOLDOVER : Nat := 0x100048
def BT_HOLDOVER_seconds : RF := ⟨BT_HOLDOVER, 0, 32⟩
/-- BT_PTM_CFG (02): PTM requester. -/
def BT_PTM_CFG : Nat := 0x100050
def BT_PTM_CFG_interval : RF := ⟨BT_PTM_CFG, 1, 10⟩
/-- BT_PTM_OFFSET (02): PTM to TAI offset. -/
def BT_PTM_OFFSET : Nat := 0x100058
def BT_PTM_OFFSET_offset_ns : RF := ⟨BT_PTM_OFFSET, 0, 64⟩
/-- BT_PTP_CFG (02): IEEE 1588 client. -/
def BT_PTP_CFG : Nat := 0x100060
def BT_PTP_CFG_transport : RF := ⟨BT_PTP_CFG, 12, 1⟩
def BT_PTP_CFG_announce_to : RF := ⟨BT_PTP_CFG, 8, 4⟩
def BT_PTP_CFG_domain : RF := ⟨BT_PTP_CFG, 0, 7⟩
/-- BT_PPS_CFG (02): PPS and 10 MHz input. -/
def BT_PPS_CFG : Nat := 0x100064
def BT_PPS_CFG_falling : RF := ⟨BT_PPS_CFG, 16, 1⟩
def BT_PPS_CFG_cable_ns : RF := ⟨BT_PPS_CFG, 0, 16⟩
/-- BT_TOD_SECONDS (02): Seconds for the next PPS edge. -/
def BT_TOD_SECONDS : Nat := 0x100068
def BT_TOD_SECONDS_seconds : RF := ⟨BT_TOD_SECONDS, 0, 64⟩
/-- BT_PPS_OUT (02): PPS output. -/
def BT_PPS_OUT : Nat := 0x100070
def BT_PPS_OUT_width_us : RF := ⟨BT_PPS_OUT, 1, 16⟩
def BT_PPS_OUT_enable : RF := ⟨BT_PPS_OUT, 0, 1⟩
/-- BT_BEAT_PERIOD (02): Beat period. -/
def BT_BEAT_PERIOD : Nat := 0x100100
def BT_BEAT_PERIOD_period_10ns : RF := ⟨BT_BEAT_PERIOD, 0, 27⟩
/-- BT_LEAD (02): Downbeat lead. -/
def BT_LEAD : Nat := 0x100110
def BT_LEAD_lead_10ns : RF := ⟨BT_LEAD, 0, 27⟩
/-- BT_PHASE_INPUT (02): Input-complete offset. -/
def BT_PHASE_INPUT : Nat := 0x100120
def BT_PHASE_INPUT_offset_10ns : RF := ⟨BT_PHASE_INPUT, 0, 27⟩
/-- BT_PHASE_COMPUTE (02): Compute-end offset. -/
def BT_PHASE_COMPUTE : Nat := 0x100130
def BT_PHASE_COMPUTE_offset_10ns : RF := ⟨BT_PHASE_COMPUTE, 0, 27⟩
/-- BT_PHASE_OUTPUT (02): Output deadline offset. -/
def BT_PHASE_OUTPUT : Nat := 0x100140
def BT_PHASE_OUTPUT_offset_10ns : RF := ⟨BT_PHASE_OUTPUT, 0, 27⟩
/-- BT_BEAT_START (02): First strike time. -/
def BT_BEAT_START : Nat := 0x100150
def BT_BEAT_START_time_ns : RF := ⟨BT_BEAT_START, 0, 64⟩
/-- BT_BEAT_FIRST (02): First beat number. -/
def BT_BEAT_FIRST : Nat := 0x100158
def BT_BEAT_FIRST_beat : RF := ⟨BT_BEAT_FIRST, 0, 32⟩
/-- BT_BEAT_NUM (02): Current beat number. -/
def BT_BEAT_NUM : Nat := 0x100160
def BT_BEAT_NUM_beat : RF := ⟨BT_BEAT_NUM, 0, 32⟩
/-- BT_STRIKE_TIME (02): Next strike time. -/
def BT_STRIKE_TIME : Nat := 0x100168
def BT_STRIKE_TIME_time_ns : RF := ⟨BT_STRIKE_TIME, 0, 64⟩
/-- BT_DMAX (02): Worst downbeat delay. -/
def BT_DMAX : Nat := 0x100170
def BT_DMAX_ring : RF := ⟨BT_DMAX, 30, 2⟩
def BT_DMAX_dmax_ns : RF := ⟨BT_DMAX, 0, 30⟩
/-- BT_LEAD_CHECK (02): Lead check result. -/
def BT_LEAD_CHECK : Nat := 0x100178
def BT_LEAD_CHECK_cause : RF := ⟨BT_LEAD_CHECK, 29, 3⟩
def BT_LEAD_CHECK_min_lead_ns : RF := ⟨BT_LEAD_CHECK, 0, 29⟩
/-- BT_CAL_CTRL (02): Ring calibration. -/
def BT_CAL_CTRL : Nat := 0x100180
def BT_CAL_CTRL_busy : RF := ⟨BT_CAL_CTRL, 3, 1⟩
def BT_CAL_CTRL_start : RF := ⟨BT_CAL_CTRL, 2, 1⟩
def BT_CAL_CTRL_ring : RF := ⟨BT_CAL_CTRL, 0, 2⟩
/-- BT_LOOP (02): Calibrated loop delays of Ring n. -/
def BT_LOOP (i : Nat) : Nat := 0x1001A0 + i * 0x8
def BT_LOOP_ccw (i : Nat) : RF := ⟨(BT_LOOP i), 32, 32⟩
def BT_LOOP_cw (i : Nat) : RF := ⟨(BT_LOOP i), 0, 32⟩
/-- BT_DB_SLIP_CNT (02): Downbeats with slip over 1 µs. -/
def BT_DB_SLIP_CNT : Nat := 0x1001C0
def BT_DB_SLIP_CNT_count : RF := ⟨BT_DB_SLIP_CNT, 0, 32⟩
/-- BT_LATE_LAUNCH_CNT (02): Timed frames sent late. -/
def BT_LATE_LAUNCH_CNT : Nat := 0x1001C4
def BT_LATE_LAUNCH_CNT_count : RF := ⟨BT_LATE_LAUNCH_CNT, 0, 32⟩
/-- BT_SRC_SWITCH_CNT (02): Source changes. -/
def BT_SRC_SWITCH_CNT : Nat := 0x1001C8
def BT_SRC_SWITCH_CNT_count : RF := ⟨BT_SRC_SWITCH_CNT, 0, 32⟩
/-- RG_PORT_CFG (03): Port configuration. -/
def RG_PORT_CFG (i : Nat) : Nat := 0x200000 + i * 0x400
def RG_PORT_CFG_tx_eq (i : Nat) : RF := ⟨(RG_PORT_CFG i), 16, 8⟩
def RG_PORT_CFG_fec (i : Nat) : RF := ⟨(RG_PORT_CFG i), 10, 2⟩
def RG_PORT_CFG_pcs_loop (i : Nat) : RF := ⟨(RG_PORT_CFG i), 1, 1⟩
def RG_PORT_CFG_enable (i : Nat) : RF := ⟨(RG_PORT_CFG i), 0, 1⟩
/-- RG_PORT_STATUS (03): Port status. -/
def RG_PORT_STATUS (i : Nat) : Nat := 0x200010 + i * 0x400
def RG_PORT_STATUS_peer (i : Nat) : RF := ⟨(RG_PORT_STATUS i), 16, 14⟩
def RG_PORT_STATUS_fec_active (i : Nat) : RF := ⟨(RG_PORT_STATUS i), 11, 1⟩
def RG_PORT_STATUS_fec_lock (i : Nat) : RF := ⟨(RG_PORT_STATUS i), 10, 1⟩
def RG_PORT_STATUS_block_lock (i : Nat) : RF := ⟨(RG_PORT_STATUS i), 9, 1⟩
def RG_PORT_STATUS_hi_ber (i : Nat) : RF := ⟨(RG_PORT_STATUS i), 8, 1⟩
def RG_PORT_STATUS_cut_open (i : Nat) : RF := ⟨(RG_PORT_STATUS i), 5, 1⟩
def RG_PORT_STATUS_replay (i : Nat) : RF := ⟨(RG_PORT_STATUS i), 4, 1⟩
def RG_PORT_STATUS_replay_full (i : Nat) : RF := ⟨(RG_PORT_STATUS i), 3, 1⟩
def RG_PORT_STATUS_state (i : Nat) : RF := ⟨(RG_PORT_STATUS i), 0, 2⟩
/-- RG_PORT_EVENT (03): Port events. -/
def RG_PORT_EVENT (i : Nat) : Nat := 0x200018 + i * 0x400
def RG_PORT_EVENT_hop_mismatch (i : Nat) : RF := ⟨(RG_PORT_EVENT i), 8, 1⟩
def RG_PORT_EVENT_sfp_noncompliant (i : Nat) : RF := ⟨(RG_PORT_EVENT i), 7, 1⟩
def RG_PORT_EVENT_sfp_fault (i : Nat) : RF := ⟨(RG_PORT_EVENT i), 6, 1⟩
def RG_PORT_EVENT_sfp_removed (i : Nat) : RF := ⟨(RG_PORT_EVENT i), 5, 1⟩
def RG_PORT_EVENT_sfp_inserted (i : Nat) : RF := ⟨(RG_PORT_EVENT i), 4, 1⟩
def RG_PORT_EVENT_frag_error (i : Nat) : RF := ⟨(RG_PORT_EVENT i), 3, 1⟩
def RG_PORT_EVENT_retry_drop (i : Nat) : RF := ⟨(RG_PORT_EVENT i), 2, 1⟩
def RG_PORT_EVENT_down (i : Nat) : RF := ⟨(RG_PORT_EVENT i), 1, 1⟩
def RG_PORT_EVENT_up (i : Nat) : RF := ⟨(RG_PORT_EVENT i), 0, 1⟩
/-- RG_PORT_DOWN_CAUSE (03): Last port-down cause. -/
def RG_PORT_DOWN_CAUSE (i : Nat) : Nat := 0x20001C + i * 0x400
def RG_PORT_DOWN_CAUSE_cause (i : Nat) : RF := ⟨(RG_PORT_DOWN_CAUSE i), 0, 4⟩
/-- RG_SFP_STATUS (03): SFP28 module status. -/
def RG_SFP_STATUS (i : Nat) : Nat := 0x200020 + i * 0x400
def RG_SFP_STATUS_temp (i : Nat) : RF := ⟨(RG_SFP_STATUS i), 16, 16⟩
def RG_SFP_STATUS_ext_code (i : Nat) : RF := ⟨(RG_SFP_STATUS i), 8, 8⟩
def RG_SFP_STATUS_compliant (i : Nat) : RF := ⟨(RG_SFP_STATUS i), 4, 1⟩
def RG_SFP_STATUS_tx_disable (i : Nat) : RF := ⟨(RG_SFP_STATUS i), 3, 1⟩
def RG_SFP_STATUS_tx_fault (i : Nat) : RF := ⟨(RG_SFP_STATUS i), 2, 1⟩
def RG_SFP_STATUS_los (i : Nat) : RF := ⟨(RG_SFP_STATUS i), 1, 1⟩
def RG_SFP_STATUS_present (i : Nat) : RF := ⟨(RG_SFP_STATUS i), 0, 1⟩
/-- RG_LINK_RTT (03): Link round trip. -/
def RG_LINK_RTT (i : Nat) : Nat := 0x200028 + i * 0x400
def RG_LINK_RTT_rtt_ns (i : Nat) : RF := ⟨(RG_LINK_RTT i), 0, 32⟩
/-- RG_CNT (03): Port counters. -/
def RG_CNT (i : Nat) (k : Nat) : Nat := 0x200100 + i * 0x400 + k * 0x8
def RG_CNT_count (i : Nat) (k : Nat) : RF := ⟨(RG_CNT i k), 0, 64⟩
/-- RG_RING_CFG (04): Ring configuration. -/
def RG_RING_CFG (i : Nat) : Nat := 0x202000 + i * 0x100
def RG_RING_CFG_expected (i : Nat) : RF := ⟨(RG_RING_CFG i), 16, 11⟩
def RG_RING_CFG_heal_beats (i : Nat) : RF := ⟨(RG_RING_CFG i), 8, 8⟩
def RG_RING_CFG_auto_adopt (i : Nat) : RF := ⟨(RG_RING_CFG i), 3, 1⟩
def RG_RING_CFG_single_dir (i : Nat) : RF := ⟨(RG_RING_CFG i), 2, 1⟩
def RG_RING_CFG_enum_en (i : Nat) : RF := ⟨(RG_RING_CFG i), 1, 1⟩
/-- RG_RING_STATUS (04): Ring status. -/
def RG_RING_STATUS (i : Nat) : Nat := 0x202010 + i * 0x100
def RG_RING_STATUS_count (i : Nat) : RF := ⟨(RG_RING_STATUS i), 18, 11⟩
def RG_RING_STATUS_enumerating (i : Nat) : RF := ⟨(RG_RING_STATUS i), 17, 1⟩
def RG_RING_STATUS_heal_wait (i : Nat) : RF := ⟨(RG_RING_STATUS i), 16, 1⟩
def RG_RING_STATUS_state (i : Nat) : RF := ⟨(RG_RING_STATUS i), 0, 2⟩
/-- RG_RING_BREAK (04): Failed segment runs. -/
def RG_RING_BREAK (i : Nat) : Nat := 0x202018 + i * 0x100
def RG_RING_BREAK_last2 (i : Nat) : RF := ⟨(RG_RING_BREAK i), 48, 11⟩
def RG_RING_BREAK_first2 (i : Nat) : RF := ⟨(RG_RING_BREAK i), 32, 11⟩
def RG_RING_BREAK_last1 (i : Nat) : RF := ⟨(RG_RING_BREAK i), 16, 11⟩
def RG_RING_BREAK_first1 (i : Nat) : RF := ⟨(RG_RING_BREAK i), 0, 11⟩
/-- RG_RING_EVENT (04): Ring events. -/
def RG_RING_EVENT (i : Nat) : Nat := 0x202020 + i * 0x100
def RG_RING_EVENT_cap_exceeded (i : Nat) : RF := ⟨(RG_RING_EVENT i), 7, 1⟩
def RG_RING_EVENT_reroute (i : Nat) : RF := ⟨(RG_RING_EVENT i), 6, 1⟩
def RG_RING_EVENT_topology_changed (i : Nat) : RF := ⟨(RG_RING_EVENT i), 5, 1⟩
def RG_RING_EVENT_enum_done (i : Nat) : RF := ⟨(RG_RING_EVENT i), 4, 1⟩
def RG_RING_EVENT_down (i : Nat) : RF := ⟨(RG_RING_EVENT i), 3, 1⟩
def RG_RING_EVENT_split (i : Nat) : RF := ⟨(RG_RING_EVENT i), 2, 1⟩
def RG_RING_EVENT_broken (i : Nat) : RF := ⟨(RG_RING_EVENT i), 1, 1⟩
def RG_RING_EVENT_closed (i : Nat) : RF := ⟨(RG_RING_EVENT i), 0, 1⟩
/-- RG_RING_CAP (04): Cyclic loads. -/
def RG_RING_CAP (i : Nat) : Nat := 0x202028 + i * 0x100
def RG_RING_CAP_s_ccw (i : Nat) : RF := ⟨(RG_RING_CAP i), 32, 32⟩
def RG_RING_CAP_s_cw (i : Nat) : RF := ⟨(RG_RING_CAP i), 0, 32⟩
/-- RG_RING_CNT (04): Ring counters. -/
def RG_RING_CNT (i : Nat) (k : Nat) : Nat := 0x202080 + i * 0x100 + k * 0x8
def RG_RING_CNT_count (i : Nat) (k : Nat) : RF := ⟨(RG_RING_CNT i k), 0, 64⟩
/-- ST_SEL (04): Selected entry. -/
def ST_SEL : Nat := 0x300000
def ST_SEL_station : RF := ⟨ST_SEL, 0, 14⟩
/-- ST_W0 (04): Word k of the selected entry. -/
def ST_W0 (i : Nat) : Nat := 0x100000000 + i * 0x80
def ST_W0_group (i : Nat) : RF := ⟨(ST_W0 i), 56, 8⟩
def ST_W0_hold_limit (i : Nat) : RF := ⟨(ST_W0 i), 48, 8⟩
def ST_W0_group_en (i : Nat) : RF := ⟨(ST_W0 i), 47, 1⟩
def ST_W0_valid (i : Nat) : RF := ⟨(ST_W0 i), 46, 1⟩
def ST_W0_pref_dir (i : Nat) : RF := ⟨(ST_W0 i), 44, 2⟩
def ST_W0_position (i : Nat) : RF := ⟨(ST_W0 i), 32, 11⟩
def ST_W0_parent (i : Nat) : RF := ⟨(ST_W0 i), 18, 14⟩
def ST_W0_tier (i : Nat) : RF := ⟨(ST_W0 i), 17, 1⟩
def ST_W0_ring (i : Nat) : RF := ⟨(ST_W0 i), 14, 2⟩
def ST_W0_station (i : Nat) : RF := ⟨(ST_W0 i), 0, 14⟩
/-- ST_W1 (04): Word k of the selected entry. -/
def ST_W1 (i : Nat) : Nat := 0x100000010 + i * 0x80
def ST_W1_cfg_len (i : Nat) : RF := ⟨(ST_W1 i), 48, 16⟩
def ST_W1_clamped (i : Nat) : RF := ⟨(ST_W1 i), 38, 1⟩
def ST_W1_hold_req (i : Nat) : RF := ⟨(ST_W1 i), 37, 1⟩
def ST_W1_lead_hold (i : Nat) : RF := ⟨(ST_W1 i), 36, 1⟩
def ST_W1_type_mismatch (i : Nat) : RF := ⟨(ST_W1 i), 35, 1⟩
def ST_W1_state (i : Nat) : RF := ⟨(ST_W1 i), 32, 3⟩
def ST_W1_type_id (i : Nat) : RF := ⟨(ST_W1 i), 0, 32⟩
/-- ST_W2 (04): Word k of the selected entry. -/
def ST_W2 (i : Nat) : Nat := 0x100000020 + i * 0x80
def ST_W2_serial (i : Nat) : RF := ⟨(ST_W2 i), 0, 64⟩
/-- ST_W3 (04): Word k of the selected entry. -/
def ST_W3 (i : Nat) : Nat := 0x100000030 + i * 0x80
def ST_W3_d_ccw (i : Nat) : RF := ⟨(ST_W3 i), 32, 32⟩
def ST_W3_d_cw (i : Nat) : RF := ⟨(ST_W3 i), 0, 32⟩
/-- ST_W4 (04): Word k of the selected entry. -/
def ST_W4 (i : Nat) : Nat := 0x100000040 + i * 0x80
def ST_W4_k_west (i : Nat) : RF := ⟨(ST_W4 i), 32, 32⟩
def ST_W4_k_east (i : Nat) : RF := ⟨(ST_W4 i), 0, 32⟩
/-- ST_W5 (04): Word k of the selected entry. -/
def ST_W5 (i : Nat) : Nat := 0x100000050 + i * 0x80
def ST_W5_cfg_off (i : Nat) : RF := ⟨(ST_W5 i), 32, 32⟩
def ST_W5_out_size (i : Nat) : RF := ⟨(ST_W5 i), 16, 16⟩
def ST_W5_in_size (i : Nat) : RF := ⟨(ST_W5 i), 0, 16⟩
/-- ST_W6 (04): Word k of the selected entry. -/
def ST_W6 (i : Nat) : Nat := 0x100000060 + i * 0x80
def ST_W6_out_off (i : Nat) : RF := ⟨(ST_W6 i), 32, 32⟩
def ST_W6_in_off (i : Nat) : RF := ⟨(ST_W6 i), 0, 32⟩
/-- ST_W7 (04): Word k of the selected entry. -/
def ST_W7 (i : Nat) : Nat := 0x100000070 + i * 0x80
def ST_W7_tc3_budget (i : Nat) : RF := ⟨(ST_W7 i), 48, 16⟩
def ST_W7_tc2_budget (i : Nat) : RF := ⟨(ST_W7 i), 32, 16⟩
def ST_W7_last_seen (i : Nat) : RF := ⟨(ST_W7 i), 0, 32⟩
/-- ST_CLAMP_SET (04): Clamp a station. -/
def ST_CLAMP_SET : Nat := 0x300200
def ST_CLAMP_SET_station : RF := ⟨ST_CLAMP_SET, 0, 14⟩
/-- ST_CLAMP_CLR (04): Release a station clamp. -/
def ST_CLAMP_CLR : Nat := 0x300208
def ST_CLAMP_CLR_station : RF := ⟨ST_CLAMP_CLR, 0, 14⟩
/-- ST_AUTO_RANGE (04): Automatic numbers. -/
def ST_AUTO_RANGE : Nat := 0x300210
def ST_AUTO_RANGE_limit : RF := ⟨ST_AUTO_RANGE, 16, 14⟩
def ST_AUTO_RANGE_base : RF := ⟨ST_AUTO_RANGE, 0, 14⟩
/-- ST_ENUM_CTRL (04): Enumeration control. -/
def ST_ENUM_CTRL : Nat := 0x300218
def ST_ENUM_CTRL_busy : RF := ⟨ST_ENUM_CTRL, 3, 1⟩
def ST_ENUM_CTRL_start : RF := ⟨ST_ENUM_CTRL, 2, 1⟩
def ST_ENUM_CTRL_ring : RF := ⟨ST_ENUM_CTRL, 0, 2⟩
/-- ST_COUNT0 (04): Stations per state. -/
def ST_COUNT0 : Nat := 0x300220
def ST_COUNT0_held : RF := ⟨ST_COUNT0, 48, 14⟩
def ST_COUNT0_running : RF := ⟨ST_COUNT0, 32, 14⟩
def ST_COUNT0_configured : RF := ⟨ST_COUNT0, 16, 14⟩
def ST_COUNT0_discovered : RF := ⟨ST_COUNT0, 0, 14⟩
/-- ST_COUNT1 (04): Stations per state. -/
def ST_COUNT1 : Nat := 0x300228
def ST_COUNT1_clamped : RF := ⟨ST_COUNT1, 16, 14⟩
def ST_COUNT1_absent : RF := ⟨ST_COUNT1, 0, 14⟩
/-- ST_EVENT (04): Station events. -/
def ST_EVENT : Nat := 0x300230
def ST_EVENT_range_full : RF := ⟨ST_EVENT, 5, 1⟩
def ST_EVENT_replay_fail : RF := ⟨ST_EVENT, 4, 1⟩
def ST_EVENT_absent : RF := ⟨ST_EVENT, 3, 1⟩
def ST_EVENT_type_mismatch : RF := ⟨ST_EVENT, 2, 1⟩
def ST_EVENT_new_station : RF := ⟨ST_EVENT, 1, 1⟩
def ST_EVENT_adopted : RF := ⟨ST_EVENT, 0, 1⟩
/-- ST_EVENT_STN (04): Station of the latest event. -/
def ST_EVENT_STN : Nat := 0x300234
def ST_EVENT_STN_bit : RF := ⟨ST_EVENT_STN, 16, 3⟩
def ST_EVENT_STN_station : RF := ⟨ST_EVENT_STN, 0, 14⟩
/-- ST_ANS_TYPE (04): Answered type of the selected entry. -/
def ST_ANS_TYPE : Nat := 0x300238
def ST_ANS_TYPE_type_id : RF := ⟨ST_ANS_TYPE, 0, 32⟩
/-- SK_DECIDE (05): Decision deadline. -/
def SK_DECIDE : Nat := 0x900000
def SK_DECIDE_offset_10ns : RF := ⟨SK_DECIDE, 0, 27⟩
/-- SK_WINDOW (05): Shortest vote window. -/
def SK_WINDOW : Nat := 0x900010
def SK_WINDOW_wmin_ns : RF := ⟨SK_WINDOW, 0, 32⟩
/-- SK_STATUS (05): Last decision. -/
def SK_STATUS : Nat := 0x900018
def SK_STATUS_decided : RF := ⟨SK_STATUS, 31, 1⟩
def SK_STATUS_held : RF := ⟨SK_STATUS, 16, 9⟩
def SK_STATUS_committed : RF := ⟨SK_STATUS, 0, 9⟩
/-- SK_EVENT (05): Strike events. -/
def SK_EVENT : Nat := 0x900020
def SK_EVENT_lost_member : RF := ⟨SK_EVENT, 6, 1⟩
def SK_EVENT_window_short : RF := ⟨SK_EVENT, 5, 1⟩
def SK_EVENT_stale_vote : RF := ⟨SK_EVENT, 4, 1⟩
def SK_EVENT_late_vote : RF := ⟨SK_EVENT, 3, 1⟩
def SK_EVENT_nay : RF := ⟨SK_EVENT, 2, 1⟩
def SK_EVENT_resume : RF := ⟨SK_EVENT, 1, 1⟩
def SK_EVENT_hold : RF := ⟨SK_EVENT, 0, 1⟩
/-- SK_MIRROR (05): Strike mirror. -/
def SK_MIRROR : Nat := 0x900028
def SK_MIRROR_group : RF := ⟨SK_MIRROR, 24, 8⟩
def SK_MIRROR_width_us : RF := ⟨SK_MIRROR, 8, 16⟩
def SK_MIRROR_polarity : RF := ⟨SK_MIRROR, 3, 1⟩
def SK_MIRROR_mode : RF := ⟨SK_MIRROR, 1, 2⟩
def SK_MIRROR_enable : RF := ⟨SK_MIRROR, 0, 1⟩
/-- SK_GSEL (05): Selected group. -/
def SK_GSEL : Nat := 0x900030
def SK_GSEL_group : RF := ⟨SK_GSEL, 0, 8⟩
/-- SK_GINFO (05): Selected group at the last decision. -/
def SK_GINFO (i : Nat) : Nat := 0x600000000 + i * 0x8
def SK_GINFO_first_station (i : Nat) : RF := ⟨(SK_GINFO i), 50, 14⟩
def SK_GINFO_voted (i : Nat) : RF := ⟨(SK_GINFO i), 36, 14⟩
def SK_GINFO_members (i : Nat) : RF := ⟨(SK_GINFO i), 22, 14⟩
def SK_GINFO_cause (i : Nat) : RF := ⟨(SK_GINFO i), 19, 3⟩
def SK_GINFO_hold_run (i : Nat) : RF := ⟨(SK_GINFO i), 0, 16⟩
/-- SK_COMMIT_BEAT (05): Beat of the last bitmap. -/
def SK_COMMIT_BEAT : Nat := 0x900040
def SK_COMMIT_BEAT_beat : RF := ⟨SK_COMMIT_BEAT, 0, 32⟩
/-- SK_COMMIT (05): Last commit bitmap. -/
def SK_COMMIT (i : Nat) : Nat := 0x900100 + i * 0x8
def SK_COMMIT_commit (i : Nat) : RF := ⟨(SK_COMMIT i), 0, 64⟩
/-- SK_FORCE_HOLD (05): Forced hold. -/
def SK_FORCE_HOLD (i : Nat) : Nat := 0x900200 + i * 0x8
def SK_FORCE_HOLD_hold (i : Nat) : RF := ⟨(SK_FORCE_HOLD i), 0, 64⟩
/-- SK_HELD (05): Groups held since clear. -/
def SK_HELD (i : Nat) : Nat := 0x900300 + i * 0x8
def SK_HELD_held (i : Nat) : RF := ⟨(SK_HELD i), 0, 64⟩
/-- SK_CNT (05): Strike counters. -/
def SK_CNT (i : Nat) : Nat := 0x900400 + i * 0x8
def SK_CNT_count (i : Nat) : RF := ⟨(SK_CNT i), 0, 64⟩
/-- SK_GROUP_CFG (05): Group configuration. -/
def SK_GROUP_CFG (i : Nat) : Nat := 0x901000 + i * 0x10
def SK_GROUP_CFG_lost_holds (i : Nat) : RF := ⟨(SK_GROUP_CFG i), 2, 1⟩
def SK_GROUP_CFG_mode (i : Nat) : RF := ⟨(SK_GROUP_CFG i), 0, 2⟩
/-- EN_CTRL (06): Engine control. -/
def EN_CTRL (i : Nat) : Nat := 0xA00000 + i * 0x400
def EN_CTRL_stop (i : Nat) : RF := ⟨(EN_CTRL i), 1, 1⟩
def EN_CTRL_start (i : Nat) : RF := ⟨(EN_CTRL i), 0, 1⟩
/-- EN_STATE (06): Engine state. -/
def EN_STATE (i : Nat) : Nat := 0xA00010 + i * 0x400
def EN_STATE_pc (i : Nat) : RF := ⟨(EN_STATE i), 16, 16⟩
def EN_STATE_bind (i : Nat) : RF := ⟨(EN_STATE i), 5, 4⟩
def EN_STATE_level (i : Nat) : RF := ⟨(EN_STATE i), 4, 1⟩
def EN_STATE_state (i : Nat) : RF := ⟨(EN_STATE i), 0, 3⟩
/-- EN_START_PC (06): Start address. -/
def EN_START_PC (i : Nat) : Nat := 0xA00020 + i * 0x400
def EN_START_PC_word (i : Nat) : RF := ⟨(EN_START_PC i), 2, 14⟩
/-- EN_EXC (06): Last exception. -/
def EN_EXC (i : Nat) : Nat := 0xA00028 + i * 0x400
def EN_EXC_epc (i : Nat) : RF := ⟨(EN_EXC i), 16, 16⟩
def EN_EXC_async (i : Nat) : RF := ⟨(EN_EXC i), 12, 1⟩
def EN_EXC_bind (i : Nat) : RF := ⟨(EN_EXC i), 8, 4⟩
def EN_EXC_vector (i : Nat) : RF := ⟨(EN_EXC i), 0, 5⟩
/-- EN_EXC_ADDR (06): Last faulting address. -/
def EN_EXC_ADDR (i : Nat) : Nat := 0xA00030 + i * 0x400
def EN_EXC_ADDR_addr (i : Nat) : RF := ⟨(EN_EXC_ADDR i), 0, 48⟩
/-- EN_EVQ_COUNT (06): Event queue count. -/
def EN_EVQ_COUNT (i : Nat) : Nat := 0xA00038 + i * 0x400
def EN_EVQ_COUNT_count (i : Nat) : RF := ⟨(EN_EVQ_COUNT i), 0, 7⟩
/-- EN_BIND_A (06): Binding b, trigger. -/
def EN_BIND_A (i : Nat) (k : Nat) : Nat := 0xA00100 + i * 0x400 + k * 0x20
def EN_BIND_A_valid (i : Nat) (k : Nat) : RF := ⟨(EN_BIND_A i k), 63, 1⟩
def EN_BIND_A_kind (i : Nat) (k : Nat) : RF := ⟨(EN_BIND_A i k), 62, 1⟩
def EN_BIND_A_level (i : Nat) (k : Nat) : RF := ⟨(EN_BIND_A i k), 61, 1⟩
def EN_BIND_A_urgent (i : Nat) (k : Nat) : RF := ⟨(EN_BIND_A i k), 60, 1⟩
def EN_BIND_A_prio (i : Nat) (k : Nat) : RF := ⟨(EN_BIND_A i k), 58, 2⟩
def EN_BIND_A_caps (i : Nat) (k : Nat) : RF := ⟨(EN_BIND_A i k), 53, 5⟩
def EN_BIND_A_entry (i : Nat) (k : Nat) : RF := ⟨(EN_BIND_A i k), 34, 14⟩
def EN_BIND_A_phase (i : Nat) (k : Nat) : RF := ⟨(EN_BIND_A i k), 29, 3⟩
def EN_BIND_A_every_m1 (i : Nat) (k : Nat) : RF := ⟨(EN_BIND_A i k), 21, 8⟩
def EN_BIND_A_t (i : Nat) (k : Nat) : RF := ⟨(EN_BIND_A i k), 0, 18⟩
/-- EN_BIND_B (06): Binding b, match and budget. -/
def EN_BIND_B (i : Nat) (k : Nat) : Nat := 0xA00110 + i * 0x400 + k * 0x20
def EN_BIND_B_budget_cycles (i : Nat) (k : Nat) : RF := ⟨(EN_BIND_B i k), 32, 32⟩
def EN_BIND_B_match (i : Nat) (k : Nat) : RF := ⟨(EN_BIND_B i k), 16, 16⟩
def EN_BIND_B_mask (i : Nat) (k : Nat) : RF := ⟨(EN_BIND_B i k), 0, 16⟩
/-- EN_CNT (06): Engine counters. -/
def EN_CNT (i : Nat) (k : Nat) : Nat := 0xA00300 + i * 0x400 + k * 0x8
def EN_CNT_count (i : Nat) (k : Nat) : RF := ⟨(EN_CNT i k), 0, 64⟩
/-- EN_CL_CTRL (06): Cluster control. -/
def EN_CL_CTRL (i : Nat) : Nat := 0xA10000 + i * 0x100
def EN_CL_CTRL_gate_en (i : Nat) : RF := ⟨(EN_CL_CTRL i), 0, 1⟩
/-- EN_CL_STATUS (06): Cluster status. -/
def EN_CL_STATUS (i : Nat) : Nat := 0xA10010 + i * 0x100
def EN_CL_STATUS_phys (i : Nat) : RF := ⟨(EN_CL_STATUS i), 16, 4⟩
def EN_CL_STATUS_gated (i : Nat) : RF := ⟨(EN_CL_STATUS i), 9, 1⟩
def EN_CL_STATUS_clamped (i : Nat) : RF := ⟨(EN_CL_STATUS i), 8, 1⟩
def EN_CL_STATUS_idle (i : Nat) : RF := ⟨(EN_CL_STATUS i), 0, 4⟩
/-- EN_CL_CLAMP (06): Cluster clamp. -/
def EN_CL_CLAMP (i : Nat) : Nat := 0xA10018 + i * 0x100
def EN_CL_CLAMP_clamp (i : Nat) : RF := ⟨(EN_CL_CLAMP i), 0, 1⟩
/-- EN_SPARE (06): Spare cluster. -/
def EN_SPARE : Nat := 0xA20000
def EN_SPARE_valid : RF := ⟨EN_SPARE, 4, 1⟩
def EN_SPARE_cluster : RF := ⟨EN_SPARE, 0, 4⟩
/-- EN_MIGRATE (06): Migration. -/
def EN_MIGRATE : Nat := 0xA20008
def EN_MIGRATE_grace_us : RF := ⟨EN_MIGRATE, 24, 8⟩
def EN_MIGRATE_result : RF := ⟨EN_MIGRATE, 16, 4⟩
def EN_MIGRATE_busy : RF := ⟨EN_MIGRATE, 8, 1⟩
def EN_MIGRATE_go : RF := ⟨EN_MIGRATE, 4, 1⟩
def EN_MIGRATE_source : RF := ⟨EN_MIGRATE, 0, 4⟩
/-- EN_CL_MAP (06): Logical to physical clusters. -/
def EN_CL_MAP : Nat := 0xA20010
def EN_CL_MAP_map : RF := ⟨EN_CL_MAP, 0, 64⟩
/-- EN_EVENT (06): Engine events. -/
def EN_EVENT : Nat := 0xA20018
def EN_EVENT_unmatched : RF := ⟨EN_EVENT, 7, 1⟩
def EN_EVENT_migrate_refused : RF := ⟨EN_EVENT, 6, 1⟩
def EN_EVENT_migrate_done : RF := ⟨EN_EVENT, 5, 1⟩
def EN_EVENT_isram_refused : RF := ⟨EN_EVENT, 4, 1⟩
def EN_EVENT_machine_check : RF := ⟨EN_EVENT, 3, 1⟩
def EN_EVENT_double_fault : RF := ⟨EN_EVENT, 2, 1⟩
def EN_EVENT_budget : RF := ⟨EN_EVENT, 1, 1⟩
def EN_EVENT_overrun : RF := ⟨EN_EVENT, 0, 1⟩
/-- EN_EVENT_ENG (06): Engine of the latest event. -/
def EN_EVENT_ENG : Nat := 0xA2001C
def EN_EVENT_ENG_bit : RF := ⟨EN_EVENT_ENG, 8, 3⟩
def EN_EVENT_ENG_engine : RF := ⟨EN_EVENT_ENG, 0, 6⟩
/-- AT_SEL (10): Selected ATT entry. -/
def AT_SEL : Nat := 0x400000
def AT_SEL_autoinc : RF := ⟨AT_SEL, 31, 1⟩
def AT_SEL_index : RF := ⟨AT_SEL, 0, 16⟩
/-- AT_E0 (10): Word 0 of the selected entry. -/
def AT_E0 (i : Nat) : Nat := 0x200000000 + i * 0x20
def AT_E0_valid (i : Nat) : RF := ⟨(AT_E0 i), 63, 1⟩
def AT_E0_r (i : Nat) : RF := ⟨(AT_E0 i), 62, 1⟩
def AT_E0_w (i : Nat) : RF := ⟨(AT_E0 i), 61, 1⟩
def AT_E0_mtype (i : Nat) : RF := ⟨(AT_E0 i), 60, 1⟩
def AT_E0_pf (i : Nat) : RF := ⟨(AT_E0 i), 59, 1⟩
def AT_E0_rs (i : Nat) : RF := ⟨(AT_E0 i), 58, 1⟩
def AT_E0_cls (i : Nat) : RF := ⟨(AT_E0 i), 57, 1⟩
def AT_E0_ack (i : Nat) : RF := ⟨(AT_E0 i), 56, 1⟩
def AT_E0_swap (i : Nat) : RF := ⟨(AT_E0 i), 54, 2⟩
def AT_E0_acc_w (i : Nat) : RF := ⟨(AT_E0 i), 51, 3⟩
def AT_E0_strict (i : Nat) : RF := ⟨(AT_E0 i), 50, 1⟩
def AT_E0_fab_page (i : Nat) : RF := ⟨(AT_E0 i), 20, 27⟩
/-- AT_E1 (10): Word 1 of the selected entry. -/
def AT_E1 (i : Nat) : Nat := 0x200000010 + i * 0x20
def AT_E1_hits (i : Nat) : RF := ⟨(AT_E1 i), 32, 32⟩
/-- AT_EVENT (10): Translation events. -/
def AT_EVENT : Nat := 0x400200
def AT_EVENT_refused : RF := ⟨AT_EVENT, 6, 1⟩
def AT_EVENT_poisoned : RF := ⟨AT_EVENT, 5, 1⟩
def AT_EVENT_atomic : RF := ⟨AT_EVENT, 4, 1⟩
def AT_EVENT_uhlux_long : RF := ⟨AT_EVENT, 3, 1⟩
def AT_EVENT_width : RF := ⟨AT_EVENT, 2, 1⟩
def AT_EVENT_rights : RF := ⟨AT_EVENT, 1, 1⟩
def AT_EVENT_unmapped : RF := ⟨AT_EVENT, 0, 1⟩
/-- AT_FAULT (10): Latest translation fault. -/
def AT_FAULT : Nat := 0x400208
def AT_FAULT_requester : RF := ⟨AT_FAULT, 48, 16⟩
def AT_FAULT_reason : RF := ⟨AT_FAULT, 44, 4⟩
def AT_FAULT_write : RF := ⟨AT_FAULT, 43, 1⟩
def AT_FAULT_offset : RF := ⟨AT_FAULT, 0, 36⟩
/-- AT_CNT (10): Translation counters. -/
def AT_CNT (i : Nat) : Nat := 0x400300 + i * 0x8
def AT_CNT_count (i : Nat) : RF := ⟨(AT_CNT i), 0, 64⟩
/-- BR_HRD_TO (11): Host read abandonment limit. -/
def BR_HRD_TO : Nat := 0x500000
def BR_HRD_TO_limit_us : RF := ⟨BR_HRD_TO, 0, 32⟩
/-- BR_STATUS (11): Bridge status. -/
def BR_STATUS : Nat := 0x500008
def BR_STATUS_host_reads : RF := ⟨BR_STATUS, 16, 10⟩
def BR_STATUS_posted_fill : RF := ⟨BR_STATUS, 0, 11⟩
/-- BR_EVENT (11): Bridge events. -/
def BR_EVENT : Nat := 0x500010
def BR_EVENT_mirror_refused : RF := ⟨BR_EVENT, 8, 1⟩
def BR_EVENT_mirror_err : RF := ⟨BR_EVENT, 7, 1⟩
def BR_EVENT_cwp_refused : RF := ⟨BR_EVENT, 6, 1⟩
def BR_EVENT_fence_lost : RF := ⟨BR_EVENT, 5, 1⟩
def BR_EVENT_orphan_ovf : RF := ⟨BR_EVENT, 4, 1⟩
def BR_EVENT_orphan : RF := ⟨BR_EVENT, 3, 1⟩
def BR_EVENT_host_abandon : RF := ⟨BR_EVENT, 2, 1⟩
def BR_EVENT_nonposted_err : RF := ⟨BR_EVENT, 1, 1⟩
def BR_EVENT_posted_err : RF := ⟨BR_EVENT, 0, 1⟩
/-- BR_SEQ (11): Next bridge sequence number. -/
def BR_SEQ : Nat := 0x500018
def BR_SEQ_seq : RF := ⟨BR_SEQ, 0, 64⟩
/-- BR_CWP_ADDR (11): CWP target. -/
def BR_CWP_ADDR (i : Nat) : Nat := 0x500100 + i * 0x40
def BR_CWP_ADDR_offset (i : Nat) : RF := ⟨(BR_CWP_ADDR i), 0, 36⟩
/-- BR_CWP_DATA (11): CWP data. -/
def BR_CWP_DATA (i : Nat) : Nat := 0x500108 + i * 0x40
def BR_CWP_DATA_data (i : Nat) : RF := ⟨(BR_CWP_DATA i), 0, 64⟩
/-- BR_CWP_CTRL (11): CWP control. -/
def BR_CWP_CTRL (i : Nat) : Nat := 0x500110 + i * 0x40
def BR_CWP_CTRL_size (i : Nat) : RF := ⟨(BR_CWP_CTRL i), 2, 2⟩
def BR_CWP_CTRL_go (i : Nat) : RF := ⟨(BR_CWP_CTRL i), 0, 1⟩
/-- BR_CWP_STATUS (11): CWP result, waiting. -/
def BR_CWP_STATUS (i : Nat) : Nat := 0x500118 + i * 0x40
def BR_CWP_STATUS_bseq (i : Nat) : RF := ⟨(BR_CWP_STATUS i), 32, 32⟩
def BR_CWP_STATUS_busy (i : Nat) : RF := ⟨(BR_CWP_STATUS i), 8, 1⟩
def BR_CWP_STATUS_code (i : Nat) : RF := ⟨(BR_CWP_STATUS i), 0, 8⟩
/-- BR_CWP_PEEK (11): CWP result, at once. -/
def BR_CWP_PEEK (i : Nat) : Nat := 0x500120 + i * 0x40
def BR_CWP_PEEK_bseq (i : Nat) : RF := ⟨(BR_CWP_PEEK i), 32, 32⟩
def BR_CWP_PEEK_busy (i : Nat) : RF := ⟨(BR_CWP_PEEK i), 8, 1⟩
def BR_CWP_PEEK_code (i : Nat) : RF := ⟨(BR_CWP_PEEK i), 0, 8⟩
/-- BR_ORPH_COUNT (11): Orphan entries held. -/
def BR_ORPH_COUNT : Nat := 0x500400
def BR_ORPH_COUNT_count : RF := ⟨BR_ORPH_COUNT, 0, 5⟩
/-- BR_ORPH_POP (11): Remove oldest orphan. -/
def BR_ORPH_POP : Nat := 0x500408
def BR_ORPH_POP_pop : RF := ⟨BR_ORPH_POP, 0, 1⟩
/-- BR_ORPH_ENTRY (11): Word k of the oldest orphan. -/
def BR_ORPH_ENTRY (i : Nat) : Nat := 0x500480 + i * 0x8
def BR_ORPH_ENTRY_word (i : Nat) : RF := ⟨(BR_ORPH_ENTRY i), 0, 64⟩
/-- BR_PERR_CNT (11): Posted errors of master m. -/
def BR_PERR_CNT (i : Nat) : Nat := 0x500800 + i * 0x8
def BR_PERR_CNT_count (i : Nat) : RF := ⟨(BR_PERR_CNT i), 0, 64⟩
/-- BR_MSEL (11): Selected mirror. -/
def BR_MSEL : Nat := 0x501000
def BR_MSEL_mirror : RF := ⟨BR_MSEL, 0, 8⟩
/-- BR_MCFG (11): Mirror configuration. -/
def BR_MCFG (i : Nat) : Nat := 0x500000000 + i * 0x80
def BR_MCFG_valid (i : Nat) : RF := ⟨(BR_MCFG i), 31, 1⟩
def BR_MCFG_dir (i : Nat) : RF := ⟨(BR_MCFG i), 30, 1⟩
def BR_MCFG_swap (i : Nat) : RF := ⟨(BR_MCFG i), 28, 2⟩
def BR_MCFG_len_w (i : Nat) : RF := ⟨(BR_MCFG i), 16, 4⟩
def BR_MCFG_period_m1 (i : Nat) : RF := ⟨(BR_MCFG i), 8, 8⟩
/-- BR_MFAB (11): Mirror fabric address. -/
def BR_MFAB (i : Nat) : Nat := 0x500000010 + i * 0x80
def BR_MFAB_faddr (i : Nat) : RF := ⟨(BR_MFAB i), 0, 47⟩
/-- BR_MDST (11): Mirror record. -/
def BR_MDST (i : Nat) : Nat := 0x500000020 + i * 0x80
def BR_MDST_rec (i : Nat) : RF := ⟨(BR_MDST i), 6, 28⟩
/-- BR_MSTAT (11): Mirror status. -/
def BR_MSTAT (i : Nat) : Nat := 0x500000030 + i * 0x80
def BR_MSTAT_skipped (i : Nat) : RF := ⟨(BR_MSTAT i), 40, 24⟩
def BR_MSTAT_sent_gen (i : Nat) : RF := ⟨(BR_MSTAT i), 16, 24⟩
def BR_MSTAT_code (i : Nat) : RF := ⟨(BR_MSTAT i), 0, 8⟩
/-- BR_CNT (11): Bridge counters. -/
def BR_CNT (i : Nat) : Nat := 0x501100 + i * 0x8
def BR_CNT_count (i : Nat) : RF := ⟨(BR_CNT i), 0, 64⟩
/-- UX_CFG (12): Port configuration. -/
def UX_CFG (i : Nat) : Nat := 0xD00000 + i * 0x1000
def UX_CFG_absent_after (i : Nat) : RF := ⟨(UX_CFG i), 8, 4⟩
def UX_CFG_inbound_en (i : Nat) : RF := ⟨(UX_CFG i), 2, 1⟩
def UX_CFG_arb_en (i : Nat) : RF := ⟨(UX_CFG i), 1, 1⟩
def UX_CFG_enable (i : Nat) : RF := ⟨(UX_CFG i), 0, 1⟩
/-- UX_CTRL (12): Port control. -/
def UX_CTRL (i : Nat) : Nat := 0xD00010 + i * 0x1000
def UX_CTRL_sysreset (i : Nat) : RF := ⟨(UX_CTRL i), 0, 1⟩
/-- UX_STATUS (12): Port status. -/
def UX_STATUS (i : Nat) : Nat := 0xD00018 + i * 0x1000
def UX_STATUS_irq (i : Nat) : RF := ⟨(UX_STATUS i), 9, 7⟩
def UX_STATUS_inq (i : Nat) : RF := ⟨(UX_STATUS i), 0, 7⟩
/-- UX_EVENT (12): Port events. -/
def UX_EVENT (i : Nat) : Nat := 0xD00020 + i * 0x1000
def UX_EVENT_refused (i : Nat) : RF := ⟨(UX_EVENT i), 8, 1⟩
def UX_EVENT_irq_disabled (i : Nat) : RF := ⟨(UX_EVENT i), 7, 1⟩
def UX_EVENT_spurious (i : Nat) : RF := ⟨(UX_EVENT i), 6, 1⟩
def UX_EVENT_lock_rejected (i : Nat) : RF := ⟨(UX_EVENT i), 5, 1⟩
def UX_EVENT_inbound_denied (i : Nat) : RF := ⟨(UX_EVENT i), 4, 1⟩
def UX_EVENT_bus_hog (i : Nat) : RF := ⟨(UX_EVENT i), 3, 1⟩
def UX_EVENT_absent (i : Nat) : RF := ⟨(UX_EVENT i), 2, 1⟩
def UX_EVENT_timeout (i : Nat) : RF := ⟨(UX_EVENT i), 1, 1⟩
def UX_EVENT_berr (i : Nat) : RF := ⟨(UX_EVENT i), 0, 1⟩
/-- UX_SLOT (12): Slots. -/
def UX_SLOT (i : Nat) : Nat := 0xD00030 + i * 0x1000
def UX_SLOT_absent (i : Nat) : RF := ⟨(UX_SLOT i), 16, 16⟩
def UX_SLOT_en (i : Nat) : RF := ⟨(UX_SLOT i), 0, 16⟩
/-- UX_IRQ_CFG (12): Interrupts. -/
def UX_IRQ_CFG (i : Nat) : Nat := 0xD00040 + i * 0x1000
def UX_IRQ_CFG_ev_base (i : Nat) : RF := ⟨(UX_IRQ_CFG i), 16, 16⟩
def UX_IRQ_CFG_en (i : Nat) : RF := ⟨(UX_IRQ_CFG i), 1, 7⟩
/-- UX_LAST_IACK (12): Last acknowledge. -/
def UX_LAST_IACK (i : Nat) : Nat := 0xD00048 + i * 0x1000
def UX_LAST_IACK_spurious (i : Nat) : RF := ⟨(UX_LAST_IACK i), 11, 1⟩
def UX_LAST_IACK_level (i : Nat) : RF := ⟨(UX_LAST_IACK i), 8, 3⟩
def UX_LAST_IACK_vector (i : Nat) : RF := ⟨(UX_LAST_IACK i), 0, 8⟩
/-- UX_IWIN (12): Inbound window w. -/
def UX_IWIN (i : Nat) (k : Nat) : Nat := 0xD00100 + i * 0x1000 + k * 0x10
def UX_IWIN_valid (i : Nat) (k : Nat) : RF := ⟨(UX_IWIN i k), 63, 1⟩
def UX_IWIN_r (i : Nat) (k : Nat) : RF := ⟨(UX_IWIN i k), 62, 1⟩
def UX_IWIN_w (i : Nat) (k : Nat) : RF := ⟨(UX_IWIN i k), 61, 1⟩
def UX_IWIN_swap (i : Nat) (k : Nat) : RF := ⟨(UX_IWIN i k), 59, 2⟩
def UX_IWIN_size_m1 (i : Nat) (k : Nat) : RF := ⟨(UX_IWIN i k), 48, 8⟩
def UX_IWIN_base (i : Nat) (k : Nat) : RF := ⟨(UX_IWIN i k), 40, 8⟩
def UX_IWIN_dram_off (i : Nat) (k : Nat) : RF := ⟨(UX_IWIN i k), 0, 18⟩
/-- UX_CNT (12): Port counters. -/
def UX_CNT (i : Nat) (k : Nat) : Nat := 0xD00200 + i * 0x1000 + k * 0x4
def UX_CNT_count (i : Nat) (k : Nat) : RF := ⟨(UX_CNT i k), 0, 32⟩
/-- EV_SEL (13): Selected event entry. -/
def EV_SEL : Nat := 0x600000
def EV_SEL_autoinc : RF := ⟨EV_SEL, 31, 1⟩
def EV_SEL_index : RF := ⟨EV_SEL, 0, 16⟩
/-- EV_E0 (13): Event table entry. -/
def EV_E0 (i : Nat) : Nat := 0x300000000 + i * 0x20
def EV_E0_valid (i : Nat) : RF := ⟨(EV_E0 i), 63, 1⟩
def EV_E0_route (i : Nat) : RF := ⟨(EV_E0 i), 61, 2⟩
def EV_E0_pay_en (i : Nat) : RF := ⟨(EV_E0 i), 60, 1⟩
def EV_E0_holdoff_us (i : Nat) : RF := ⟨(EV_E0 i), 44, 16⟩
def EV_E0_vector (i : Nat) : RF := ⟨(EV_E0 i), 33, 11⟩
def EV_E0_engine (i : Nat) : RF := ⟨(EV_E0 i), 26, 6⟩
def EV_E0_pay_off (i : Nat) : RF := ⟨(EV_E0 i), 0, 26⟩
/-- EV_E1 (13): Entry counts. -/
def EV_E1 (i : Nat) : Nat := 0x300000010 + i * 0x20
def EV_E1_occur (i : Nat) : RF := ⟨(EV_E1 i), 32, 32⟩
def EV_E1_pending (i : Nat) : RF := ⟨(EV_E1 i), 0, 32⟩
/-- EV_SEQ (13): Event sequence number. -/
def EV_SEQ : Nat := 0x600200
def EV_SEQ_seq : RF := ⟨EV_SEQ, 0, 64⟩
/-- EV_EVENT (13): Event unit events. -/
def EV_EVENT : Nat := 0x600210
def EV_EVENT_pay_fail : RF := ⟨EV_EVENT, 3, 1⟩
def EV_EVENT_engine_held : RF := ⟨EV_EVENT, 2, 1⟩
def EV_EVENT_unrouted : RF := ⟨EV_EVENT, 1, 1⟩
def EV_EVENT_reserved_id : RF := ⟨EV_EVENT, 0, 1⟩
/-- EV_CNT (13): Event counters. -/
def EV_CNT (i : Nat) : Nat := 0x600300 + i * 0x8
def EV_CNT_count (i : Nat) : RF := ⟨(EV_CNT i), 0, 64⟩
/-- MX_EVENT (13): MSI-X events. -/
def MX_EVENT : Nat := 0x709000
def MX_EVENT_held : RF := ⟨MX_EVENT, 0, 1⟩
/-- MX_CNT (13): MSI-X counters. -/
def MX_CNT (i : Nat) : Nat := 0x709100 + i * 0x8
def MX_CNT_count (i : Nat) : RF := ⟨(MX_CNT i), 0, 64⟩
/-- MX_VCNT (13): Occurrences per vector. -/
def MX_VCNT (i : Nat) : Nat := 0x70A000 + i * 0x4
def MX_VCNT_count (i : Nat) : RF := ⟨(MX_VCNT i), 0, 32⟩
/-- MX_VREC (13): Last record of vector v. -/
def MX_VREC (i : Nat) (k : Nat) : Nat := 0x710000 + i * 0x20 + k * 0x8
def MX_VREC_rec (i : Nat) (k : Nat) : RF := ⟨(MX_VREC i k), 0, 64⟩
/-- TX_SEL (13): Selected reflex entry. -/
def TX_SEL : Nat := 0x800000
def TX_SEL_index : RF := ⟨TX_SEL, 0, 12⟩
/-- TX_W0 (13): Word k of the selected entry. -/
def TX_W0 (i : Nat) : Nat := 0x400000000 + i * 0x100
def TX_W0_valid (i : Nat) : RF := ⟨(TX_W0 i), 63, 1⟩
def TX_W0_nout_m1 (i : Nat) : RF := ⟨(TX_W0 i), 61, 2⟩
def TX_W0_any_src (i : Nat) : RF := ⟨(TX_W0 i), 60, 1⟩
def TX_W0_src (i : Nat) : RF := ⟨(TX_W0 i), 46, 14⟩
def TX_W0_code (i : Nat) : RF := ⟨(TX_W0 i), 16, 16⟩
def TX_W0_cond_val (i : Nat) : RF := ⟨(TX_W0 i), 0, 16⟩
/-- TX_W1 (13): Word k of the selected entry. -/
def TX_W1 (i : Nat) : Nat := 0x400000010 + i * 0x100
def TX_W1_cond_mask (i : Nat) : RF := ⟨(TX_W1 i), 48, 16⟩
def TX_W1_post_id (i : Nat) : RF := ⟨(TX_W1 i), 32, 16⟩
/-- TX_WO (13): Word k of the selected entry. -/
def TX_WO (i : Nat) (k : Nat) : Nat := 0x400000020 + i * 0x100 + k * 0x20
def TX_WO_station (i : Nat) (k : Nat) : RF := ⟨(TX_WO i k), 50, 14⟩
def TX_WO_space (i : Nat) (k : Nat) : RF := ⟨(TX_WO i k), 49, 1⟩
def TX_WO_size (i : Nat) (k : Nat) : RF := ⟨(TX_WO i k), 44, 3⟩
def TX_WO_offset (i : Nat) (k : Nat) : RF := ⟨(TX_WO i k), 0, 31⟩
/-- TX_WD (13): Word k of the selected entry. -/
def TX_WD (i : Nat) (k : Nat) : Nat := 0x400000030 + i * 0x100 + k * 0x20
def TX_WD_data (i : Nat) (k : Nat) : RF := ⟨(TX_WD i k), 0, 64⟩
/-- TX_CHECK (13): Reflex staging check. -/
def TX_CHECK : Nat := 0x800300
def TX_CHECK_cause : RF := ⟨TX_CHECK, 30, 2⟩
def TX_CHECK_load : RF := ⟨TX_CHECK, 24, 3⟩
def TX_CHECK_ring : RF := ⟨TX_CHECK, 22, 2⟩
def TX_CHECK_entry : RF := ⟨TX_CHECK, 0, 12⟩
/-- TX_EVENT (13): Tocsin events. -/
def TX_EVENT : Nat := 0x800310
def TX_EVENT_hist_sat : RF := ⟨TX_EVENT, 5, 1⟩
def TX_EVENT_be_drop : RF := ⟨TX_EVENT, 4, 1⟩
def TX_EVENT_out_drop : RF := ⟨TX_EVENT, 3, 1⟩
def TX_EVENT_table_mismatch : RF := ⟨TX_EVENT, 2, 1⟩
def TX_EVENT_budget : RF := ⟨TX_EVENT, 1, 1⟩
def TX_EVENT_disagree : RF := ⟨TX_EVENT, 0, 1⟩
/-- TX_DIS (13): Last disagreement. -/
def TX_DIS : Nat := 0x800318
def TX_DIS_match_a : RF := ⟨TX_DIS, 63, 1⟩
def TX_DIS_idx_a : RF := ⟨TX_DIS, 51, 12⟩
def TX_DIS_match_b : RF := ⟨TX_DIS, 50, 1⟩
def TX_DIS_idx_b : RF := ⟨TX_DIS, 38, 12⟩
def TX_DIS_port : RF := ⟨TX_DIS, 35, 3⟩
def TX_DIS_code : RF := ⟨TX_DIS, 14, 16⟩
def TX_DIS_station : RF := ⟨TX_DIS, 0, 14⟩
/-- TX_BUDGET (13): TC0 budget in this beat. -/
def TX_BUDGET : Nat := 0x800320
def TX_BUDGET_over : RF := ⟨TX_BUDGET, 16, 8⟩
def TX_BUDGET_count : RF := ⟨TX_BUDGET, 0, 13⟩
/-- TX_CNT (13): Tocsin counters. -/
def TX_CNT (i : Nat) : Nat := 0x800400 + i * 0x8
def TX_CNT_count (i : Nat) : RF := ⟨(TX_CNT i), 0, 64⟩
/-- TX_HIST (13): Reflex latency histogram. -/
def TX_HIST (i : Nat) : Nat := 0x800500 + i * 0x4
def TX_HIST_count (i : Nat) : RF := ⟨(TX_HIST i), 0, 32⟩
/-- NC_CFG (14): NoC configuration. -/
def NC_CFG : Nat := 0xB00000
def NC_CFG_compat_par : RF := ⟨NC_CFG, 16, 1⟩
def NC_CFG_iso_after : RF := ⟨NC_CFG, 12, 4⟩
def NC_CFG_gate_idle_us : RF := ⟨NC_CFG, 0, 12⟩
/-- NC_EVENT (14): NoC events. -/
def NC_EVENT : Nat := 0xB00010
def NC_EVENT_hist_sat : RF := ⟨NC_EVENT, 6, 1⟩
def NC_EVENT_urgent_demote : RF := ⟨NC_EVENT, 5, 1⟩
def NC_EVENT_wake_abort : RF := ⟨NC_EVENT, 4, 1⟩
def NC_EVENT_parity_err : RF := ⟨NC_EVENT, 3, 1⟩
def NC_EVENT_crc_err : RF := ⟨NC_EVENT, 2, 1⟩
def NC_EVENT_absorbed : RF := ⟨NC_EVENT, 1, 1⟩
def NC_EVENT_isolated : RF := ⟨NC_EVENT, 0, 1⟩
/-- NC_ISO_INFO (14): Latest isolation. -/
def NC_ISO_INFO : Nat := 0xB00018
def NC_ISO_INFO_cause : RF := ⟨NC_ISO_INFO, 8, 2⟩
def NC_ISO_INFO_router : RF := ⟨NC_ISO_INFO, 0, 5⟩
/-- NC_PAR_LOG (14): Latest parity error. -/
def NC_PAR_LOG : Nat := 0xB00020
def NC_PAR_LOG_count : RF := ⟨NC_PAR_LOG, 16, 16⟩
def NC_PAR_LOG_port : RF := ⟨NC_PAR_LOG, 8, 3⟩
def NC_PAR_LOG_router : RF := ⟨NC_PAR_LOG, 0, 5⟩
/-- NC_PORT_CTRL (14): Local port control of router r. -/
def NC_PORT_CTRL (i : Nat) : Nat := 0xB00100 + i * 0x10
def NC_PORT_CTRL_release (i : Nat) : RF := ⟨(NC_PORT_CTRL i), 1, 1⟩
def NC_PORT_CTRL_isolate (i : Nat) : RF := ⟨(NC_PORT_CTRL i), 0, 1⟩
/-- NC_PORT_STATUS (14): Local port status of router r. -/
def NC_PORT_STATUS (i : Nat) : Nat := 0xB00108 + i * 0x10
def NC_PORT_STATUS_waiting (i : Nat) : RF := ⟨(NC_PORT_STATUS i), 16, 16⟩
def NC_PORT_STATUS_wake_req (i : Nat) : RF := ⟨(NC_PORT_STATUS i), 4, 1⟩
def NC_PORT_STATUS_state (i : Nat) : RF := ⟨(NC_PORT_STATUS i), 0, 2⟩
/-- NC_REG (14): Injection regulators of router r. -/
def NC_REG (i : Nat) : Nat := 0xB00400 + i * 0x10
def NC_REG_rate_tc3 (i : Nat) : RF := ⟨(NC_REG i), 53, 10⟩
def NC_REG_burst_tc3 (i : Nat) : RF := ⟨(NC_REG i), 42, 11⟩
def NC_REG_rate_tc2 (i : Nat) : RF := ⟨(NC_REG i), 32, 10⟩
def NC_REG_burst_tc2 (i : Nat) : RF := ⟨(NC_REG i), 21, 11⟩
def NC_REG_rate_tc1 (i : Nat) : RF := ⟨(NC_REG i), 11, 10⟩
def NC_REG_burst_tc1 (i : Nat) : RF := ⟨(NC_REG i), 0, 11⟩
/-- NC_VCLIM (14): Normal channel limits of router r. -/
def NC_VCLIM (i : Nat) : Nat := 0xB00800 + i * 0x10
def NC_VCLIM_post (i : Nat) : RF := ⟨(NC_VCLIM i), 10, 5⟩
def NC_VCLIM_rsp (i : Nat) : RF := ⟨(NC_VCLIM i), 5, 5⟩
def NC_VCLIM_req (i : Nat) : RF := ⟨(NC_VCLIM i), 0, 5⟩
/-- NC_STAT_SEL (14): Selected master. -/
def NC_STAT_SEL : Nat := 0xB00C00
def NC_STAT_SEL_master : RF := ⟨NC_STAT_SEL, 0, 7⟩
/-- NC_ST_CNT (14): Counters of the selected master. -/
def NC_ST_CNT (i : Nat) (k : Nat) : Nat := 0x700000000 + i * 0x80 + k * 0x8
def NC_ST_CNT_count (i : Nat) (k : Nat) : RF := ⟨(NC_ST_CNT i k), 0, 64⟩
/-- NC_ST_HIST (14): Latency bins of the selected master. -/
def NC_ST_HIST (i : Nat) (k : Nat) : Nat := 0x700000040 + i * 0x80 + k * 0x4
def NC_ST_HIST_count (i : Nat) (k : Nat) : RF := ⟨(NC_ST_HIST i k), 0, 32⟩
/-- NC_CNT (14): NoC counters. -/
def NC_CNT (i : Nat) : Nat := 0xB00D00 + i * 0x8
def NC_CNT_count (i : Nat) : RF := ⟨(NC_CNT i), 0, 64⟩
/-- PT_DBG (15): Debug access port checking. -/
def PT_DBG : Nat := 0xC00000
def PT_DBG_bypass : RF := ⟨PT_DBG, 0, 1⟩
/-- PT_EVENT (15): Protection events. -/
def PT_EVENT : Nat := 0xC00010
def PT_EVENT_refused : RF := ⟨PT_EVENT, 6, 1⟩
def PT_EVENT_id_mismatch : RF := ⟨PT_EVENT, 5, 1⟩
def PT_EVENT_debug_denied : RF := ⟨PT_EVENT, 4, 1⟩
def PT_EVENT_lock_write : RF := ⟨PT_EVENT, 3, 1⟩
def PT_EVENT_overlap_cfg : RF := ⟨PT_EVENT, 2, 1⟩
def PT_EVENT_overlap : RF := ⟨PT_EVENT, 1, 1⟩
def PT_EVENT_denied : RF := ⟨PT_EVENT, 0, 1⟩
/-- PT_CHECK (15): Staging check result. -/
def PT_CHECK : Nat := 0xC00018
def PT_CHECK_cause : RF := ⟨PT_CHECK, 30, 2⟩
def PT_CHECK_master : RF := ⟨PT_CHECK, 23, 7⟩
def PT_CHECK_region : RF := ⟨PT_CHECK, 18, 5⟩
def PT_CHECK_region2 : RF := ⟨PT_CHECK, 13, 5⟩
/-- PT_FAULT (15): Latest denial. -/
def PT_FAULT : Nat := 0xC00020
def PT_FAULT_master : RF := ⟨PT_FAULT, 49, 8⟩
def PT_FAULT_reason : RF := ⟨PT_FAULT, 45, 4⟩
def PT_FAULT_write : RF := ⟨PT_FAULT, 44, 1⟩
def PT_FAULT_atomic : RF := ⟨PT_FAULT, 43, 1⟩
def PT_FAULT_level : RF := ⟨PT_FAULT, 42, 1⟩
def PT_FAULT_region : RF := ⟨PT_FAULT, 36, 6⟩
/-- PT_FAULT_ADDR (15): Latest denied address. -/
def PT_FAULT_ADDR : Nat := 0xC00028
def PT_FAULT_ADDR_addr : RF := ⟨PT_FAULT_ADDR, 0, 48⟩
/-- PT_FIRST (15): First denial since clear. -/
def PT_FIRST : Nat := 0xC00030
def PT_FIRST_valid : RF := ⟨PT_FIRST, 63, 1⟩
def PT_FIRST_rest : RF := ⟨PT_FIRST, 0, 63⟩
/-- PT_FIRST_ADDR (15): First denied address. -/
def PT_FIRST_ADDR : Nat := 0xC00038
def PT_FIRST_ADDR_addr : RF := ⟨PT_FIRST_ADDR, 0, 48⟩
/-- PT_CTRL (15): Protection control. -/
def PT_CTRL : Nat := 0xC00040
def PT_CTRL_clear_first : RF := ⟨PT_CTRL, 0, 1⟩
/-- PT_MCFG (15): Master m configuration. -/
def PT_MCFG (i : Nat) : Nat := 0xC00100 + i * 0x10
def PT_MCFG_dflt (i : Nat) : RF := ⟨(PT_MCFG i), 0, 1⟩
/-- PT_DENY_CNT (15): Denials of master m. -/
def PT_DENY_CNT (i : Nat) : Nat := 0xC01000 + i * 0x8
def PT_DENY_CNT_count (i : Nat) : RF := ⟨(PT_DENY_CNT i), 0, 64⟩
/-- PT_RA (15): Region k of master m, word A. -/
def PT_RA (i : Nat) (k : Nat) : Nat := 0xC10000 + i * 0x400 + k * 0x20
def PT_RA_valid (i : Nat) (k : Nat) : RF := ⟨(PT_RA i k), 63, 1⟩
def PT_RA_lock (i : Nat) (k : Nat) : RF := ⟨(PT_RA i k), 62, 1⟩
def PT_RA_r (i : Nat) (k : Nat) : RF := ⟨(PT_RA i k), 61, 1⟩
def PT_RA_w (i : Nat) (k : Nat) : RF := ⟨(PT_RA i k), 60, 1⟩
def PT_RA_a (i : Nat) (k : Nat) : RF := ⟨(PT_RA i k), 59, 1⟩
def PT_RA_lvl (i : Nat) (k : Nat) : RF := ⟨(PT_RA i k), 57, 2⟩
def PT_RA_start (i : Nat) (k : Nat) : RF := ⟨(PT_RA i k), 5, 43⟩
/-- PT_RB (15): Region k of master m, word B. -/
def PT_RB (i : Nat) (k : Nat) : Nat := 0xC10010 + i * 0x400 + k * 0x20
def PT_RB_end (i : Nat) (k : Nat) : RF := ⟨(PT_RB i k), 5, 43⟩
/-- JN_IMG_CFG (16): Image region. -/
def JN_IMG_CFG : Nat := 0xE00000
def JN_IMG_CFG_bank_mib : RF := ⟨JN_IMG_CFG, 15, 11⟩
def JN_IMG_CFG_img_base : RF := ⟨JN_IMG_CFG, 0, 15⟩
/-- JN_CFG_REGION (16): Configuration store. -/
def JN_CFG_REGION : Nat := 0xE00010
def JN_CFG_REGION_size_mib : RF := ⟨JN_CFG_REGION, 15, 15⟩
def JN_CFG_REGION_base_mib : RF := ⟨JN_CFG_REGION, 0, 15⟩
/-- JN_JRN_REGION (16): Journal. -/
def JN_JRN_REGION : Nat := 0xE00020
def JN_JRN_REGION_size_mib : RF := ⟨JN_JRN_REGION, 15, 15⟩
def JN_JRN_REGION_base_mib : RF := ⟨JN_JRN_REGION, 0, 15⟩
/-- JN_CTRL (16): Control. -/
def JN_CTRL : Nat := 0xE00030
def JN_CTRL_scrub_en : RF := ⟨JN_CTRL, 8, 1⟩
def JN_CTRL_degrade : RF := ⟨JN_CTRL, 1, 1⟩
def JN_CTRL_jrn_en : RF := ⟨JN_CTRL, 0, 1⟩
/-- JN_STATUS (16): Status. -/
def JN_STATUS : Nat := 0xE00038
def JN_STATUS_queue : RF := ⟨JN_STATUS, 8, 13⟩
def JN_STATUS_reason : RF := ⟨JN_STATUS, 2, 2⟩
def JN_STATUS_dram_ok : RF := ⟨JN_STATUS, 1, 1⟩
def JN_STATUS_nojrn : RF := ⟨JN_STATUS, 0, 1⟩
/-- JN_DEGRADED (16): Cluster for no-journal mode. -/
def JN_DEGRADED : Nat := 0xE00040
def JN_DEGRADED_cluster : RF := ⟨JN_DEGRADED, 0, 4⟩
/-- JN_SCRUB (16): Scrub period. -/
def JN_SCRUB : Nat := 0xE00050
def JN_SCRUB_hours : RF := ⟨JN_SCRUB, 0, 8⟩
/-- JN_EVENT (16): Image and journal events. -/
def JN_EVENT : Nat := 0xE00058
def JN_EVENT_refused : RF := ⟨JN_EVENT, 14, 1⟩
def JN_EVENT_nojrn : RF := ⟨JN_EVENT, 13, 1⟩
def JN_EVENT_dropped : RF := ⟨JN_EVENT, 12, 1⟩
def JN_EVENT_ecc_uncorr : RF := ⟨JN_EVENT, 11, 1⟩
def JN_EVENT_ecc_corr : RF := ⟨JN_EVENT, 10, 1⟩
def JN_EVENT_carry_late : RF := ⟨JN_EVENT, 9, 1⟩
def JN_EVENT_mv_err : RF := ⟨JN_EVENT, 8, 1⟩
def JN_EVENT_mv_done : RF := ⟨JN_EVENT, 0, 8⟩
/-- JN_NEXT (16): Journal sequence numbers. -/
def JN_NEXT : Nat := 0xE00100
def JN_NEXT_seq : RF := ⟨JN_NEXT, 0, 64⟩
/-- JN_DONE (16): Journal sequence numbers. -/
def JN_DONE : Nat := 0xE00108
def JN_DONE_seq : RF := ⟨JN_DONE, 0, 64⟩
/-- JN_LOW (16): Journal sequence numbers. -/
def JN_LOW : Nat := 0xE00110
def JN_LOW_seq : RF := ⟨JN_LOW, 0, 64⟩
/-- JN_RD_CUR (16): Reader cursor. -/
def JN_RD_CUR (i : Nat) : Nat := 0xE00200 + i * 0x40
def JN_RD_CUR_seq (i : Nat) : RF := ⟨(JN_RD_CUR i), 0, 64⟩
/-- JN_RD_ENTRY (16): Reader entry, words 0 to 3. -/
def JN_RD_ENTRY (i : Nat) (k : Nat) : Nat := 0xE00210 + i * 0x40 + k * 0x8
def JN_RD_ENTRY_word (i : Nat) (k : Nat) : RF := ⟨(JN_RD_ENTRY i k), 0, 64⟩
/-- JN_CNT (16): Counters. -/
def JN_CNT (i : Nat) : Nat := 0xE00300 + i * 0x8
def JN_CNT_count (i : Nat) : RF := ⟨(JN_CNT i), 0, 64⟩
/-- JN_MV_DESC (16): Mover c descriptor, words 0 to 3. -/
def JN_MV_DESC (i : Nat) (k : Nat) : Nat := 0xE01000 + i * 0x100 + k * 0x8
def JN_MV_DESC_word (i : Nat) (k : Nat) : RF := ⟨(JN_MV_DESC i k), 0, 64⟩
/-- JN_MV_COUNT (16): Mover c queue. -/
def JN_MV_COUNT (i : Nat) : Nat := 0xE01020 + i * 0x100
def JN_MV_COUNT_count (i : Nat) : RF := ⟨(JN_MV_COUNT i), 0, 5⟩
/-- JN_MV_DONE (16): Mover c completions. -/
def JN_MV_DONE (i : Nat) : Nat := 0xE01028 + i * 0x100
def JN_MV_DONE_count (i : Nat) : RF := ⟨(JN_MV_DONE i), 0, 32⟩
/-- JN_MV_ERR (16): Mover c last error. -/
def JN_MV_ERR (i : Nat) : Nat := 0xE01030 + i * 0x100
def JN_MV_ERR_done (i : Nat) : RF := ⟨(JN_MV_ERR i), 32, 32⟩
def JN_MV_ERR_code (i : Nat) : RF := ⟨(JN_MV_ERR i), 0, 8⟩
/-- CT_CLAMP (17): Unit clamps. -/
def CT_CLAMP : Nat := 0xF00000
def CT_CLAMP_tenon : RF := ⟨CT_CLAMP, 12, 1⟩
def CT_CLAMP_movers : RF := ⟨CT_CLAMP, 11, 1⟩
def CT_CLAMP_dram : RF := ⟨CT_CLAMP, 10, 1⟩
def CT_CLAMP_uhlux : RF := ⟨CT_CLAMP, 8, 2⟩
def CT_CLAMP_ring_port : RF := ⟨CT_CLAMP, 0, 8⟩
/-- CT_EVENT (17): Containment events. -/
def CT_EVENT : Nat := 0xF00010
def CT_EVENT_fdie_lost : RF := ⟨CT_EVENT, 3, 1⟩
def CT_EVENT_log_overflow : RF := ⟨CT_EVENT, 2, 1⟩
def CT_EVENT_test_fail : RF := ⟨CT_EVENT, 1, 1⟩
def CT_EVENT_test_done : RF := ⟨CT_EVENT, 0, 1⟩
/-- CT_LOG_STATUS (17): Error log status. -/
def CT_LOG_STATUS : Nat := 0xF00018
def CT_LOG_STATUS_overflow : RF := ⟨CT_LOG_STATUS, 32, 32⟩
def CT_LOG_STATUS_count : RF := ⟨CT_LOG_STATUS, 16, 11⟩
def CT_LOG_STATUS_head : RF := ⟨CT_LOG_STATUS, 0, 10⟩
/-- CT_LOG_CTRL (17): Error log control. -/
def CT_LOG_CTRL : Nat := 0xF00020
def CT_LOG_CTRL_clear : RF := ⟨CT_LOG_CTRL, 0, 1⟩
/-- CT_LOG_SEL (17): Selected log position. -/
def CT_LOG_SEL : Nat := 0xF00028
def CT_LOG_SEL_pos : RF := ⟨CT_LOG_SEL, 0, 10⟩
/-- CT_LOG_ENTRY (17): Word k of the selected entry. -/
def CT_LOG_ENTRY (i : Nat) : Nat := 0xF00040 + i * 0x8
def CT_LOG_ENTRY_word (i : Nat) : RF := ⟨(CT_LOG_ENTRY i), 0, 64⟩
/-- CT_TEST_REQ (17): Self-test request. -/
def CT_TEST_REQ : Nat := 0xF00100
def CT_TEST_REQ_migrate : RF := ⟨CT_TEST_REQ, 8, 1⟩
def CT_TEST_REQ_kind : RF := ⟨CT_TEST_REQ, 5, 3⟩
def CT_TEST_REQ_target : RF := ⟨CT_TEST_REQ, 0, 4⟩
/-- CT_TEST_STATUS (17): Self-test status. -/
def CT_TEST_STATUS : Nat := 0xF00108
def CT_TEST_STATUS_element : RF := ⟨CT_TEST_STATUS, 24, 8⟩
def CT_TEST_STATUS_queued : RF := ⟨CT_TEST_STATUS, 4, 4⟩
def CT_TEST_STATUS_code : RF := ⟨CT_TEST_STATUS, 0, 4⟩
/-- CT_CNT (17): Containment counters. -/
def CT_CNT (i : Nat) : Nat := 0xF00200 + i * 0x8
def CT_CNT_count (i : Nat) : RF := ⟨(CT_CNT i), 0, 64⟩
/-- TW_CFG (17): Twin configuration. -/
def TW_CFG : Nat := 0x1200000
def TW_CFG_max_age : RF := ⟨TW_CFG, 2, 16⟩
def TW_CFG_role : RF := ⟨TW_CFG, 0, 2⟩
/-- TW_CTRL (17): Twin control. -/
def TW_CTRL : Nat := 0x1200008
def TW_CTRL_resign : RF := ⟨TW_CTRL, 1, 1⟩
def TW_CTRL_takeover : RF := ⟨TW_CTRL, 0, 1⟩
/-- TW_STATUS (17): Twin status. -/
def TW_STATUS : Nat := 0x1200010
def TW_STATUS_mirror_bytes : RF := ⟨TW_STATUS, 32, 32⟩
def TW_STATUS_mirror_age : RF := ⟨TW_STATUS, 16, 16⟩
def TW_STATUS_sync : RF := ⟨TW_STATUS, 4, 1⟩
def TW_STATUS_tenon_up : RF := ⟨TW_STATUS, 3, 1⟩
def TW_STATUS_fenced : RF := ⟨TW_STATUS, 2, 1⟩
def TW_STATUS_role : RF := ⟨TW_STATUS, 0, 2⟩
/-- TW_EVENT (17): Twin events. -/
def TW_EVENT : Nat := 0x1200018
def TW_EVENT_role_bad : RF := ⟨TW_EVENT, 5, 1⟩
def TW_EVENT_budget : RF := ⟨TW_EVENT, 4, 1⟩
def TW_EVENT_fenced : RF := ⟨TW_EVENT, 3, 1⟩
def TW_EVENT_tenon_down : RF := ⟨TW_EVENT, 2, 1⟩
def TW_EVENT_old_mirror : RF := ⟨TW_EVENT, 1, 1⟩
def TW_EVENT_takeover : RF := ⟨TW_EVENT, 0, 1⟩
/-- TW_DECL (17): Declared region d. -/
def TW_DECL (i : Nat) : Nat := 0x1200100 + i * 0x10
def TW_DECL_valid (i : Nat) : RF := ⟨(TW_DECL i), 63, 1⟩
def TW_DECL_len_64 (i : Nat) : RF := ⟨(TW_DECL i), 48, 15⟩
def TW_DECL_addr (i : Nat) : RF := ⟨(TW_DECL i), 0, 48⟩
/-- TW_CNT (17): Twin counters. -/
def TW_CNT (i : Nat) : Nat := 0x1200200 + i * 0x8
def TW_CNT_count (i : Nat) : RF := ⟨(TW_CNT i), 0, 64⟩
/-- DV_CFG (18): Link configuration. -/
def DV_CFG : Nat := 0x1000000
def DV_CFG_half_en : RF := ⟨DV_CFG, 16, 1⟩
def DV_CFG_err_thresh : RF := ⟨DV_CFG, 0, 16⟩
/-- DV_CTRL (18): Link control. -/
def DV_CTRL : Nat := 0x1000008
def DV_CTRL_unspare : RF := ⟨DV_CTRL, 1, 1⟩
def DV_CTRL_retrain : RF := ⟨DV_CTRL, 0, 1⟩
/-- DV_STATUS (18): Link status. -/
def DV_STATUS : Nat := 0x1000010
def DV_STATUS_sb_up : RF := ⟨DV_STATUS, 9, 1⟩
def DV_STATUS_replay : RF := ⟨DV_STATUS, 8, 1⟩
def DV_STATUS_width_f2h : RF := ⟨DV_STATUS, 6, 2⟩
def DV_STATUS_width_h2f : RF := ⟨DV_STATUS, 4, 2⟩
def DV_STATUS_state : RF := ⟨DV_STATUS, 0, 2⟩
/-- DV_EVENT (18): Link events. -/
def DV_EVENT : Nat := 0x1000018
def DV_EVENT_xing_drop : RF := ⟨DV_EVENT, 5, 1⟩
def DV_EVENT_half_width : RF := ⟨DV_EVENT, 4, 1⟩
def DV_EVENT_spared : RF := ⟨DV_EVENT, 3, 1⟩
def DV_EVENT_retrain : RF := ⟨DV_EVENT, 2, 1⟩
def DV_EVENT_down : RF := ⟨DV_EVENT, 1, 1⟩
def DV_EVENT_up : RF := ⟨DV_EVENT, 0, 1⟩
/-- DV_LANE_MAP (18): Failed lanes. -/
def DV_LANE_MAP : Nat := 0x1000020
def DV_LANE_MAP_f2h : RF := ⟨DV_LANE_MAP, 32, 17⟩
def DV_LANE_MAP_h2f : RF := ⟨DV_LANE_MAP, 0, 17⟩
/-- DV_CLK_STATUS (18): Clock domains. -/
def DV_CLK_STATUS : Nat := 0x1000028
def DV_CLK_STATUS_hold : RF := ⟨DV_CLK_STATUS, 32, 12⟩
def DV_CLK_STATUS_in_reset : RF := ⟨DV_CLK_STATUS, 16, 12⟩
def DV_CLK_STATUS_running : RF := ⟨DV_CLK_STATUS, 0, 12⟩
/-- DV_LANE_ERR (18): Lane errors. -/
def DV_LANE_ERR (i : Nat) : Nat := 0x1000100 + i * 0x4
def DV_LANE_ERR_count (i : Nat) : RF := ⟨(DV_LANE_ERR i), 0, 32⟩
/-- DV_CNT (18): Link counters. -/
def DV_CNT (i : Nat) : Nat := 0x1000200 + i * 0x8
def DV_CNT_count (i : Nat) : RF := ⟨(DV_CNT i), 0, 64⟩
/-- GL_ID (20): Identity. -/
def GL_ID : Nat := 0x0
def GL_ID_device : RF := ⟨GL_ID, 16, 16⟩
def GL_ID_revision : RF := ⟨GL_ID, 12, 4⟩
def GL_ID_fw_major : RF := ⟨GL_ID, 4, 4⟩
def GL_ID_fw_minor : RF := ⟨GL_ID, 0, 4⟩
/-- GL_SERIAL (20): Serial number. -/
def GL_SERIAL : Nat := 0x8
def GL_SERIAL_serial : RF := ⟨GL_SERIAL, 0, 64⟩
/-- GL_BOOT_STATUS (20): Boot result. -/
def GL_BOOT_STATUS : Nat := 0x10
def GL_BOOT_STATUS_dram_fail : RF := ⟨GL_BOOT_STATUS, 9, 1⟩
def GL_BOOT_STATUS_recovery : RF := ⟨GL_BOOT_STATUS, 8, 1⟩
def GL_BOOT_STATUS_slot_cfg : RF := ⟨GL_BOOT_STATUS, 6, 2⟩
def GL_BOOT_STATUS_bank_cfg : RF := ⟨GL_BOOT_STATUS, 5, 1⟩
def GL_BOOT_STATUS_bank_fw : RF := ⟨GL_BOOT_STATUS, 4, 1⟩
def GL_BOOT_STATUS_bank_mc : RF := ⟨GL_BOOT_STATUS, 3, 1⟩
def GL_BOOT_STATUS_done : RF := ⟨GL_BOOT_STATUS, 0, 1⟩
/-- GL_RESET (20): Reset request. -/
def GL_RESET : Nat := 0x18
def GL_RESET_key : RF := ⟨GL_RESET, 16, 16⟩
def GL_RESET_kind : RF := ⟨GL_RESET, 0, 4⟩
/-- GL_RESET_CAUSE (20): Latest reset. -/
def GL_RESET_CAUSE : Nat := 0x20
def GL_RESET_CAUSE_source : RF := ⟨GL_RESET_CAUSE, 8, 8⟩
def GL_RESET_CAUSE_kind : RF := ⟨GL_RESET_CAUSE, 0, 4⟩
/-- GL_STAGE_COMMIT (20): Commit. -/
def GL_STAGE_COMMIT : Nat := 0x100
def GL_STAGE_COMMIT_tag : RF := ⟨GL_STAGE_COMMIT, 0, 16⟩
/-- GL_STAGE_STATUS (20): Commit status. -/
def GL_STAGE_STATUS : Nat := 0x108
def GL_STAGE_STATUS_beat : RF := ⟨GL_STAGE_STATUS, 32, 32⟩
def GL_STAGE_STATUS_tag : RF := ⟨GL_STAGE_STATUS, 16, 16⟩
def GL_STAGE_STATUS_result : RF := ⟨GL_STAGE_STATUS, 12, 4⟩
def GL_STAGE_STATUS_block : RF := ⟨GL_STAGE_STATUS, 0, 8⟩
/-- GL_STAGE_DISCARD (20): Discard staging copies. -/
def GL_STAGE_DISCARD : Nat := 0x110
def GL_STAGE_DISCARD_discard : RF := ⟨GL_STAGE_DISCARD, 0, 1⟩
/-- GL_EVENT (20): Global events. -/
def GL_EVENT : Nat := 0x118
def GL_EVENT_reset_key_bad : RF := ⟨GL_EVENT, 3, 1⟩
def GL_EVENT_boot_done : RF := ⟨GL_EVENT, 2, 1⟩
def GL_EVENT_refused : RF := ⟨GL_EVENT, 1, 1⟩
def GL_EVENT_committed : RF := ⟨GL_EVENT, 0, 1⟩
/-- GL_CNT (20): Commit counters. -/
def GL_CNT (i : Nat) : Nat := 0x200 + i * 0x8
def GL_CNT_count (i : Nat) : RF := ⟨(GL_CNT i), 0, 64⟩
/-- PW_STAGE (20): Hot-swap stage. -/
def PW_STAGE : Nat := 0x1100000
def PW_STAGE_latch_count : RF := ⟨PW_STAGE, 16, 16⟩
def PW_STAGE_latch_cause : RF := ⟨PW_STAGE, 8, 8⟩
def PW_STAGE_b_sel : RF := ⟨PW_STAGE, 7, 1⟩
def PW_STAGE_a_sel : RF := ⟨PW_STAGE, 6, 1⟩
def PW_STAGE_b_valid : RF := ⟨PW_STAGE, 5, 1⟩
def PW_STAGE_a_valid : RF := ⟨PW_STAGE, 4, 1⟩
def PW_STAGE_state : RF := ⟨PW_STAGE, 0, 3⟩
/-- PW_FEED (20): Feed measurements. -/
def PW_FEED : Nat := 0x1100008
def PW_FEED_power : RF := ⟨PW_FEED, 48, 16⟩
def PW_FEED_current : RF := ⟨PW_FEED, 32, 16⟩
def PW_FEED_v_b : RF := ⟨PW_FEED, 16, 16⟩
def PW_FEED_v_a : RF := ⟨PW_FEED, 0, 16⟩
/-- PW_TEMP (20): Sensor s. -/
def PW_TEMP (i : Nat) : Nat := 0x1100100 + i * 0x4
def PW_TEMP_level (i : Nat) : RF := ⟨(PW_TEMP i), 16, 2⟩
def PW_TEMP_temp (i : Nat) : RF := ⟨(PW_TEMP i), 0, 16⟩
/-- PW_THRESH (20): Thresholds of sensor s. -/
def PW_THRESH (i : Nat) : Nat := 0x1100120 + i * 0x4
def PW_THRESH_shutdown (i : Nat) : RF := ⟨(PW_THRESH i), 16, 8⟩
def PW_THRESH_crit (i : Nat) : RF := ⟨(PW_THRESH i), 8, 8⟩
def PW_THRESH_warn (i : Nat) : RF := ⟨(PW_THRESH i), 0, 8⟩
/-- PW_EVENT (20): Power and management events. -/
def PW_EVENT : Nat := 0x1100200
def PW_EVENT_fw_ready : RF := ⟨PW_EVENT, 5, 1⟩
def PW_EVENT_mbx_done : RF := ⟨PW_EVENT, 4, 1⟩
def PW_EVENT_mc_wdog : RF := ⟨PW_EVENT, 3, 1⟩
def PW_EVENT_thermal_crit : RF := ⟨PW_EVENT, 2, 1⟩
def PW_EVENT_thermal_warn : RF := ⟨PW_EVENT, 1, 1⟩
def PW_EVENT_feed_lost : RF := ⟨PW_EVENT, 0, 1⟩
/-- PW_MBX_CMD (20): Mailbox command. -/
def PW_MBX_CMD : Nat := 0x1100300
def PW_MBX_CMD_code : RF := ⟨PW_MBX_CMD, 0, 8⟩
/-- PW_MBX_STATUS (20): Mailbox status. -/
def PW_MBX_STATUS : Nat := 0x1100308
def PW_MBX_STATUS_busy : RF := ⟨PW_MBX_STATUS, 16, 1⟩
def PW_MBX_STATUS_len : RF := ⟨PW_MBX_STATUS, 8, 8⟩
def PW_MBX_STATUS_status : RF := ⟨PW_MBX_STATUS, 0, 8⟩
/-- PW_MBX_ARG (20): Arguments. -/
def PW_MBX_ARG (i : Nat) : Nat := 0x1100310 + i * 0x8
def PW_MBX_ARG_arg (i : Nat) : RF := ⟨(PW_MBX_ARG i), 0, 64⟩
/-- PW_MBX_RSP (20): Response. -/
def PW_MBX_RSP (i : Nat) : Nat := 0x1100360 + i * 0x8
def PW_MBX_RSP_rsp (i : Nat) : RF := ⟨(PW_MBX_RSP i), 0, 64⟩
/-- PW_MBX_BUF (20): Data buffer. -/
def PW_MBX_BUF (i : Nat) : Nat := 0x1101000 + i * 0x8
def PW_MBX_BUF_data (i : Nat) : RF := ⟨(PW_MBX_BUF i), 0, 64⟩
/-- PW_DIO (21): Discrete lines. -/
def PW_DIO : Nat := 0x1100400
def PW_DIO_out : RF := ⟨PW_DIO, 24, 8⟩
def PW_DIO_oe : RF := ⟨PW_DIO, 16, 8⟩
def PW_DIO_level : RF := ⟨PW_DIO, 0, 16⟩
/-- MX_ADDR (13): MSI-X table, message address of vector v. -/
def MX_ADDR (i : Nat) : Nat := 0x700000 + i * 0x10
def MX_ADDR_addr (i : Nat) : RF := ⟨(MX_ADDR i), 0, 64⟩
/-- MX_DATA (13): MSI-X table, message data of vector v. -/
def MX_DATA (i : Nat) : Nat := 0x700008 + i * 0x10
def MX_DATA_data (i : Nat) : RF := ⟨(MX_DATA i), 0, 32⟩
/-- MX_VCTRL (13): MSI-X table, vector control of vector v. -/
def MX_VCTRL (i : Nat) : Nat := 0x70000C + i * 0x10
def MX_VCTRL_mask (i : Nat) : RF := ⟨(MX_VCTRL i), 0, 1⟩
/-- MX_PBA (13): MSI-X pending bit array. -/
def MX_PBA (i : Nat) : Nat := 0x708000 + i * 0x8
def MX_PBA_pending (i : Nat) : RF := ⟨(MX_PBA i), 0, 64⟩

end Sys2Proof.Machine
end

