-- ==== Sys2Proof/Machine/RegTable.lean ====
section
/-!
DEFINITION. The register cards as a table: key of the first register of each family, its two dimensions (count,
stride), width, reset value, and its fields (lowest bit, width, access type, Table 00-1). Fields the cards mark
reserved are left out: they read 0 and ignore writes (R3).
-/
namespace Sys2Proof.Machine

/-- Table 00-1: the access type of a field. -/
inductive Acc where
  | ro | rw | rw1c | rc | wo | rws
deriving DecidableEq, Repr

/-- One register card: a family of n1 × n2 registers. -/
structure Card where
  base : Nat
  n1 : Nat
  s1 : Nat
  n2 : Nat
  s2 : Nat
  width : Nat
  reset : Nat
  fields : List (Nat × Nat × Acc)
deriving DecidableEq, Repr

/-- The cards of the BT_ registers. -/
def cardsBT : List Card := [
  ⟨0x100000, 1, 0x1, 1, 0x1, 64, 0x0, [(0,64,.ro)]⟩,  -- BT_TIME
  ⟨0x100008, 1, 0x1, 1, 0x1, 32, 0x0, [(0,16,.ro)]⟩,  -- BT_TIME_SUB
  ⟨0x100010, 1, 0x1, 1, 0x1, 32, 0x0, [(13,1,.ro), (12,1,.ro), (11,1,.ro), (7,4,.ro), (4,3,.ro), (0,2,.ro)]⟩,  -- BT_STATUS
  ⟨0x100018, 1, 0x1, 1, 0x1, 32, 0x0, [(9,1,.rw1c), (8,1,.rw1c), (7,1,.rw1c), (6,1,.rw1c), (5,1,.rw1c), (4,1,.rw1c), (3,1,.rw1c), (2,1,.rw1c), (1,1,.rw1c), (0,1,.rw1c)]⟩,  -- BT_EVENT
  ⟨0x100020, 1, 0x1, 1, 0x1, 32, 0x0, [(1,1,.wo), (0,1,.rw)]⟩,  -- BT_CTRL
  ⟨0x100028, 1, 0x1, 1, 0x1, 64, 0x0, [(0,64,.rw)]⟩,  -- BT_TIME_SET
  ⟨0x100030, 1, 0x1, 1, 0x1, 32, 0x150, [(5,16,.rw), (4,1,.rw), (0,4,.rw)]⟩,  -- BT_SRC_CFG
  ⟨0x100034, 1, 0x1, 1, 0x1, 32, 0x0, [(9,3,.rw), (6,3,.rw), (3,3,.rw), (0,3,.rw)]⟩,  -- BT_SRC_PRIO
  ⟨0x100038, 1, 0x1, 1, 0x1, 32, 0xA0001, [(16,7,.rw), (4,12,.rw), (0,2,.rw)]⟩,  -- BT_SERVO
  ⟨0x100040, 1, 0x1, 1, 0x1, 32, 0x0, [(0,32,.ro)]⟩,  -- BT_FREQ
  ⟨0x100044, 1, 0x1, 1, 0x1, 32, 0x0, [(0,32,.ro)]⟩,  -- BT_OFFSET
  ⟨0x100048, 1, 0x1, 1, 0x1, 32, 0x0, [(0,32,.ro)]⟩,  -- BT_HOLDOVER
  ⟨0x100050, 1, 0x1, 1, 0x1, 32, 0x10, [(1,10,.rw)]⟩,  -- BT_PTM_CFG
  ⟨0x100058, 1, 0x1, 1, 0x1, 64, 0x0, [(0,64,.rw)]⟩,  -- BT_PTM_OFFSET
  ⟨0x100060, 1, 0x1, 1, 0x1, 32, 0x300, [(12,1,.rw), (8,4,.rw), (0,7,.rw)]⟩,  -- BT_PTP_CFG
  ⟨0x100064, 1, 0x1, 1, 0x1, 32, 0x0, [(16,1,.rw), (0,16,.rw)]⟩,  -- BT_PPS_CFG
  ⟨0x100068, 1, 0x1, 1, 0x1, 64, 0x0, [(0,64,.rw)]⟩,  -- BT_TOD_SECONDS
  ⟨0x100070, 1, 0x1, 1, 0x1, 32, 0x0, [(1,16,.rw), (0,1,.rw)]⟩,  -- BT_PPS_OUT
  ⟨0x100100, 1, 0x1, 1, 0x1, 32, 0x186A0, [(0,27,.rws)]⟩,  -- BT_BEAT_PERIOD
  ⟨0x100110, 1, 0x1, 1, 0x1, 32, 0x7D0, [(0,27,.rws)]⟩,  -- BT_LEAD
  ⟨0x100120, 1, 0x1, 1, 0x1, 32, 0x7530, [(0,27,.rws)]⟩,  -- BT_PHASE_INPUT
  ⟨0x100130, 1, 0x1, 1, 0x1, 32, 0x11170, [(0,27,.rws)]⟩,  -- BT_PHASE_COMPUTE
  ⟨0x100140, 1, 0x1, 1, 0x1, 32, 0x124F8, [(0,27,.rws)]⟩,  -- BT_PHASE_OUTPUT
  ⟨0x100150, 1, 0x1, 1, 0x1, 64, 0x0, [(0,64,.rw)]⟩,  -- BT_BEAT_START
  ⟨0x100158, 1, 0x1, 1, 0x1, 32, 0x0, [(0,32,.rw)]⟩,  -- BT_BEAT_FIRST
  ⟨0x100160, 1, 0x1, 1, 0x1, 32, 0x0, [(0,32,.ro)]⟩,  -- BT_BEAT_NUM
  ⟨0x100168, 1, 0x1, 1, 0x1, 64, 0x0, [(0,64,.ro)]⟩,  -- BT_STRIKE_TIME
  ⟨0x100170, 1, 0x1, 1, 0x1, 32, 0x0, [(30,2,.ro), (0,30,.ro)]⟩,  -- BT_DMAX
  ⟨0x100178, 1, 0x1, 1, 0x1, 32, 0x0, [(29,3,.ro), (0,29,.ro)]⟩,  -- BT_LEAD_CHECK
  ⟨0x100180, 1, 0x1, 1, 0x1, 32, 0x0, [(3,1,.ro), (2,1,.wo), (0,2,.rw)]⟩,  -- BT_CAL_CTRL
  ⟨0x1001A0, 4, 0x8, 1, 0x1, 64, 0x0, [(32,32,.ro), (0,32,.ro)]⟩,  -- BT_LOOP
  ⟨0x1001C0, 1, 0x1, 1, 0x1, 32, 0x0, [(0,32,.ro)]⟩,  -- BT_DB_SLIP_CNT
  ⟨0x1001C4, 1, 0x1, 1, 0x1, 32, 0x0, [(0,32,.ro)]⟩,  -- BT_LATE_LAUNCH_CNT
  ⟨0x1001C8, 1, 0x1, 1, 0x1, 32, 0x0, [(0,32,.ro)]⟩  -- BT_SRC_SWITCH_CNT
  ]

/-- The cards of the RG_ registers. -/
def cardsRG : List Card := [
  ⟨0x200000, 8, 0x400, 1, 0x1, 32, 0x800, [(16,8,.rws), (10,2,.rws), (1,1,.rws), (0,1,.rws)]⟩,  -- RG_PORT_CFG
  ⟨0x200010, 8, 0x400, 1, 0x1, 32, 0x3FFF0003, [(16,14,.ro), (11,1,.ro), (10,1,.ro), (9,1,.ro), (8,1,.ro), (5,1,.ro), (4,1,.ro), (3,1,.ro), (0,2,.ro)]⟩,  -- RG_PORT_STATUS
  ⟨0x200018, 8, 0x400, 1, 0x1, 32, 0x0, [(8,1,.rw1c), (7,1,.rw1c), (6,1,.rw1c), (5,1,.rw1c), (4,1,.rw1c), (3,1,.rw1c), (2,1,.rw1c), (1,1,.rw1c), (0,1,.rw1c)]⟩,  -- RG_PORT_EVENT
  ⟨0x20001C, 8, 0x400, 1, 0x1, 32, 0x0, [(0,4,.ro)]⟩,  -- RG_PORT_DOWN_CAUSE
  ⟨0x200020, 8, 0x400, 1, 0x1, 32, 0x0, [(16,16,.ro), (8,8,.ro), (4,1,.ro), (3,1,.ro), (2,1,.ro), (1,1,.ro), (0,1,.ro)]⟩,  -- RG_SFP_STATUS
  ⟨0x200028, 8, 0x400, 1, 0x1, 32, 0x0, [(0,32,.ro)]⟩,  -- RG_LINK_RTT
  ⟨0x200100, 8, 0x400, 32, 0x8, 64, 0x0, [(0,64,.ro)]⟩,  -- RG_CNT
  ⟨0x202000, 4, 0x100, 1, 0x1, 32, 0x100A, [(16,11,.rws), (8,8,.rws), (3,1,.rws), (2,1,.rws), (1,1,.rws)]⟩,  -- RG_RING_CFG
  ⟨0x202010, 4, 0x100, 1, 0x1, 32, 0x0, [(18,11,.ro), (17,1,.ro), (16,1,.ro), (0,2,.ro)]⟩,  -- RG_RING_STATUS
  ⟨0x202018, 4, 0x100, 1, 0x1, 64, 0x0, [(48,11,.ro), (32,11,.ro), (16,11,.ro), (0,11,.ro)]⟩,  -- RG_RING_BREAK
  ⟨0x202020, 4, 0x100, 1, 0x1, 32, 0x0, [(7,1,.rw1c), (6,1,.rw1c), (5,1,.rw1c), (4,1,.rw1c), (3,1,.rw1c), (2,1,.rw1c), (1,1,.rw1c), (0,1,.rw1c)]⟩,  -- RG_RING_EVENT
  ⟨0x202028, 4, 0x100, 1, 0x1, 64, 0x0, [(32,32,.ro), (0,32,.ro)]⟩,  -- RG_RING_CAP
  ⟨0x202080, 4, 0x100, 16, 0x8, 64, 0x0, [(0,64,.ro)]⟩  -- RG_RING_CNT
  ]

/-- The cards of the ST_ registers. -/
def cardsST : List Card := [
  ⟨0x300000, 1, 0x1, 1, 0x1, 32, 0x0, [(0,14,.rw)]⟩,  -- ST_SEL
  ⟨0x100000000, 16384, 0x80, 1, 0x1, 64, 0x0, [(56,8,.rws), (48,8,.rws), (47,1,.rws), (46,1,.rws), (44,2,.rws), (32,11,.rws), (18,14,.rws), (17,1,.rws), (14,2,.rws), (0,14,.ro)]⟩,  -- ST_W0
  ⟨0x100000010, 16384, 0x80, 1, 0x1, 64, 0x0, [(48,16,.rws), (38,1,.ro), (37,1,.rws), (36,1,.ro), (35,1,.ro), (32,3,.ro), (0,32,.rws)]⟩,  -- ST_W1
  ⟨0x100000020, 16384, 0x80, 1, 0x1, 64, 0x0, [(0,64,.ro)]⟩,  -- ST_W2
  ⟨0x100000030, 16384, 0x80, 1, 0x1, 64, 0x0, [(32,32,.ro), (0,32,.ro)]⟩,  -- ST_W3
  ⟨0x100000040, 16384, 0x80, 1, 0x1, 64, 0x0, [(32,32,.ro), (0,32,.ro)]⟩,  -- ST_W4
  ⟨0x100000050, 16384, 0x80, 1, 0x1, 64, 0x0, [(32,32,.rws), (16,16,.rws), (0,16,.rws)]⟩,  -- ST_W5
  ⟨0x100000060, 16384, 0x80, 1, 0x1, 64, 0x0, [(32,32,.rws), (0,32,.rws)]⟩,  -- ST_W6
  ⟨0x100000070, 16384, 0x80, 1, 0x1, 64, 0x0, [(48,16,.rws), (32,16,.rws), (0,32,.ro)]⟩,  -- ST_W7
  ⟨0x300200, 1, 0x1, 1, 0x1, 32, 0x0, [(0,14,.wo)]⟩,  -- ST_CLAMP_SET
  ⟨0x300208, 1, 0x1, 1, 0x1, 32, 0x0, [(0,14,.wo)]⟩,  -- ST_CLAMP_CLR
  ⟨0x300210, 1, 0x1, 1, 0x1, 32, 0x3FFE3C00, [(16,14,.rw), (0,14,.rw)]⟩,  -- ST_AUTO_RANGE
  ⟨0x300218, 1, 0x1, 1, 0x1, 32, 0x0, [(3,1,.ro), (2,1,.wo), (0,2,.rw)]⟩,  -- ST_ENUM_CTRL
  ⟨0x300220, 1, 0x1, 1, 0x1, 64, 0x0, [(48,14,.ro), (32,14,.ro), (16,14,.ro), (0,14,.ro)]⟩,  -- ST_COUNT0
  ⟨0x300228, 1, 0x1, 1, 0x1, 32, 0x0, [(16,14,.ro), (0,14,.ro)]⟩,  -- ST_COUNT1
  ⟨0x300230, 1, 0x1, 1, 0x1, 32, 0x0, [(5,1,.rw1c), (4,1,.rw1c), (3,1,.rw1c), (2,1,.rw1c), (1,1,.rw1c), (0,1,.rw1c)]⟩,  -- ST_EVENT
  ⟨0x300234, 1, 0x1, 1, 0x1, 32, 0x0, [(16,3,.ro), (0,14,.ro)]⟩,  -- ST_EVENT_STN
  ⟨0x300238, 1, 0x1, 1, 0x1, 32, 0x0, [(0,32,.ro)]⟩  -- ST_ANS_TYPE
  ]

/-- The cards of the SK_ registers. -/
def cardsSK : List Card := [
  ⟨0x900000, 1, 0x1, 1, 0x1, 32, 0x14820, [(0,27,.rws)]⟩,  -- SK_DECIDE
  ⟨0x900010, 1, 0x1, 1, 0x1, 32, 0x0, [(0,32,.ro)]⟩,  -- SK_WINDOW
  ⟨0x900018, 1, 0x1, 1, 0x1, 32, 0x0, [(31,1,.ro), (16,9,.ro), (0,9,.ro)]⟩,  -- SK_STATUS
  ⟨0x900020, 1, 0x1, 1, 0x1, 32, 0x0, [(6,1,.rw1c), (5,1,.rw1c), (4,1,.rw1c), (3,1,.rw1c), (2,1,.rw1c), (1,1,.rw1c), (0,1,.rw1c)]⟩,  -- SK_EVENT
  ⟨0x900028, 1, 0x1, 1, 0x1, 32, 0x0, [(24,8,.rw), (8,16,.rw), (3,1,.rw), (1,2,.rw), (0,1,.rw)]⟩,  -- SK_MIRROR
  ⟨0x900030, 1, 0x1, 1, 0x1, 32, 0x0, [(0,8,.rw)]⟩,  -- SK_GSEL
  ⟨0x600000000, 256, 0x8, 1, 0x1, 64, 0x0, [(50,14,.ro), (36,14,.ro), (22,14,.ro), (19,3,.ro), (0,16,.ro)]⟩,  -- SK_GINFO
  ⟨0x900040, 1, 0x1, 1, 0x1, 32, 0x0, [(0,32,.ro)]⟩,  -- SK_COMMIT_BEAT
  ⟨0x900100, 4, 0x8, 1, 0x1, 64, 0x0, [(0,64,.ro)]⟩,  -- SK_COMMIT
  ⟨0x900200, 4, 0x8, 1, 0x1, 64, 0x0, [(0,64,.rw)]⟩,  -- SK_FORCE_HOLD
  ⟨0x900300, 4, 0x8, 1, 0x1, 64, 0x0, [(0,64,.rw1c)]⟩,  -- SK_HELD
  ⟨0x900400, 8, 0x8, 1, 0x1, 64, 0x0, [(0,64,.ro)]⟩,  -- SK_CNT
  ⟨0x901000, 256, 0x10, 1, 0x1, 32, 0x1, [(2,1,.rws), (0,2,.rws)]⟩  -- SK_GROUP_CFG
  ]

/-- The cards of the EN_ registers. -/
def cardsEN : List Card := [
  ⟨0xA00000, 64, 0x400, 1, 0x1, 32, 0x0, [(1,1,.wo), (0,1,.wo)]⟩,  -- EN_CTRL
  ⟨0xA00010, 64, 0x400, 1, 0x1, 32, 0x4000000, [(16,16,.ro), (5,4,.ro), (4,1,.ro), (0,3,.ro)]⟩,  -- EN_STATE
  ⟨0xA00020, 64, 0x400, 1, 0x1, 32, 0x400, [(2,14,.rw)]⟩,  -- EN_START_PC
  ⟨0xA00028, 64, 0x400, 1, 0x1, 32, 0x0, [(16,16,.ro), (12,1,.ro), (8,4,.ro), (0,5,.ro)]⟩,  -- EN_EXC
  ⟨0xA00030, 64, 0x400, 1, 0x1, 64, 0x0, [(0,48,.ro)]⟩,  -- EN_EXC_ADDR
  ⟨0xA00038, 64, 0x400, 1, 0x1, 32, 0x0, [(0,7,.ro)]⟩,  -- EN_EVQ_COUNT
  ⟨0xA00100, 64, 0x400, 16, 0x20, 64, 0x0, [(63,1,.rws), (62,1,.rws), (61,1,.rws), (60,1,.rws), (58,2,.rws), (53,5,.rws), (34,14,.rws), (29,3,.rws), (21,8,.rws), (0,18,.rws)]⟩,  -- EN_BIND_A
  ⟨0xA00110, 64, 0x400, 16, 0x20, 64, 0x0, [(32,32,.rws), (16,16,.rws), (0,16,.rws)]⟩,  -- EN_BIND_B
  ⟨0xA00300, 64, 0x400, 8, 0x8, 64, 0x0, [(0,64,.ro)]⟩,  -- EN_CNT
  ⟨0xA10000, 16, 0x100, 1, 0x1, 32, 0x0, [(0,1,.rws)]⟩,  -- EN_CL_CTRL
  ⟨0xA10010, 16, 0x100, 1, 0x1, 32, 0x0, [(16,4,.ro), (9,1,.ro), (8,1,.ro), (0,4,.ro)]⟩,  -- EN_CL_STATUS
  ⟨0xA10018, 16, 0x100, 1, 0x1, 32, 0x0, [(0,1,.rw)]⟩,  -- EN_CL_CLAMP
  ⟨0xA20000, 1, 0x1, 1, 0x1, 32, 0x0, [(4,1,.rw), (0,4,.rw)]⟩,  -- EN_SPARE
  ⟨0xA20008, 1, 0x1, 1, 0x1, 32, 0x64000000, [(24,8,.rw), (16,4,.ro), (8,1,.ro), (4,1,.wo), (0,4,.rw)]⟩,  -- EN_MIGRATE
  ⟨0xA20010, 1, 0x1, 1, 0x1, 64, 0xFEDCBA9876543210, [(0,64,.ro)]⟩,  -- EN_CL_MAP
  ⟨0xA20018, 1, 0x1, 1, 0x1, 32, 0x0, [(7,1,.rw1c), (6,1,.rw1c), (5,1,.rw1c), (4,1,.rw1c), (3,1,.rw1c), (2,1,.rw1c), (1,1,.rw1c), (0,1,.rw1c)]⟩,  -- EN_EVENT
  ⟨0xA2001C, 1, 0x1, 1, 0x1, 32, 0x0, [(8,3,.ro), (0,6,.ro)]⟩  -- EN_EVENT_ENG
  ]

/-- The cards of the AT_ registers. -/
def cardsAT : List Card := [
  ⟨0x400000, 1, 0x1, 1, 0x1, 32, 0x0, [(31,1,.rw), (0,16,.rw)]⟩,  -- AT_SEL
  ⟨0x200000000, 65536, 0x20, 1, 0x1, 64, 0x0, [(63,1,.rws), (62,1,.rws), (61,1,.rws), (60,1,.rws), (59,1,.rws), (58,1,.rws), (57,1,.rws), (56,1,.rws), (54,2,.rws), (51,3,.rws), (50,1,.rws), (20,27,.rws)]⟩,  -- AT_E0
  ⟨0x200000010, 65536, 0x20, 1, 0x1, 64, 0x0, [(32,32,.ro)]⟩,  -- AT_E1
  ⟨0x400200, 1, 0x1, 1, 0x1, 32, 0x0, [(6,1,.rw1c), (5,1,.rw1c), (4,1,.rw1c), (3,1,.rw1c), (2,1,.rw1c), (1,1,.rw1c), (0,1,.rw1c)]⟩,  -- AT_EVENT
  ⟨0x400208, 1, 0x1, 1, 0x1, 64, 0x0, [(48,16,.ro), (44,4,.ro), (43,1,.ro), (0,36,.ro)]⟩,  -- AT_FAULT
  ⟨0x400300, 8, 0x8, 1, 0x1, 64, 0x0, [(0,64,.ro)]⟩  -- AT_CNT
  ]

/-- The cards of the BR_ registers. -/
def cardsBR : List Card := [
  ⟨0x500000, 1, 0x1, 1, 0x1, 32, 0xC350, [(0,32,.rw)]⟩,  -- BR_HRD_TO
  ⟨0x500008, 1, 0x1, 1, 0x1, 32, 0x0, [(16,10,.ro), (0,11,.ro)]⟩,  -- BR_STATUS
  ⟨0x500010, 1, 0x1, 1, 0x1, 32, 0x0, [(8,1,.rw1c), (7,1,.rw1c), (6,1,.rw1c), (5,1,.rw1c), (4,1,.rw1c), (3,1,.rw1c), (2,1,.rw1c), (1,1,.rw1c), (0,1,.rw1c)]⟩,  -- BR_EVENT
  ⟨0x500018, 1, 0x1, 1, 0x1, 64, 0x0, [(0,64,.ro)]⟩,  -- BR_SEQ
  ⟨0x500100, 8, 0x40, 1, 0x1, 64, 0x0, [(0,36,.rw)]⟩,  -- BR_CWP_ADDR
  ⟨0x500108, 8, 0x40, 1, 0x1, 64, 0x0, [(0,64,.rw)]⟩,  -- BR_CWP_DATA
  ⟨0x500110, 8, 0x40, 1, 0x1, 32, 0x0, [(2,2,.rw), (0,1,.wo)]⟩,  -- BR_CWP_CTRL
  ⟨0x500118, 8, 0x40, 1, 0x1, 64, 0x0, [(32,32,.ro), (8,1,.ro), (0,8,.ro)]⟩,  -- BR_CWP_STATUS
  ⟨0x500120, 8, 0x40, 1, 0x1, 64, 0x0, [(32,32,.ro), (8,1,.ro), (0,8,.ro)]⟩,  -- BR_CWP_PEEK
  ⟨0x500400, 1, 0x1, 1, 0x1, 32, 0x0, [(0,5,.ro)]⟩,  -- BR_ORPH_COUNT
  ⟨0x500408, 1, 0x1, 1, 0x1, 32, 0x0, [(0,1,.wo)]⟩,  -- BR_ORPH_POP
  ⟨0x500480, 16, 0x8, 1, 0x1, 64, 0x0, [(0,64,.ro)]⟩,  -- BR_ORPH_ENTRY
  ⟨0x500800, 128, 0x8, 1, 0x1, 64, 0x0, [(0,64,.ro)]⟩,  -- BR_PERR_CNT
  ⟨0x501000, 1, 0x1, 1, 0x1, 32, 0x0, [(0,8,.rw)]⟩,  -- BR_MSEL
  ⟨0x500000000, 256, 0x80, 1, 0x1, 32, 0x0, [(31,1,.rws), (30,1,.rws), (28,2,.rws), (16,4,.rws), (8,8,.rws)]⟩,  -- BR_MCFG
  ⟨0x500000010, 256, 0x80, 1, 0x1, 64, 0x0, [(0,47,.rws)]⟩,  -- BR_MFAB
  ⟨0x500000020, 256, 0x80, 1, 0x1, 64, 0x0, [(6,28,.rws)]⟩,  -- BR_MDST
  ⟨0x500000030, 256, 0x80, 1, 0x1, 64, 0x0, [(40,24,.ro), (16,24,.ro), (0,8,.ro)]⟩,  -- BR_MSTAT
  ⟨0x501100, 8, 0x8, 1, 0x1, 64, 0x0, [(0,64,.ro)]⟩  -- BR_CNT
  ]

/-- The cards of the UX_ registers. -/
def cardsUX : List Card := [
  ⟨0xD00000, 2, 0x1000, 1, 0x1, 32, 0x300, [(8,4,.rws), (2,1,.rws), (1,1,.rws), (0,1,.rws)]⟩,  -- UX_CFG
  ⟨0xD00010, 2, 0x1000, 1, 0x1, 32, 0x0, [(0,1,.wo)]⟩,  -- UX_CTRL
  ⟨0xD00018, 2, 0x1000, 1, 0x1, 32, 0x0, [(9,7,.ro), (0,7,.ro)]⟩,  -- UX_STATUS
  ⟨0xD00020, 2, 0x1000, 1, 0x1, 32, 0x0, [(8,1,.rw1c), (7,1,.rw1c), (6,1,.rw1c), (5,1,.rw1c), (4,1,.rw1c), (3,1,.rw1c), (2,1,.rw1c), (1,1,.rw1c), (0,1,.rw1c)]⟩,  -- UX_EVENT
  ⟨0xD00030, 2, 0x1000, 1, 0x1, 32, 0xFFFF, [(16,16,.rw1c), (0,16,.rws)]⟩,  -- UX_SLOT
  ⟨0xD00040, 2, 0x1000, 1, 0x1, 32, 0x0, [(16,16,.rw), (1,7,.rw)]⟩,  -- UX_IRQ_CFG
  ⟨0xD00048, 2, 0x1000, 1, 0x1, 32, 0x0, [(11,1,.ro), (8,3,.ro), (0,8,.ro)]⟩,  -- UX_LAST_IACK
  ⟨0xD00100, 2, 0x1000, 4, 0x10, 64, 0x0, [(63,1,.rws), (62,1,.rws), (61,1,.rws), (59,2,.rws), (48,8,.rws), (40,8,.rws), (0,18,.rws)]⟩,  -- UX_IWIN
  ⟨0xD00200, 2, 0x1000, 8, 0x4, 32, 0x0, [(0,32,.ro)]⟩  -- UX_CNT
  ]

/-- The cards of the EV_ registers. -/
def cardsEV : List Card := [
  ⟨0x600000, 1, 0x1, 1, 0x1, 32, 0x0, [(31,1,.rw), (0,16,.rw)]⟩,  -- EV_SEL
  ⟨0x300000000, 65536, 0x20, 1, 0x1, 64, 0x0, [(63,1,.rws), (61,2,.rws), (60,1,.rws), (44,16,.rws), (33,11,.rws), (26,6,.rws), (0,26,.rws)]⟩,  -- EV_E0
  ⟨0x300000010, 65536, 0x20, 1, 0x1, 64, 0x0, [(32,32,.ro), (0,32,.ro)]⟩,  -- EV_E1
  ⟨0x600200, 1, 0x1, 1, 0x1, 64, 0x0, [(0,64,.ro)]⟩,  -- EV_SEQ
  ⟨0x600210, 1, 0x1, 1, 0x1, 32, 0x0, [(3,1,.rw1c), (2,1,.rw1c), (1,1,.rw1c), (0,1,.rw1c)]⟩,  -- EV_EVENT
  ⟨0x600300, 8, 0x8, 1, 0x1, 64, 0x0, [(0,64,.ro)]⟩  -- EV_CNT
  ]

/-- The cards of the MX_ registers. -/
def cardsMX : List Card := [
  ⟨0x709000, 1, 0x1, 1, 0x1, 32, 0x0, [(0,1,.rw1c)]⟩,  -- MX_EVENT
  ⟨0x709100, 4, 0x8, 1, 0x1, 64, 0x0, [(0,64,.ro)]⟩,  -- MX_CNT
  ⟨0x70A000, 2048, 0x4, 1, 0x1, 32, 0x0, [(0,32,.ro)]⟩,  -- MX_VCNT
  ⟨0x710000, 2048, 0x20, 4, 0x8, 64, 0x0, [(0,64,.ro)]⟩,  -- MX_VREC
  ⟨0x700000, 2048, 0x10, 1, 0x1, 64, 0x0, [(0,64,.rw)]⟩,  -- MX_ADDR
  ⟨0x700008, 2048, 0x10, 1, 0x1, 32, 0x0, [(0,32,.rw)]⟩,  -- MX_DATA
  ⟨0x70000C, 2048, 0x10, 1, 0x1, 32, 0x1, [(0,1,.rw)]⟩,  -- MX_VCTRL
  ⟨0x708000, 32, 0x8, 1, 0x1, 64, 0x0, [(0,64,.ro)]⟩  -- MX_PBA
  ]

/-- The cards of the TX_ registers. -/
def cardsTX : List Card := [
  ⟨0x800000, 1, 0x1, 1, 0x1, 32, 0x0, [(0,12,.rw)]⟩,  -- TX_SEL
  ⟨0x400000000, 4096, 0x100, 1, 0x1, 64, 0x0, [(63,1,.rws), (61,2,.rws), (60,1,.rws), (46,14,.rws), (16,16,.rws), (0,16,.rws)]⟩,  -- TX_W0
  ⟨0x400000010, 4096, 0x100, 1, 0x1, 64, 0x0, [(48,16,.rws), (32,16,.rws)]⟩,  -- TX_W1
  ⟨0x400000020, 4096, 0x100, 4, 0x20, 64, 0x0, [(50,14,.rws), (49,1,.rws), (44,3,.rws), (0,31,.rws)]⟩,  -- TX_WO
  ⟨0x400000030, 4096, 0x100, 4, 0x20, 64, 0x0, [(0,64,.rws)]⟩,  -- TX_WD
  ⟨0x800300, 1, 0x1, 1, 0x1, 32, 0x0, [(30,2,.ro), (24,3,.ro), (22,2,.ro), (0,12,.ro)]⟩,  -- TX_CHECK
  ⟨0x800310, 1, 0x1, 1, 0x1, 32, 0x0, [(5,1,.rw1c), (4,1,.rw1c), (3,1,.rw1c), (2,1,.rw1c), (1,1,.rw1c), (0,1,.rw1c)]⟩,  -- TX_EVENT
  ⟨0x800318, 1, 0x1, 1, 0x1, 64, 0x0, [(63,1,.ro), (51,12,.ro), (50,1,.ro), (38,12,.ro), (35,3,.ro), (14,16,.ro), (0,14,.ro)]⟩,  -- TX_DIS
  ⟨0x800320, 1, 0x1, 1, 0x1, 32, 0x0, [(16,8,.ro), (0,13,.ro)]⟩,  -- TX_BUDGET
  ⟨0x800400, 8, 0x8, 1, 0x1, 64, 0x0, [(0,64,.ro)]⟩,  -- TX_CNT
  ⟨0x800500, 16, 0x4, 1, 0x1, 32, 0x0, [(0,32,.ro)]⟩  -- TX_HIST
  ]

/-- The cards of the NC_ registers. -/
def cardsNC : List Card := [
  ⟨0xB00000, 1, 0x1, 1, 0x1, 32, 0x8064, [(16,1,.rw), (12,4,.rw), (0,12,.rw)]⟩,  -- NC_CFG
  ⟨0xB00010, 1, 0x1, 1, 0x1, 32, 0x0, [(6,1,.rw1c), (5,1,.rw1c), (4,1,.rw1c), (3,1,.rw1c), (2,1,.rw1c), (1,1,.rw1c), (0,1,.rw1c)]⟩,  -- NC_EVENT
  ⟨0xB00018, 1, 0x1, 1, 0x1, 32, 0x0, [(8,2,.ro), (0,5,.ro)]⟩,  -- NC_ISO_INFO
  ⟨0xB00020, 1, 0x1, 1, 0x1, 32, 0x0, [(16,16,.ro), (8,3,.ro), (0,5,.ro)]⟩,  -- NC_PAR_LOG
  ⟨0xB00100, 24, 0x10, 1, 0x1, 32, 0x0, [(1,1,.wo), (0,1,.wo)]⟩,  -- NC_PORT_CTRL
  ⟨0xB00108, 24, 0x10, 1, 0x1, 32, 0x0, [(16,16,.ro), (4,1,.ro), (0,2,.ro)]⟩,  -- NC_PORT_STATUS
  ⟨0xB00400, 24, 0x10, 1, 0x1, 64, 0x40000000040, [(53,10,.rws), (42,11,.rws), (32,10,.rws), (21,11,.rws), (11,10,.rws), (0,11,.rws)]⟩,  -- NC_REG
  ⟨0xB00800, 24, 0x10, 1, 0x1, 32, 0x4210, [(10,5,.rws), (5,5,.rws), (0,5,.rws)]⟩,  -- NC_VCLIM
  ⟨0xB00C00, 1, 0x1, 1, 0x1, 32, 0x0, [(0,7,.rw)]⟩,  -- NC_STAT_SEL
  ⟨0x700000000, 128, 0x80, 6, 0x8, 64, 0x0, [(0,64,.ro)]⟩,  -- NC_ST_CNT
  ⟨0x700000040, 128, 0x80, 8, 0x4, 32, 0x0, [(0,32,.ro)]⟩,  -- NC_ST_HIST
  ⟨0xB00D00, 8, 0x8, 1, 0x1, 64, 0x0, [(0,64,.ro)]⟩  -- NC_CNT
  ]

/-- The cards of the PT_ registers. -/
def cardsPT : List Card := [
  ⟨0xC00000, 1, 0x1, 1, 0x1, 32, 0x1, [(0,1,.rw)]⟩,  -- PT_DBG
  ⟨0xC00010, 1, 0x1, 1, 0x1, 32, 0x0, [(6,1,.rw1c), (5,1,.rw1c), (4,1,.rw1c), (3,1,.rw1c), (2,1,.rw1c), (1,1,.rw1c), (0,1,.rw1c)]⟩,  -- PT_EVENT
  ⟨0xC00018, 1, 0x1, 1, 0x1, 32, 0x0, [(30,2,.ro), (23,7,.ro), (18,5,.ro), (13,5,.ro)]⟩,  -- PT_CHECK
  ⟨0xC00020, 1, 0x1, 1, 0x1, 64, 0x0, [(49,8,.ro), (45,4,.ro), (44,1,.ro), (43,1,.ro), (42,1,.ro), (36,6,.ro)]⟩,  -- PT_FAULT
  ⟨0xC00028, 1, 0x1, 1, 0x1, 64, 0x0, [(0,48,.ro)]⟩,  -- PT_FAULT_ADDR
  ⟨0xC00030, 1, 0x1, 1, 0x1, 64, 0x0, [(63,1,.ro), (0,63,.ro)]⟩,  -- PT_FIRST
  ⟨0xC00038, 1, 0x1, 1, 0x1, 64, 0x0, [(0,48,.ro)]⟩,  -- PT_FIRST_ADDR
  ⟨0xC00040, 1, 0x1, 1, 0x1, 32, 0x0, [(0,1,.wo)]⟩,  -- PT_CTRL
  ⟨0xC00100, 128, 0x10, 1, 0x1, 32, 0x1, [(0,1,.rws)]⟩,  -- PT_MCFG
  ⟨0xC01000, 128, 0x8, 1, 0x1, 64, 0x0, [(0,64,.ro)]⟩,  -- PT_DENY_CNT
  ⟨0xC10000, 128, 0x400, 32, 0x20, 64, 0x0, [(63,1,.rws), (62,1,.rws), (61,1,.rws), (60,1,.rws), (59,1,.rws), (57,2,.rws), (5,43,.rws)]⟩,  -- PT_RA
  ⟨0xC10010, 128, 0x400, 32, 0x20, 64, 0x0, [(5,43,.rws)]⟩  -- PT_RB
  ]

/-- The cards of the JN_ registers. -/
def cardsJN : List Card := [
  ⟨0xE00000, 1, 0x1, 1, 0x1, 32, 0x180000, [(15,11,.rws), (0,15,.rws)]⟩,  -- JN_IMG_CFG
  ⟨0xE00010, 1, 0x1, 1, 0x1, 32, 0x800100, [(15,15,.rws), (0,15,.rws)]⟩,  -- JN_CFG_REGION
  ⟨0xE00020, 1, 0x1, 1, 0x1, 32, 0x1E000400, [(15,15,.rws), (0,15,.rws)]⟩,  -- JN_JRN_REGION
  ⟨0xE00030, 1, 0x1, 1, 0x1, 32, 0x101, [(8,1,.rw), (1,1,.rw), (0,1,.rw)]⟩,  -- JN_CTRL
  ⟨0xE00038, 1, 0x1, 1, 0x1, 32, 0x0, [(8,13,.ro), (2,2,.ro), (1,1,.ro), (0,1,.ro)]⟩,  -- JN_STATUS
  ⟨0xE00040, 1, 0x1, 1, 0x1, 32, 0xF, [(0,4,.rws)]⟩,  -- JN_DEGRADED
  ⟨0xE00050, 1, 0x1, 1, 0x1, 32, 0xC, [(0,8,.rw)]⟩,  -- JN_SCRUB
  ⟨0xE00058, 1, 0x1, 1, 0x1, 32, 0x0, [(14,1,.rw1c), (13,1,.rw1c), (12,1,.rw1c), (11,1,.rw1c), (10,1,.rw1c), (9,1,.rw1c), (8,1,.rw1c), (0,8,.rw1c)]⟩,  -- JN_EVENT
  ⟨0xE00100, 1, 0x1, 1, 0x1, 64, 0x0, [(0,64,.ro)]⟩,  -- JN_NEXT
  ⟨0xE00108, 1, 0x1, 1, 0x1, 64, 0x0, [(0,64,.ro)]⟩,  -- JN_DONE
  ⟨0xE00110, 1, 0x1, 1, 0x1, 64, 0x0, [(0,64,.ro)]⟩,  -- JN_LOW
  ⟨0xE00200, 4, 0x40, 1, 0x1, 64, 0x0, [(0,64,.rw)]⟩,  -- JN_RD_CUR
  ⟨0xE00210, 4, 0x40, 4, 0x8, 64, 0x0, [(0,64,.ro)]⟩,  -- JN_RD_ENTRY
  ⟨0xE00300, 8, 0x8, 1, 0x1, 64, 0x0, [(0,64,.ro)]⟩,  -- JN_CNT
  ⟨0xE01000, 8, 0x100, 4, 0x8, 64, 0x0, [(0,64,.wo)]⟩,  -- JN_MV_DESC
  ⟨0xE01020, 8, 0x100, 1, 0x1, 32, 0x0, [(0,5,.ro)]⟩,  -- JN_MV_COUNT
  ⟨0xE01028, 8, 0x100, 1, 0x1, 32, 0x0, [(0,32,.ro)]⟩,  -- JN_MV_DONE
  ⟨0xE01030, 8, 0x100, 1, 0x1, 64, 0x0, [(32,32,.ro), (0,8,.ro)]⟩  -- JN_MV_ERR
  ]

/-- The cards of the CT_ registers. -/
def cardsCT : List Card := [
  ⟨0xF00000, 1, 0x1, 1, 0x1, 32, 0x0, [(12,1,.rw), (11,1,.rw), (10,1,.rw), (8,2,.rw), (0,8,.rw)]⟩,  -- CT_CLAMP
  ⟨0xF00010, 1, 0x1, 1, 0x1, 32, 0x0, [(3,1,.rw1c), (2,1,.rw1c), (1,1,.rw1c), (0,1,.rw1c)]⟩,  -- CT_EVENT
  ⟨0xF00018, 1, 0x1, 1, 0x1, 64, 0x0, [(32,32,.ro), (16,11,.ro), (0,10,.ro)]⟩,  -- CT_LOG_STATUS
  ⟨0xF00020, 1, 0x1, 1, 0x1, 32, 0x0, [(0,1,.wo)]⟩,  -- CT_LOG_CTRL
  ⟨0xF00028, 1, 0x1, 1, 0x1, 32, 0x0, [(0,10,.rw)]⟩,  -- CT_LOG_SEL
  ⟨0xF00040, 8, 0x8, 1, 0x1, 64, 0x0, [(0,64,.ro)]⟩,  -- CT_LOG_ENTRY
  ⟨0xF00100, 1, 0x1, 1, 0x1, 32, 0x0, [(8,1,.wo), (5,3,.wo), (0,4,.wo)]⟩,  -- CT_TEST_REQ
  ⟨0xF00108, 1, 0x1, 1, 0x1, 32, 0x0, [(24,8,.ro), (4,4,.ro), (0,4,.ro)]⟩,  -- CT_TEST_STATUS
  ⟨0xF00200, 4, 0x8, 1, 0x1, 64, 0x0, [(0,64,.ro)]⟩  -- CT_CNT
  ]

/-- The cards of the TW_ registers. -/
def cardsTW : List Card := [
  ⟨0x1200000, 1, 0x1, 1, 0x1, 32, 0x0, [(2,16,.rw), (0,2,.rw)]⟩,  -- TW_CFG
  ⟨0x1200008, 1, 0x1, 1, 0x1, 32, 0x0, [(1,1,.wo), (0,1,.wo)]⟩,  -- TW_CTRL
  ⟨0x1200010, 1, 0x1, 1, 0x1, 64, 0x0, [(32,32,.ro), (16,16,.ro), (4,1,.ro), (3,1,.ro), (2,1,.ro), (0,2,.ro)]⟩,  -- TW_STATUS
  ⟨0x1200018, 1, 0x1, 1, 0x1, 32, 0x0, [(5,1,.rw1c), (4,1,.rw1c), (3,1,.rw1c), (2,1,.rw1c), (1,1,.rw1c), (0,1,.rw1c)]⟩,  -- TW_EVENT
  ⟨0x1200100, 8, 0x10, 1, 0x1, 64, 0x0, [(63,1,.rws), (48,15,.rws), (0,48,.rws)]⟩,  -- TW_DECL
  ⟨0x1200200, 8, 0x8, 1, 0x1, 64, 0x0, [(0,64,.ro)]⟩  -- TW_CNT
  ]

/-- The cards of the DV_ registers. -/
def cardsDV : List Card := [
  ⟨0x1000000, 1, 0x1, 1, 0x1, 32, 0x103E8, [(16,1,.rw), (0,16,.rw)]⟩,  -- DV_CFG
  ⟨0x1000008, 1, 0x1, 1, 0x1, 32, 0x0, [(1,1,.wo), (0,1,.wo)]⟩,  -- DV_CTRL
  ⟨0x1000010, 1, 0x1, 1, 0x1, 32, 0x0, [(9,1,.ro), (8,1,.ro), (6,2,.ro), (4,2,.ro), (0,2,.ro)]⟩,  -- DV_STATUS
  ⟨0x1000018, 1, 0x1, 1, 0x1, 32, 0x0, [(5,1,.rw1c), (4,1,.rw1c), (3,1,.rw1c), (2,1,.rw1c), (1,1,.rw1c), (0,1,.rw1c)]⟩,  -- DV_EVENT
  ⟨0x1000020, 1, 0x1, 1, 0x1, 64, 0x0, [(32,17,.ro), (0,17,.ro)]⟩,  -- DV_LANE_MAP
  ⟨0x1000028, 1, 0x1, 1, 0x1, 64, 0x0, [(32,12,.ro), (16,12,.ro), (0,12,.ro)]⟩,  -- DV_CLK_STATUS
  ⟨0x1000100, 34, 0x4, 1, 0x1, 32, 0x0, [(0,32,.ro)]⟩,  -- DV_LANE_ERR
  ⟨0x1000200, 8, 0x8, 1, 0x1, 64, 0x0, [(0,64,.ro)]⟩  -- DV_CNT
  ]

/-- The cards of the GL_ registers. -/
def cardsGL : List Card := [
  ⟨0x0, 1, 0x1, 1, 0x1, 32, 0x0, [(16,16,.ro), (12,4,.ro), (4,4,.ro), (0,4,.ro)]⟩,  -- GL_ID
  ⟨0x8, 1, 0x1, 1, 0x1, 64, 0x0, [(0,64,.ro)]⟩,  -- GL_SERIAL
  ⟨0x10, 1, 0x1, 1, 0x1, 32, 0x0, [(9,1,.ro), (8,1,.ro), (6,2,.ro), (5,1,.ro), (4,1,.ro), (3,1,.ro), (0,1,.ro)]⟩,  -- GL_BOOT_STATUS
  ⟨0x18, 1, 0x1, 1, 0x1, 32, 0x0, [(16,16,.wo), (0,4,.wo)]⟩,  -- GL_RESET
  ⟨0x20, 1, 0x1, 1, 0x1, 32, 0x0, [(8,8,.ro), (0,4,.ro)]⟩,  -- GL_RESET_CAUSE
  ⟨0x100, 1, 0x1, 1, 0x1, 32, 0x0, [(0,16,.wo)]⟩,  -- GL_STAGE_COMMIT
  ⟨0x108, 1, 0x1, 1, 0x1, 64, 0x0, [(32,32,.ro), (16,16,.ro), (12,4,.ro), (0,8,.ro)]⟩,  -- GL_STAGE_STATUS
  ⟨0x110, 1, 0x1, 1, 0x1, 32, 0x0, [(0,1,.wo)]⟩,  -- GL_STAGE_DISCARD
  ⟨0x118, 1, 0x1, 1, 0x1, 32, 0x0, [(3,1,.rw1c), (2,1,.rw1c), (1,1,.rw1c), (0,1,.rw1c)]⟩,  -- GL_EVENT
  ⟨0x200, 2, 0x8, 1, 0x1, 64, 0x0, [(0,64,.ro)]⟩  -- GL_CNT
  ]

/-- The cards of the PW_ registers. -/
def cardsPW : List Card := [
  ⟨0x1100000, 1, 0x1, 1, 0x1, 32, 0x0, [(16,16,.ro), (8,8,.ro), (7,1,.ro), (6,1,.ro), (5,1,.ro), (4,1,.ro), (0,3,.ro)]⟩,  -- PW_STAGE
  ⟨0x1100008, 1, 0x1, 1, 0x1, 64, 0x0, [(48,16,.ro), (32,16,.ro), (16,16,.ro), (0,16,.ro)]⟩,  -- PW_FEED
  ⟨0x1100100, 5, 0x4, 1, 0x1, 32, 0x0, [(16,2,.ro), (0,16,.ro)]⟩,  -- PW_TEMP
  ⟨0x1100120, 5, 0x4, 1, 0x1, 32, 0x0, [(16,8,.ro), (8,8,.rw), (0,8,.rw)]⟩,  -- PW_THRESH
  ⟨0x1100200, 1, 0x1, 1, 0x1, 32, 0x0, [(5,1,.rw1c), (4,1,.rw1c), (3,1,.rw1c), (2,1,.rw1c), (1,1,.rw1c), (0,1,.rw1c)]⟩,  -- PW_EVENT
  ⟨0x1100300, 1, 0x1, 1, 0x1, 32, 0x0, [(0,8,.wo)]⟩,  -- PW_MBX_CMD
  ⟨0x1100308, 1, 0x1, 1, 0x1, 32, 0x0, [(16,1,.ro), (8,8,.ro), (0,8,.ro)]⟩,  -- PW_MBX_STATUS
  ⟨0x1100310, 8, 0x8, 1, 0x1, 64, 0x0, [(0,64,.rw)]⟩,  -- PW_MBX_ARG
  ⟨0x1100360, 8, 0x8, 1, 0x1, 64, 0x0, [(0,64,.ro)]⟩,  -- PW_MBX_RSP
  ⟨0x1101000, 512, 0x8, 1, 0x1, 64, 0x0, [(0,64,.rw)]⟩,  -- PW_MBX_BUF
  ⟨0x1100400, 1, 0x1, 1, 0x1, 32, 0x0, [(24,8,.rw), (16,8,.rw), (0,16,.ro)]⟩  -- PW_DIO
  ]

/-- Every register card. -/
def regCards : List Card :=
  cardsBT ++ cardsRG ++ cardsST ++ cardsSK ++ cardsEN ++ cardsAT ++ cardsBR ++ cardsUX ++ cardsEV ++ cardsMX ++ cardsTX ++ cardsNC ++ cardsPT ++ cardsJN ++ cardsCT ++ cardsTW ++ cardsDV ++ cardsGL ++ cardsPW

end Sys2Proof.Machine
end

