-- ==== Sys2Proof/Machine/Bits.lean ====
section
/-!
DEFINITION. Bit-field, sign-extension and byte-order helpers, and sparse maps in one canonical form.
-/
namespace Sys2Proof.Machine

/-- Bits [lo + w - 1 : lo] of a 64-bit word, as a number. -/
def fieldOf (v : U64) (lo w : Nat) : Nat := (v.toNat / 2 ^ lo) % 2 ^ w

/-- The mask of w bits from bit lo. -/
def fieldMask (lo w : Nat) : U64 := BitVec.ofNat 64 ((2 ^ w - 1) * 2 ^ lo)

/-- v with bits [lo + w - 1 : lo] replaced by x (its low w bits). -/
def withField (v : U64) (lo w x : Nat) : U64 :=
  (v &&& ~~~(fieldMask lo w)) ||| BitVec.ofNat 64 ((x % 2 ^ w) * 2 ^ lo)

/-- The number a w-bit two's-complement pattern stands for. -/
def signed (w x : Nat) : Int :=
  if x % 2 ^ w < 2 ^ (w - 1) then Int.ofNat (x % 2 ^ w) else Int.ofNat (x % 2 ^ w) - Int.ofNat (2 ^ w)

/-- The low w bits of an integer in two's complement. -/
def twos (w : Nat) (i : Int) : Nat := (i % Int.ofNat (2 ^ w)).toNat

/-- Sign-extension of the low w bits to 64 bits. -/
def sext64 (w x : Nat) : U64 := BitVec.ofInt 64 (signed w x)

/-- The n low bytes of x, least significant first (little-endian). -/
def leBytes : Nat → Nat → List Byte
  | 0, _ => []
  | n + 1, x => BitVec.ofNat 8 x :: leBytes n (x / 256)

/-- The number a little-endian byte list spells. -/
def leNat : List Byte → Nat
  | [] => 0
  | b :: t => b.toNat + 256 * leNat t

/-- The n low bytes of x, most significant first (big-endian). -/
def beBytes (n x : Nat) : List Byte := (leBytes n x).reverse

/-- The number a big-endian byte list spells. -/
def beNat (l : List Byte) : Nat := leNat l.reverse

/-- One bit of a number. -/
def bitAt (x i : Nat) : Bool := (x / 2 ^ i) % 2 == 1

/-- A flag as a number. -/
def b2n (b : Bool) : Nat := if b then 1 else 0

/-- Distance between two numbers. -/
def absDiff (a b : Nat) : Nat := if a < b then b - a else a - b

/-- The value x, at most m. -/
def satAt (m x : Nat) : Nat := if x < m then x else m

/-- Put a number in a set kept as a list. -/
def addTo (l : List Nat) (k : Nat) : List Nat := if l.contains k then l else l ++ [k]

/-- Integer square root by Newton's rule on a fuel count. -/
def sqrtLoop : Nat → Nat → Nat → Nat
  | 0, _, g => g
  | k + 1, n, g => if g * g ≤ n then g else sqrtLoop k n ((g + n / g) / 2)

/-! ### Sparse maps: lists of (key, value) with strictly rising keys and no entry equal to the default -/

/-- The value at a key; an unlisted key has its default. -/
def mapGet {α : Type} (d : Nat → α) : List (Nat × α) → Nat → α
  | [], k => d k
  | (a, v) :: t, k => if k = a then v else mapGet d t k

/-- Put a value at a key, keeping the keys rising. -/
def mapIns {α : Type} : List (Nat × α) → Nat → α → List (Nat × α)
  | [], k, v => [(k, v)]
  | (a, w) :: t, k, v =>
    if k < a then (k, v) :: (a, w) :: t
    else if k = a then (k, v) :: t
    else (a, w) :: mapIns t k v

/-- Remove a key (every entry at it; a canonical map has at most one). -/
def mapDel {α : Type} : List (Nat × α) → Nat → List (Nat × α)
  | [], _ => []
  | (a, w) :: t, k => if k = a then mapDel t k else (a, w) :: mapDel t k

/-- Write a value: the default removes the entry, any other value is listed. -/
def mapSet {α : Type} [DecidableEq α] (d : Nat → α) (m : List (Nat × α)) (k : Nat) (v : α) : List (Nat × α) :=
  if v = d k then mapDel m k else mapIns m k v

/-- The canonical form from a key on: keys at least lo, strictly rising, no entry at its default. -/
def mapWfFrom {α : Type} [DecidableEq α] (d : Nat → α) : Nat → List (Nat × α) → Bool
  | _, [] => true
  | lo, (a, v) :: t => decide (lo ≤ a) && decide (v ≠ d a) && mapWfFrom d (a + 1) t

/-- The canonical form of a sparse map. -/
def mapWf {α : Type} [DecidableEq α] (d : Nat → α) (m : List (Nat × α)) : Bool := mapWfFrom d 0 m

/-- Read n consecutive keys. -/
def mapRange {α : Type} (d : Nat → α) (m : List (Nat × α)) : Nat → Nat → List α
  | _, 0 => []
  | k, n + 1 => mapGet d m k :: mapRange d m (k + 1) n

/-- Write a list of values at consecutive keys. -/
def mapSetRange {α : Type} [DecidableEq α] (d : Nat → α) : List (Nat × α) → Nat → List α → List (Nat × α)
  | m, _, [] => m
  | m, k, v :: t => mapSetRange d (mapSet d m k v) (k + 1) t

/-- The keys a and up to a + n - 1, in order. -/
def keysFrom : Nat → Nat → List Nat
  | _, 0 => []
  | a, n + 1 => a :: keysFrom (a + 1) n

/-- Apply a change for each key of a list, in order. -/
def forEach {σ : Type} (ks : List Nat) (f : Nat → σ → σ) (s : σ) : σ := ks.foldl (fun t k => f k t) s

/-- Replace the elements that meet a test. -/
def mapWhere {α : Type} (p : α → Bool) (f : α → α) (l : List α) : List α := l.map (fun x => if p x then f x else x)

/-- The first element that meets a test is taken out; the rest keep their order. -/
def takeFirst {α : Type} (p : α → Bool) : List α → Option (α × List α)
  | [] => none
  | x :: t =>
    if p x then some (x, t)
    else match takeFirst p t with
      | none => none
      | some (y, r) => some (y, x :: r)

/-- The first n elements and the rest. -/
def chunk {α : Type} (n : Nat) (l : List α) : List α × List α := (l.take n, l.drop n)

end Sys2Proof.Machine
end

