-- ==== Sys2Proof/Machine/Wire.lean ====
section
/-!
DEFINITION. The bytes of an NRP frame and of the bursts that carry it on the PCS (R83, R84, R89 to R91, R97, R107), and back.
-/
namespace Sys2Proof.Machine

/-! ### CRC-32 -/

/-- Eight steps of a reflected CRC of 32 bits whose reversed polynomial is p. -/
def crcReflected (p : BitVec 32) (c : BitVec 32) (b : Byte) : BitVec 32 :=
  (keysFrom 0 8).foldl (fun x _ => if x.getLsbD 0 then (x >>> 1) ^^^ p else x >>> 1) (c ^^^ b.setWidth 32)

/-- Eight steps of CRC-16 0x1021, most significant bit first. -/
def crc16 (c : BitVec 16) (b : Byte) : BitVec 16 :=
  (keysFrom 0 8).foldl (fun (x : BitVec 16) _ => if x.getLsbD 15 then (x <<< 1) ^^^ 0x1021#16 else x <<< 1)
    (c ^^^ (b.setWidth 16 <<< 8))

/-- The IEEE 802.3 frame check sequence of some bytes (R97): polynomial 0x04C1_1DB7, which reversed is 0xEDB8_8320. -/
def fcs (bs : List Byte) : BitVec 32 := ~~~(bs.foldl (crcReflected 0xEDB88320#32) 0xFFFFFFFF#32)

/-- Its bytes in the order in which they are sent. -/
def fcsBytes (c : BitVec 32) : List Byte := leBytes 4 c.toNat

/-! ### Frames -/

/-- Padded length of a payload. -/
def pad4 (n : Nat) : Nat := (n + 3) / 4 * 4

/-- Bytes between the header and the link tag (R89, R90): none in a link frame, 32 in another TC0 frame. -/
def Frame.room (f : Frame) : Nat := if f.type = 0xF then 0 else if f.cls = 0 then 32 else pad4 f.len

/-- Bytes of a frame (R89, R90, R108). -/
def Frame.bytes (f : Frame) : Nat := 32 + f.room

/-- The 24 bytes of the header (Table 03-4). -/
def Frame.header (f : Frame) : List Byte :=
  [BitVec.ofNat 8 (f.type * 16 + f.cls * 4 + f.flags)] ++ beBytes 2 (f.route * 2 ^ 14 + f.dest) ++ beBytes 2 (f.origin * 2 ^ 14 + f.src) ++
  beBytes 2 f.seq ++ beBytes 4 f.launch ++ beBytes 4 f.word ++ beBytes 2 f.len ++ beBytes 2 f.acc ++ beBytes 1 f.hops ++ beBytes 4 f.aux

/-- The payload with its zero padding. -/
def Frame.padded (f : Frame) : List Byte :=
  let l := f.payload.take f.room
  l ++ List.replicate (f.room - l.length) 0

/-- What the CRC covers: header, padded payload and link tag (R97, R107). -/
def Frame.covered (f : Frame) : List Byte := f.header ++ f.padded ++ beBytes 4 (f.lseq * 2 ^ 16 + f.retry * 2 ^ 8)

/-- The whole frame (R89). -/
def Frame.wire (f : Frame) : List Byte := f.covered ++ fcsBytes (fcs f.covered)

/-- The number that n bytes from offset i of a frame spell. -/
def beAt (bs : List Byte) (i n : Nat) : Nat := beNat ((bs.drop i).take n)

/-- The frame that some bytes spell, their CRC aside (Table 03-4). -/
def parseFrame (bs : List Byte) : Frame :=
  let b0 := beAt bs 0 1
  let tag := beAt bs (bs.length - 8) 4
  { type := b0 / 16, cls := b0 / 4 % 4, flags := b0 % 4, route := beAt bs 1 2 / 2 ^ 14, dest := beAt bs 1 2 % 2 ^ 14,
    origin := beAt bs 3 2 / 2 ^ 14, src := beAt bs 3 2 % 2 ^ 14, seq := beAt bs 5 2, launch := beAt bs 7 4, word := beAt bs 11 4,
    len := beAt bs 15 2, acc := beAt bs 17 2, hops := beAt bs 19 1, aux := beAt bs 20 4,
    payload := (bs.drop 24).take (beAt bs 15 2), lseq := tag / 2 ^ 16, retry := tag / 2 ^ 8 % 2 ^ 8 }

/-- What a receiver finds of a frame's CRC (R97, R99). -/
inductive CrcAns where
  | good
  | stomped
  | bad
deriving DecidableEq, Repr

/-- The CRC-32 of a received frame: good, the complement of the right one, or neither. -/
def crcJudge (bs : List Byte) : CrcAns :=
  let c := fcs (bs.take (bs.length - 4))
  let got := bs.drop (bs.length - 4)
  if got = fcsBytes c then .good else if got = fcsBytes (~~~c) then .stomped else .bad

/-! ### Bursts (R83, R84) -/

/-- A block of the PCS: the start block with L1 to L7, eight data bytes, the terminate block with the bytes before it, idle. -/
inductive Block where
  | start (lead : List Byte)
  | data (l : List Byte)
  | terminate (l : List Byte)
  | idle
deriving DecidableEq, Repr

/-- The lead-in of a burst by L6 and L7 (Table 03-3). -/
def leadIn (l6 l7 : Nat) : List Byte := List.replicate 5 0x55 ++ [BitVec.ofNat 8 l6, BitVec.ofNat 8 l7]

/-- Data blocks of whole 8 bytes, and the terminate block with what is left. -/
def dataBlocks : Nat → List Byte → List Block
  | 0, l => [.terminate l]
  | n + 1, l => if l.length < 8 then [.terminate l] else .data (l.take 8) :: dataBlocks n (l.drop 8)

/-- One burst. -/
def burstOf (l6 l7 : Nat) (bs : List Byte) : List Block := .start (leadIn l6 l7) :: dataBlocks bs.length bs ++ [.idle]

/-- The burst that carries bytes lo to hi of a frame: all of it, its first, a middle or the final fragment (Table 03-3). -/
def fragment (f : Frame) (lo hi num : Nat) : List Block :=
  let l := (f.wire.take hi).drop lo
  if num = 0 then (if f.bytes ≤ hi then burstOf 0xD5 0 l else burstOf 0xB3 0 l)
  else if f.bytes ≤ hi then burstOf 0x7E num l
  else burstOf 0x61 num l

/-- The burst of a frame that is not cut. -/
def wholeBurst (f : Frame) : List Block := fragment f 0 f.bytes 0

end Sys2Proof.Machine
end

