-- ==== Sys2Proof/Machine/State.lean ====
section
/-!
DEFINITION. The state of the module as plain data: every register (one sparse map of BAR0 registers and one of
staging copies), every memory, table, queue, counter, mode and pin the spec gives it, and the queue of commands
that are waiting. Sparse maps (Bits.lean) hold an entry only where the value differs from its reset value.
-/
namespace Sys2Proof.Machine

/-- Why the module stops. No meaning of this model faults: the spec gives every step an effect; kept closed for the
host's interface. -/
inductive Fault where
  /-- Raised by no meaning. Safe: a stop proves nothing about a next state. -/
  | stopped
deriving DecidableEq, Repr

/-- Why a command has no meaning. -/
inductive Refusal where
  /-- A command of the table this model has not given a meaning. Safe: nothing is claimed of it. -/
  | notModelled (mnemonic : String)
deriving DecidableEq, Repr

/-- One entry of the error log (R404, Table 11-5). Defaults: no transaction, no initiator, no ATT entry. -/
structure LogEntry where
  tFail : Nat := 0
  tAcc : Nat := 0
  bseq : Nat := 0xFFFFFFFFFFFFFFFF
  iaddr : Nat := 0
  faddr : Option Nat := none
  initiator : Nat := 0xFF
  plane : Nat := 0
  cause : Nat
  att : Nat := 0xFFFF
  flags : Nat := 0
  code : Nat := 0
  station : Nat := 0
  cls : Nat := 0
  fseq : Nat := 0
  rep : Nat := 0
  detail : Nat := 0
deriving DecidableEq, Repr

/-- One accepted journal entry (R546): sequence number, time, kind, and bytes 17 to 31. -/
structure JEntry where
  seq : Nat
  time : Nat
  kind : Nat
  rest : List Byte
deriving DecidableEq, Repr

/-- A posted event (R456, R457, Table 13-4): the record before it is journalled and routed. The fence is the
tag of Table 11-7, when there is one. -/
structure EvRec where
  id : Nat
  cond : Nat := 0
  source : Nat := 0
  time : Nat := 0
  flags : Nat := 0
  reflex : Nat := 0xFFFF
  payload : List Byte := []
  count : Nat := 1
  urgent : Bool := false
  seq : Nat := 0
deriving DecidableEq, Repr

/-- Work a step has raised for the log, journal and event units: done before the step ends (Service.lean). -/
inductive Work where
  | log (fold : Option Nat) (e : LogEntry)
  | event (r : EvRec)
  | journal (time kind : Nat) (rest : List Byte)
deriving DecidableEq, Repr

/-- What an event table entry holds besides its registers (R462, R463): the latest record, the end of a running
holdoff timer. -/
structure EvSlot where
  latest : Option EvRec := none
  timer : Option Nat := none
deriving DecidableEq, Repr

/-- An occurrence kept for a full engine queue (R462): entry, latest record, occurrences held. -/
structure EvHeld where
  id : Nat
  engine : Nat
  last : EvRec
  count : Nat
deriving DecidableEq, Repr

/-- What the module sends to the outside world, in order: completions, MSI-X writes and memory requests on the PCI
Express link, read data for a master, management responses, bursts of a ring port, tenon messages, Uhlux answers, the Uhlux cycles that the
module runs (A[23:0], DSU_N and DSL_N low, WR_N low, D[15:0] of a write; R424) and its acknowledge cycles with their level (R442). -/
inductive Out where
  | completion (tag status : Nat) (data : List Byte) (poisoned : Bool)
  | msix (addr data : Nat)
  | memWrite (addr : Nat) (data : List Byte)
  | memRead (addr len : Nat)
  | regRead (master off : Nat) (value : Nat)
  | answer (transport status : Nat) (data : List Byte)
  | burst (port : Nat) (blocks : List Block)
  | twin (f : Frame)
  | card (port : Nat) (code data : Nat)
  | uxCycle (port addr : Nat) (upper lower write : Bool) (data : Nat)
  | uxIack (port level : Nat)
deriving DecidableEq, Repr

/-- The part of an engine that a discarded instruction must not have changed: general registers (sparse, default 0),
pc, FCSR, launch register, instructions retired (R209). -/
structure EngArch where
  g : List (Nat × U64) := []
  pc : Nat := 0x400
  fcsr : Nat := 0
  launch : Nat := 0
  instret : Nat := 0
deriving DecidableEq, Repr

/-- An outstanding read in the reorder buffer (R343): kind 0 FLD, 1 FSTN, 2 GATH or SCAT, 3 a device load (R245), `sg` one that
sign-extends; when it was issued, the response once it has arrived, and the state its discard restores. -/
structure RobEntry where
  id : Nat
  pc : Nat
  d : Nat
  pair : Bool
  n : Nat
  swap : Nat
  kind : Nat
  ea : Nat
  bseq : Nat
  sg : Bool := false
  at_ : Nat := 0
  resp : Option (Nat × List Byte) := none
  behind : Nat := 0
  half : Option (Bool × Nat) := none
  snap : EngArch
deriving DecidableEq, Repr

/-- A store in an engine's store buffer (R213, R330): kind 0 normal, 1 device, 2 fabric. `after` is the reorder-buffer
number below which every read must have retired, `beat` what BEAT was at issue (R283). -/
structure StoreEntry where
  kind : Nat
  addr : Nat
  data : List Byte
  cls : Nat := 0
  launch : Option Nat := none
  after : Nat := 0
  level : Nat := 0
  beat : Nat := 0
deriving DecidableEq, Repr

/-- A failed store not yet counted by a barrier (R259): far-side fabric store or device store; absorbed by isolation. -/
structure FailedStore where
  fabric : Bool
  absorbed : Bool
deriving DecidableEq, Repr

/-- A firing or event that is pending for a binding, or the one that an activation serves (R201). -/
structure PendBind where
  b : Nat
  time : Nat
  beat : Nat
  event : Bool := false
deriving DecidableEq, Repr

/-- A descriptor of a GATH or SCAT in progress (Table 08-8). -/
structure GsDesc where
  daddr : Nat
  fab : Nat
  loc : Nat
  len : Nat
  ack : Bool
  stop : Bool
  done : Nat := 0
  code : Nat := 0
  sent : Nat := 0
  finished : Bool := false
deriving DecidableEq, Repr

/-- A GATH or SCAT in progress (R300 to R305); `id` is its number, which its requests name, `level` the privilege it was issued at. -/
structure GatScat where
  id : Nat
  gather : Bool
  cls : Nat
  swap : Nat
  launch : Option Nat
  level : Nat
  descs : List GsDesc
deriving DecidableEq, Repr

/-- What an engine in state waiting waits for (R297, R323). -/
inductive Waiting where
  | none
  | time (t : Nat)
  | event (d mtch mask : Nat) (deadline : Option Nat)
  | barrier (kind d : Nat)
deriving DecidableEq, Repr

/-- One logical Tyten engine (Table 06-1, Table 06-2, Table 06-5). `state` is the code of Table 06-5; `budget` is what BUDGET
held when the cycle counter read `budgetAt`; `actAt` is the cycle from which EN_CNT3 counts, `stallAt` that from which issue stalls on a
fabric read (R223). `overran` says that the activation has had its budget overrun (R206), `mcDue` that a machine check is pending (R208).
`lostDev` holds the discarded device loads whose data has not come back: offset, bytes, orphan cause, issue time (R245). -/
structure Engine where
  arch : EngArch := (EngArch.mk [] 0x400 0 0 0)
  state : Nat := 0
  level : Nat := 0
  ie : Nat := 0
  inExc : Nat := 0
  prevLevel : Nat := 0
  prevIe : Nat := 0
  epc : Nat := 0
  ecause : Nat := 0
  eaddr : Nat := 0
  escratch : Nat := 0
  vbase : Nat := 0
  caps : Nat := 0
  budget : Nat := 0
  budgetAt : Nat := 0
  actAt : Nat := 0
  restAt : Nat := 0
  overran : Bool := false
  overrunDue : Bool := false
  mcDue : Bool := false
  stallAt : Option Nat := none
  lostDev : List (Nat × Nat × Nat × Nat) := []
  fabErrDue : Bool := false
  resv : Option Nat := none
  resvAt : Nat := 0
  sb : List StoreEntry := []
  rob : List RobEntry := []
  robNext : Nat := 1
  inbox : List (Nat × Nat × List Byte) := []
  gs : Option GatScat := none
  fails : List FailedStore := []
  wait : Waiting := .none
  evq : List (Nat × Nat) := []
  binds : List PendBind := []
  active : Option PendBind := none
  stopReq : Bool := false
deriving DecidableEq, Repr

/-- A store in a cluster port write queue (R330). -/
structure PortStore where
  engine : Nat
  addr : Nat
  data : List Byte
deriving DecidableEq, Repr

/-- The configuration header (Table 10-1) and the capabilities (Table 10-2: offset and the standard's capability ID, log entry 77) of the PCI
Express function. The vendor and subsystem IDs are loaded at boot from the configuration image. -/
structure PcieHead where
  vendor : Nat := 0
  device : Nat := 0x4016
  revision : Nat := 0x02
  classCode : Nat := 0x088000
  headerType : Nat := 0x00
  intPin : Nat := 0x00
  subVendor : Nat := 0
  subsystem : Nat := 0
  caps : List (Nat × Nat) := [(0x040, 0x01), (0x050, 0x11), (0x070, 0x10), (0x100, 0x0001), (0x150, 0x0019), (0x180, 0x0025),
    (0x190, 0x0026), (0x1C0, 0x002A), (0x200, 0x0027), (0x240, 0x001F), (0x250, 0x0003)]
deriving DecidableEq, Repr

/-- The PCI Express function (R353, R354, R357, R358, R465, R467): its header, Memory Space Enable, Bus Master Enable and when it was
last cleared, D3hot, the MSI-X function mask, the link in L0 with credit. -/
structure Pcie where
  head : PcieHead := {}
  mse : Bool := true
  bme : Bool := false
  d3hot : Bool := false
  funcMask : Bool := false
  l0 : Bool := false
  bmeAt : Nat := 0
deriving DecidableEq, Repr

/-- Who waits for a bridged request, and how (Table 11-1). -/
inductive ReqKind where
  | hostRead (tag : Nat)
  | hostWrite
  | cwp (slot : Nat)
  | fld (rob : Nat)
  | fstn (rob : Nat)
  | fst
  | gs (list desc : Nat)
  | mirror (m : Nat)
deriving DecidableEq, Repr

/-- One frame, or set of Uhlux cycles, of a bridged request (R371): fabric address, length, data to write, the frame's
seq and port once it is sent, the data read, and how it ended. -/
structure Piece where
  fa : Nat
  len : Nat
  data : List Byte := []
  queued : Bool := false
  fseq : Nat := 0
  port : Nat := 0xFF
  sentAt : Option Nat := none
  done : Bool := false
  code : Nat := 0
  got : List Byte := []
deriving DecidableEq, Repr

/-- A request to fabric or Uhlux space that is not resolved (R384, R389). `launch` is a timed write's launch word and `stamp` its full time;
`beat` what BEAT was at issue; `deny` the bytes of a read that protection withholds; `merged` the host writes appended to it (R374);
`orphan` the cause with which its data goes to the orphan capture; `counted` that a barrier still waits for it; `held` that it waits for
the dovetail; `attWord` the ATT entry as it was at acceptance. -/
structure Req where
  bseq : Nat
  init : Nat
  kind : ReqKind
  write : Bool
  posted : Bool
  ack : Bool
  cls : Nat
  faddr : Nat
  iaddr : Nat
  att : Nat := 0xFFFF
  swap : Nat := 0
  tAcc : Nat
  launch : Option Nat := none
  stamp : Option Nat := none
  beat : Nat := 0
  hostMask : List Bool := []
  deny : List Bool := []
  pieces : List Piece
  merged : Nat := 0
  orphan : Option Nat := none
  counted : Bool := true
  held : Bool := false
  attWord : Nat := 0
deriving DecidableEq, Repr

/-- An orphan entry (Table 11-4). -/
structure Orphan where
  faddr : Nat
  bseq : Nat
  tIssue : Nat
  tCapt : Nat
  init : Nat
  cause : Nat
  len : Nat
  data : List Byte
deriving DecidableEq, Repr

/-- A NoC packet that is not finished (Table 14-3). `id` is the model's number of it; `urgent` the channel it travels on; `place` its
flits by stage of its path: in the input buffer of each router, and last those out at the destination's local port (R482); `link` its flits
still to cross the dovetail link; `waits` marks one at a held or gated port. -/
structure NocPacket where
  src : Nat
  dst : Nat
  dport : Nat := 0
  sport : Nat := 0
  master : Nat
  cls : Nat
  op : Nat
  tag : Nat
  addr : Nat := 0
  bseq : Nat
  code : Nat := 0
  data : List Byte := []
  urgent : Bool := false
  id : Nat := 0
  place : List Nat := []
  link : Nat := 0
  injected : Nat := 0
  delivered : Bool := false
  waits : Bool := false
deriving DecidableEq, Repr

/-- An access to a gated or powering-down cluster's SRAM that waits at its router port (R495): master, offset, width,
value, whether a write; or an event post to one of its engines: entry, record, engine (R222, R495). -/
structure GateItem where
  router : Nat
  master : Nat
  off : Nat
  n : Nat
  value : Nat
  write : Bool
  post : Option (Nat × EvRec × Nat) := none
deriving DecidableEq, Repr

/-- The on-die network (14_on_die_network.md). `run` counts consecutive unfinished packets per router, `episode` lists
the routers whose isolation episode has its entry written, with a number for folding; `urgent` is per router the urgent
packets that still count and the time they count from; `bucket` holds per router × 4 + class the tokens in thousandths and their time; `power`
per logical cluster is 0 on, 1 powering down, 2 gated, 3 waking, with the time it began. `queue` holds the packets that wait at a source
port for their regulator, `coming` those that cross the dovetail link from the F-die; `fifo` per channel of an input buffer, or of a local
output, the packets with flits there, in order; `turn` per channel of an output the input served last (R485); `waited` per master the time up
to which its wait for tokens is counted (R503). -/
structure Noc where
  packets : List NocPacket := []
  queue : List NocPacket := []
  coming : List NocPacket := []
  serial : Nat := 0
  fifo : List (Nat × List Nat) := []
  turn : List (Nat × Nat) := []
  waited : List (Nat × Nat) := []
  bucket : List (Nat × Nat × Nat) := []
  urgent : List (Nat × Nat × Nat) := []
  run : List (Nat × Nat) := []
  episodes : Nat := 0
  episode : List (Nat × Nat) := []
  power : List (Nat × Nat × Nat) := []
  waiting : List GateItem := []
deriving DecidableEq, Repr

/-- A frame waiting on a port: the full launch time of a timed frame, the instant its residence or launch slip counts from
(a downbeat, a frame in transit), the bridged request and piece it belongs to; `excess` a TC0 frame served over budget or a
TC1 frame over its direction's budget (R157, R476), `ingress` a reflex output's event frame's ingress. -/
structure TxFrame where
  f : Frame
  timed : Option Nat := none
  nominal : Option Nat := none
  own : Option (Nat × Nat) := none
  internal : Bool := false
  transit : Bool := false
  excess : Bool := false
  ingress : Option Nat := none
deriving DecidableEq, Repr

/-- A frame in the replay buffer (R111). -/
structure Replay where
  lseq : Nat
  retry : Nat
  sentAt : Nat
  t : TxFrame
deriving DecidableEq, Repr

/-- A ring port (03_ring_links_and_frames.md). `cut` is a frame cut for preemption, with the bytes sent and the next fragment number;
`resendDue` a retransmission that waits for its end (R87); `peer` the launch of the last link frame received and when; `rxOpen` the
bytes and the last fragment number of a received frame that is open (R88); `tryAt` when the attempt at block lock began (R78), `fecTry` its number; `tc0Last`
the arrival of the last TC0 frame, `tc0Flag` and `tc0Drop` that this beat's event and log entry of a flood are written (Table 01-7). -/
structure PortSt where
  tx : List TxFrame := []
  cut : Option (Frame × Nat × Nat) := none
  resendDue : Bool := false
  rxOpen : Option (List Byte × Nat) := none
  txNext : Nat := 0
  replay : List Replay := []
  skip : Option Nat := none
  rxNext : Nat := 0
  nakSent : Bool := false
  nakDue : Bool := false
  ackDue : Nat := 0
  dropRun : Nat := 0
  lockAt : Option Nat := none
  trainAt : Nat := 0
  good : Nat := 0
  echoed : Bool := false
  stamps : List Nat := []
  lastRx : Nat := 0
  peer : Option (Nat × Nat) := none
  fecTry : Nat := 0
  tryAt : Nat := 0
  txOff : Bool := false
  tc0Last : Option Nat := none
  tc0Flag : Bool := false
  tc0Drop : Bool := false
deriving DecidableEq, Repr

/-- An enumeration run (R127): `want` is 0 no run, 1 a probe is out, 2 a delay-answer is awaited, 3 a tier-2 probe waits for a reroute
(R151); `port` the port of the station's answer. A tier-2 run names its coupler and ring index. -/
structure EnumRun where
  want : Nat := 0
  west : Bool := false
  port : Nat := 0
  sentAt : Nat := 0
  num : Nat := 0
  tries : Nat := 0
  tier2 : Option (Nat × Nat) := none
deriving DecidableEq, Repr

/-- What the station table engine keeps for a ring, direct (key 0 to 3) or tier-2 (key 4 + coupler × 4 + index):
failed segments, those of them that only the one-way check has marked (R149), those to measure when the ring closes (R154), those the
routes avoid, the segments that wait for their reroute with the time of detection (R150), frames of the host and engines held for
it, and the module's own that wait for it (R151), a second run that came in the healing wait (Table 04-9), clean beats of that wait, the
last loop measurement, a calibration under way, an enum_done that waits for its end (R133), and per segment or position the measured
delays. -/
structure RingSt where
  failed : List Nat := []
  oneWay : List Nat := []
  repair : List Nat := []
  avoid : List Nat := []
  detect : List (Nat × Nat) := []
  held : List TxFrame := []
  own : List TxFrame := []
  second : Bool := false
  doneDue : Bool := false
  heal : Nat := 0
  closedOnce : Bool := false
  closedN : Nat := 0
  loop : Option (Nat × Nat) := none
  calStage : Nat := 0
  calSent : Nat := 0
  calC : Nat := 0
  seg : List (Nat × Nat) := []
  cable : List (Nat × Nat) := []
  resid : List (Nat × Nat) := []
  run : EnumRun := {}
  again : Bool := false
  calMode : Nat := 0
deriving DecidableEq, Repr

/-- A step the station table engine has under way with a station: 4 and 5 as in R136, 6 the later timing block write
of R685, 7 the selection of a tier-2 ring, 10 its run that waits, and the exchanges of R131: 2 of an adoption (`idx` the station on the far
side, `chunk` the port), 8 the last segment of a closed run, 9 and 11 of a calibration out of the station's port and the west port.
`cfgOff` and `cfgLen` are the record of step 4 as it began (Table 04-9). -/
structure Adopt where
  stn : Nat
  step : Nat
  tries : Nat := 0
  chunk : Nat := 0
  seq : Nat := 0
  sentBeat : Nat := 0
  sent : Bool := false
  status : Nat := 0xFF
  idx : Nat := 0
  sentAt : Nat := 0
  cfgOff : Nat := 0
  cfgLen : Nat := 0
deriving DecidableEq, Repr

/-- Duplicate discard of one source, class and kind of destination (R103): highest sequence number, the numbers seen
below it, and of the newest kept frame its port, sequence number and time; how many numbers up to h have been in use. -/
structure RxWin where
  h : Nat
  seen : List Nat := []
  port : Nat := 0
  last : Nat := 0
  at_ : Nat := 0
  span : Nat := 1
deriving DecidableEq, Repr

/-- The copies of a TC1 or vote pair seen since the last input-complete: ring, source, class, seq, kept clockwise,
counter-clockwise. -/
structure PairSeen where
  ring : Nat
  src : Nat
  cls : Nat
  seq : Nat
  cw : Bool
  ccw : Bool
deriving DecidableEq, Repr

/-- Rings and links. `txSeq` and `rx` are keyed per destination or source and class; `used` holds the bytes sent to a
station this beat by class (R138); `wait` the route changes of R153; `tier2` the tier-2 rings each coupler reported; `ans` the answered types; `silent` the strikes
since each station's last frame (R134), up to 4; `stopped` the entries held in discovered (R140); `txHist` the frames sent for R403 (key, seq, bridge number, initiator); `discards` frames of clamped or absent stations;
`redo` the stations whose adoption starts over after its present step (Table 04-9); `hopsE` the hops of each station's latest frame at
the east port (R133); `prefOld` the stations whose route a calibration has changed and whose old direction holds until the edge (R153);
`leadTold` the configured stations of which BT_EVENT.lead_exceeded has told (R67). -/
structure Rings where
  ports : List (Nat × PortSt) := []
  rings : List (Nat × RingSt) := []
  txSeq : List (Nat × Nat) := []
  rx : List (Nat × RxWin) := []
  adopts : List Adopt := []
  used : List (Nat × Nat) := []
  wait : List (Nat × Nat) := []
  tier2 : List (Nat × Nat) := []
  ans : List (Nat × Nat) := []
  silent : List (Nat × Nat) := []
  stopped : List Nat := []
  pairs : List PairSeen := []
  txHist : List (Nat × Nat × Nat × Nat) := []
  discards : Nat := 0
  bulkId : Nat := 0
  redo : List Nat := []
  hopsE : List (Nat × Nat) := []
  prefOld : List (Nat × Nat) := []
  leadTold : List Nat := []
deriving DecidableEq, Repr

/-- A time source's qualification (R41): run of good samples, run of bad ones, qualified since; the latest samples of the run, newest
first; a source's own condition (Announce received, 10 MHz good); its last edge or beat. -/
structure SrcQ where
  good : Nat := 0
  bad : Nat := 0
  since : Option Nat := none
  hist : List Int := []
  flag : Bool := false
  last : Nat := 0
deriving DecidableEq, Repr

/-- The beat and time unit beside its registers (02_beat_and_fabric_time.md). `strike` is the time of the latest
strike; `launched` the beat whose downbeat was launched; `final` that beats end at the next strike instant (R50);
`first` the number of the first strike of an accepted start (R48);
`content` the fixed lead and bitmap of the next downbeat (R56); `lockRun` and `offRun` count offsets for Table 02-3;
`tod` a written whole-second value and when; `integ` the integral part of the frequency word (R45); `means` frequency words of LOCKED
with their times, `lockMean` what HOLDOVER is to hold after a latest stay in LOCKED of 64 s or more (R44);
`commitAt`, `commitTag` and `commitOff` the pending commit and whether it was accepted with beat_en 0 (R650), `starting`
that no strike has fallen since an accepted start, `mirrorEnd` the end of the strike mirror pulse, `hAt` the last slew of the
H-die copy (R35), `checkDue` when the staging checks under way are current (R648). -/
structure Beat where
  strike : Nat := 0
  launched : Option Nat := none
  first : Nat := 0
  final : Bool := false
  content : Option (Nat × Nat × List Byte) := none
  src : List (Nat × SrcQ) := []
  wtr : Option (Nat × Nat) := none
  lockRun : Nat := 0
  offRun : Nat := 0
  tod : Option (Nat × Nat) := none
  todNow : Option Nat := none
  ppsLine : Bool := false
  ppsStart : Nat := 0
  ptmAt : Nat := 0
  ptmOut : Bool := false
  lockedAt : Option Nat := none
  means : List (Nat × Nat) := []
  integ : Int := 0
  lockMean : Option Int := none
  holdAt : Nat := 0
  fired : List (Nat × Nat) := []
  done : List Nat := []
  commitAt : Option Nat := none
  commitTag : Nat := 0
  commitOff : Bool := false
  starting : Bool := false
  mirrorEnd : Option Nat := none
  hAt : Nat := 0
  checkDue : Option Nat := none
deriving DecidableEq, Repr

/-- An Uhlux port beside its registers (12_uhlux_backplane_port.md). `queue` holds the bridge numbers of its requests
in order; `cur` the request in progress, its cycle and when that cycle began; `iack` the acknowledge cycle in progress, its level
and start; `inq` the inbound writes not performed: number, DRAM offset, bytes; `bgOut` and `bbsy` the grant and a card that owns
the bus, `br` a card's request for it; `spur` and `misses` per level and slot; `blocked` the levels not sampled until a time; `sysreset` the end of a rack
reset, which runs for 1 ms from module reset (R448); `lastIn` the last inbound write; `waitSince` when the next cycle became due. -/
structure UxPort where
  queue : List Nat := []
  cur : Option (Nat × Nat × Nat) := none
  iack : Option (Nat × Nat) := none
  inq : List (Nat × Nat × List Byte) := []
  bgOut : Bool := false
  bbsy : Bool := false
  br : Bool := false
  spur : List (Nat × Nat) := []
  misses : List (Nat × Nat) := []
  blocked : List (Nat × Nat) := []
  sysreset : Option Nat := some 1000000
  lastIn : Option Nat := none
  waitSince : Nat := 0
deriving DecidableEq, Repr

/-- An event that waits on its fence (R408): the record, source, arrival time and beat, and the numbers it waits for:
own class TC2, TC1, TC3, and an Uhlux port with its last inbound write. -/
structure Fenced where
  ev : EvRec
  src : Nat
  at_ : Nat
  beat : Nat
  tc2 : Option Nat := none
  tc1 : Option Nat := none
  tc3 : Option Nat := none
  ux : Option (Nat × Nat) := none
deriving DecidableEq, Repr

/-- The image unit beside its registers and the records in DRAM (R532, R533, R536): byte ranges received per station in
the beat, the beats whose stale copy and output carry are still to finish, the stations whose layout changed at the last edge
(Table 16-6), and the beat in which no image-out goes out (R553). -/
structure Img where
  cover : List (Nat × List (Nat × Nat)) := []
  inCopy : Option Nat := none
  outCopy : Option Nat := none
  changed : List Nat := []
  noOut : Option Nat := none
deriving DecidableEq, Repr

/-- A mover descriptor (Table 16-3). -/
structure MvDesc where
  host : Nat
  loc : Nat
  len : Nat
  kind : Nat
  dir : Nat
  ev : Bool
  wait : Bool
  ph : Nat
deriving DecidableEq, Repr

/-- A mover channel: its queue, the running one first, descriptors whose word 3 write waits for a free slot (R542), and for a
running descriptor the bank of its transfer (R543). -/
structure Mover where
  q : List MvDesc := []
  late : List MvDesc := []
  run : Option Nat := none
deriving DecidableEq, Repr

/-- The strike unit's votes for the coming decision (R171 to R173), the beat whose decision deadline has passed last, and the groups that
have held since they last committed in mode vote (R181). -/
structure Strike where
  yes : List Nat := []
  nay : List Nat := []
  decided : Option Nat := none
  holding : List Nat := []
deriving DecidableEq, Repr

/-- A TC0 event frame at the tocsin unit, as it was at its ingress (R25, R28): its port, none for an interlock input, the frame, the time,
the entry that each copy of the unit matches, whether the copies agree (R473), the output frames by output index to the stations that take
them, and the post ID of the entry. -/
structure Reflex where
  port : Option Nat
  f : Frame
  t : Nat
  a : Option Nat := none
  b : Option Nat := none
  same : Bool := true
  outs : List (Nat × Frame) := []
  post : Nat := 0
deriving DecidableEq, Repr

/-- The tocsin unit: over-budget event frames that wait (Table 01-7), frames that wait for the end of a takeover, by copy, entry and word
of the reflex table the bits in which that copy differs from the registers (R473, R474), and the source and number of the frame that TX_DIS
shows. -/
structure Tocsin where
  be : List Reflex := []
  hold : List Reflex := []
  copies : List (Nat × U64) := []
  dis : Option (Nat × Nat) := none
deriving DecidableEq, Repr

/-- A twin message received and not yet sealed (Table 17-5): code, bank or region, offset (JN_NEXT and BR_SEQ of code 0x05),
bytes, register values, sequence counters. -/
structure TwMsg where
  code : Nat
  a : Nat := 0
  off : Nat := 0
  data : List Byte := []
  pairs : List (Nat × U64) := []
  seqs : List (Nat × Nat) := []
deriving DecidableEq, Repr

/-- Twin operation (17_containment_twin_and_long_run.md): it has taken over and sends origin 0b10; a takeover is in progress;
expected downbeats missed in a row; the unsealed set; the mirrored sequence counters, JN_NEXT and BR_SEQ; a seal came in this
beat; beats with the dovetail link down; message 0x06 is sent; the role was read as 0b11 (R572); the committed values to mirror. -/
structure Twin where
  origin2 : Bool := false
  progress : Bool := false
  missed : Nat := 0
  buf : List TwMsg := []
  seqs : List (Nat × Nat) := []
  jnNext : Nat := 0
  brSeq : Nat := 0
  sealed : Bool := false
  downBeats : Nat := 0
  told : Bool := false
  blind : Bool := false
  applied : List (Nat × U64) := []
  seq : Nat := 0
  dMax : Nat := 0
deriving DecidableEq, Repr

/-- A cluster migration (R220, R221): source, spare; phase 0 pending, 1 draining, 2 copying, with the time it began; whether
the self-test asked for it (R567). -/
structure Migration where
  src : Nat
  spare : Nat
  phase : Nat := 0
  at_ : Nat := 0
  test : Bool := false
deriving DecidableEq, Repr

/-- A self-test (Table 17-3): kind, target and migrate flag; when it began to run; for a recalibration whether the port is
down, and for a BIST that a migration comes first. -/
structure TestRun where
  kind : Nat
  target : Nat
  migrate : Bool
  at_ : Nat := 0
  down : Bool := false
  moving : Bool := false
deriving DecidableEq, Repr

/-- The self-test unit (R566): the running test, the one held, physical clusters that failed a BIST (R568). -/
structure SelfTest where
  run : Option TestRun := none
  next : Option TestRun := none
  bad : List Nat := []
deriving DecidableEq, Repr

/-- A NoC flit that crosses the dovetail link: its channel, the packet it is of, its bits; once it is sent, its sequence number and how
often it was sent. -/
structure DvFlit where
  ch : Nat
  packet : Nat
  bits : BitVec 256
  seq : Nat := 0
  sent : Nat := 0
deriving DecidableEq, Repr

/-- One direction of the dovetail link (R591 to R594). The sender: flits that wait, its replay buffer and next sequence number, of a
replay in progress where it began and the next number to send again, credits used per channel. The receiver: the number it expects, whether its
nak is out or to be sent, and the buffer flits freed per channel and not yet returned. -/
structure DvDir where
  queue : List DvFlit := []
  held : List DvFlit := []
  next : Nat := 0
  replay : Option (Nat × Nat) := none
  used : List (Nat × Nat) := []
  want : Nat := 0
  nakOut : Bool := false
  nakDue : Bool := false
  freed : List (Nat × Nat) := []
deriving DecidableEq, Repr

/-- The dovetail link beside its registers (18_dovetail_and_clock_crossings.md): both directions, when its state was entered
and when training is due, CRC errors of the current ms, unspare asked for, the dies' ready lines, and the order in which
the F-die's held items came: 0 a log entry, 1 an event post, 2 a late response; `cross` per event of a foreign clock domain when its toggle's
round trip ends, and whether a further request is pending (R605). -/
structure Dovetail where
  dirs : List (Nat × DvDir) := []
  at_ : Nat := 0
  due : Nat := 0
  errs : Nat := 0
  unspare : Bool := false
  readyH : Bool := false
  readyF : Bool := false
  order : List Nat := []
  cross : List (Nat × Nat × Bool) := []
deriving DecidableEq, Repr

/-- A record of the non-volatile log (R629, R655): kind 0 a log entry of plane 2, 1 a removal, with fabric time, beat number,
cause and detail. -/
structure NvRec where
  kind : Nat
  time : Nat
  beat : Nat
  cause : Nat
  detail : Nat
deriving DecidableEq, Repr

/-- An update session (R654): image kind, bank, length, FW_VERIFY passed since the last FW_DATA. -/
structure FwUpd where
  kind : Nat
  bank : Nat
  len : Nat
  verified : Bool := false
deriving DecidableEq, Repr

/-- The hot-swap stage and the always-on domain (19_power_and_hot_insertion.md, 20_reset_boot_and_management.md). The stage's
state code is in PW_STAGE. `seat` and `en` are its inputs; `at_` when the state was entered, `noFeed`
since when no feed is valid, `enLow` since when EN is low; `limit` the current limit active, `count` the fault timer in tenths of
a ns at `countAt`, `quiet` the start of the quiet window; `seen` PG has asserted since on; `step` the power-up step done and `pgAt`
its start; `held` domains held off; `latch` the cause of a latch-off, `latches` those not yet logged (non-volatile); `hold` both dies
held in reset by the management controller, `shutdown` for heat, `failed` the image kinds that did not verify at boot; `bootLog` a
reset whose log entry is still to be written; `upd` the update session; `mbx` the running mailbox command. -/
structure Power where
  seat : Nat := 0
  en : Bool := true
  at_ : Nat := 0
  noFeed : Option Nat := none
  enLow : Option Nat := none
  limit : Bool := false
  count : Nat := 0
  countAt : Nat := 0
  quiet : Option Nat := none
  seen : Bool := false
  step : Nat := 0
  pgAt : Nat := 0
  held : List Nat := []
  latch : Option Nat := none
  latches : Nat := 0
  hold : Bool := false
  shutdown : Bool := false
  failed : List Nat := []
  bootLog : Option (Nat × Nat) := some (1, 0xFE)
  upd : Option FwUpd := none
  mbx : Option Nat := none
deriving DecidableEq, Repr

/-- A flash bank of one image kind (R643, R654): it verified, version, rollback level, key slot, and the bytes written by an
update. -/
structure FwBank where
  valid : Bool := true
  version : Nat := 0
  level : Nat := 0
  slot : Nat := 0
  data : List Host.Cell := []
deriving DecidableEq, Repr

/-- The non-volatile firmware store (R643 to R647): banks (key kind × 2 + bank), rollback floor per kind, revoked key
slots. -/
structure Nv where
  banks : List (Nat × FwBank) := []
  floors : List (Nat × Nat) := []
  revoked : List Nat := []
deriving DecidableEq, Repr

/-- The module but for its non-volatile firmware store and its command queue. -/
structure Mach where
  /-- Registers that differ from their reset value, by key. -/
  regs : List (Nat × U64) := []
  /-- Staging copies that differ from their reset value (R4). -/
  staged : List (Nat × U64) := []
  /-- The staging copies captured by an accepted commit (R5), while it is pending. -/
  committed : Option (List (Nat × U64)) := none
  /-- Select registers per master: key master × 16 + select register (0 ST, 1 SK, 2 AT, 3 BR, 4 EV, 5 TX, 6 NC, 7 CT), and in
  8 the fraction latched by the master's last BT_TIME read. -/
  sel : List (Nat × Nat) := []
  /-- Held lower halves: master, BAR0 offset of the register, value (R8). -/
  heldLo : List (Nat × Nat × Nat) := []
  /-- The upper-half latch of each master: master, BAR0 offset of the lower half, value (R9). -/
  latch : List (Nat × Nat × Nat) := []
  /-- Fabric time in ns, and the fraction of a ns that the beat and time unit holds beside it, in units of 2^-16 ns (R30). -/
  now : Nat := 0
  sub : Nat := 0
  /-- The model's own counter of free values (Config.freeValue). -/
  freeCtr : Nat := 0
  work : List Work := []
  out : List Out := []
  log : List (Nat × LogEntry) := []
  folds : List (Nat × Nat) := []
  heldLogs : List LogEntry := []
  heldLogLost : Nat := 0
  heldPosts : List EvRec := []
  heldPostsLost : Nat := 0
  hReset : Bool := false
  /-- The H-die's copy of the region sets was cleared by an H-die reset; the next commit writes it again (R509, R637). -/
  mpuClear : Bool := false
  jq : List JEntry := []
  jStarted : Bool := false
  jDropBoot : Nat := 0
  jDropNojrn : Nat := 0
  jDropDis : Nat := 0
  jDropFull : Nat := 0
  evSlots : List (Nat × EvSlot) := []
  evHeld : List EvHeld := []
  mxAcc : List (Nat × Nat) := []
  mxHeld : List Nat := []
  mxEpisode : Bool := false
  pcie : Pcie := {}
  dram : List Host.Cell := []
  dramBad : List Nat := []
  scratch : List Host.Cell := []
  csram : List Host.Cell := []
  isram : List Host.Cell := []
  portQ : List (Nat × List PortStore) := []
  engines : List (Nat × Engine) := []
  /-- Cycles of the 1.0 GHz clock, and what it read at the engines' last reset. -/
  cycles : Nat := 0
  engBase : Nat := 0
  /-- The H-die copy of fabric time runs off the main copy by this many ns (R34). -/
  hSkew : Int := 0
  reqs : List Req := []
  orphans : List Orphan := []
  lateResp : List Orphan := []
  noc : Noc := {}
  ring : Rings := {}
  beat : Beat := {}
  ux : List (Nat × UxPort) := []
  fenced : List Fenced := []
  img : Img := {}
  movers : List (Nat × Mover) := []
  /-- Words 0 to 2 of JN_MV_DESC held per master and channel (R542): key (master × 8 + channel) × 4 + word. -/
  mvWords : List (Nat × Nat) := []
  /-- Words 1 to 3 latched by a journal reader read (R551): key master × 4 + port. -/
  jLatch : List (Nat × List Nat) := []
  mig : Option Migration := none
  dv : Dovetail := {}
  pw : Power := {}
  /-- The non-volatile log, oldest first (R655), and the shadow of the error log in always-on SRAM. -/
  nvLog : List NvRec := []
  shadow : List (Nat × LogEntry) := []
  /-- Register writes held for a domain whose clock is stopped: offset, master, bytes, value (R608); and the domains stopped. -/
  heldWrites : List (Nat × Nat × Nat × Nat) := []
  stopped : List Nat := []
  test : SelfTest := {}
  twin : Twin := {}
  strike : Strike := {}
  tocsin : Tocsin := {}
deriving DecidableEq, Repr

/-- The whole state: the waiting commands (first in, first out), the non-volatile firmware store, the module. -/
structure State where
  pending : List Instr := []
  nv : Nv := {}
  m : Mach := {}
deriving DecidableEq, Repr

/-- The module right after a power-on reset. -/
def State.reset : State := {}

end Sys2Proof.Machine
end

