-- ==== Sys2Proof/Machine/Ops.lean ====
section
/-!
DEFINITION. The named operations over registers, counters, memories, time and the module's internal work list.
-/
namespace Sys2Proof.Machine

/-! ### Registers -/

/-- The card that holds a key, with its two indices. -/
def cardAt (c : Card) (k : Nat) : Option (Nat × Nat) :=
  if k < c.base then none
  else
    let r := k - c.base
    let i := if c.n1 = 1 then 0 else r / c.s1
    let q := if c.n1 = 1 then r else r % c.s1
    let j := if c.n2 = 1 then 0 else q / c.s2
    let z := if c.n2 = 1 then q else q % c.s2
    if i < c.n1 ∧ j < c.n2 ∧ z = 0 then some (i, j) else none

/-- The card of a register key. -/
def findCard (k : Nat) : List Card → Option Card
  | [] => none
  | c :: t => if (cardAt c k).isSome then some c else findCard k t

/-- Reset values the cards give by table or field and not by one number: PW_THRESH of Table 20-7, the device and
revision of GL_ID and its firmware release, which R1 states as 3.2 (log entry 14). -/
def resetSpecial (k : Nat) : Option Nat :=
  if k = PW_THRESH 0 ∨ k = PW_THRESH 1 then some 0x007D6E64
  else if k = PW_THRESH 2 then some 0x00695F55
  else if k = PW_THRESH 3 then some 0x00554641
  else if k = PW_THRESH 4 then some 0x008C7D6E
  else if k = GL_ID then some 0x40162032
  else none

/-- The cards of the block (or, above BAR0, of the table) that a key lies in. -/
def blockCards (k : Nat) : List Card :=
  if k < 0x100000000 then
    match k / 0x100000 with
    | 0 => cardsGL
    | 1 => cardsBT
    | 2 => cardsRG
    | 3 => cardsST
    | 4 => cardsAT
    | 5 => cardsBR
    | 6 => cardsEV
    | 7 => cardsMX
    | 8 => cardsTX
    | 9 => cardsSK
    | 10 => cardsEN
    | 11 => cardsNC
    | 12 => cardsPT
    | 13 => cardsUX
    | 14 => cardsJN
    | 15 => cardsCT
    | 16 => cardsDV
    | 17 => cardsPW
    | 18 => cardsTW
    | _ => []
  else
    match k / 0x100000000 with
    | 1 => cardsST
    | 2 => cardsAT
    | 3 => cardsEV
    | 4 => cardsTX
    | 5 => cardsBR
    | 6 => cardsSK
    | 7 => cardsNC
    | _ => []

/-- The reset value of a register (its card); 0 for a reserved offset (R3). -/
def regReset (k : Nat) : U64 :=
  match resetSpecial k with
  | some v => BitVec.ofNat 64 v
  | none =>
    match findCard k (blockCards k) with
    | some c => BitVec.ofNat 64 c.reset
    | none => 0

/-- The value of a register. -/
def Mach.r (s : Mach) (k : Nat) : U64 := mapGet regReset s.regs k
/-- Set a whole register. -/
def Mach.setR (s : Mach) (k : Nat) (v : U64) : Mach := { s with regs := mapSet regReset s.regs k v }
/-- The value of a register as a number. -/
def Mach.n (s : Mach) (k : Nat) : Nat := (s.r k).toNat
/-- Set a whole register from a number. -/
def Mach.setN (s : Mach) (k x : Nat) : Mach := s.setR k (BitVec.ofNat 64 x)
/-- The value of a field. -/
def Mach.f (s : Mach) (x : RF) : Nat := fieldOf (s.r x.reg) x.lo x.width
/-- Set a field. -/
def Mach.setF (s : Mach) (x : RF) (v : Nat) : Mach := s.setR x.reg (withField (s.r x.reg) x.lo x.width v)
/-- A one-bit field as a test. -/
def Mach.b (s : Mach) (x : RF) : Bool := s.f x == 1
/-- The staging copy of a register (R4). -/
def Mach.st (s : Mach) (k : Nat) : U64 := mapGet regReset s.staged k
/-- Set a staging copy. -/
def Mach.setSt (s : Mach) (k : Nat) (v : U64) : Mach := { s with staged := mapSet regReset s.staged k v }
/-- A field of a staging copy. -/
def Mach.sf (s : Mach) (x : RF) : Nat := fieldOf (s.st x.reg) x.lo x.width
/-- Set a field in the active value and in the staging copy: fields the module itself sets in an RWS register. -/
def Mach.setBoth (s : Mach) (x : RF) (v : Nat) : Mach :=
  (s.setF x v).setSt x.reg (withField (s.st x.reg) x.lo x.width v)
/-- Add to a 64-bit counter; it never wraps in service (R584). -/
def Mach.add (s : Mach) (k x : Nat) : Mach := s.setN k (s.n k + x)
/-- Increment a 64-bit counter. -/
def Mach.inc (s : Mach) (k : Nat) : Mach := s.add k 1
/-- Increment a field that wraps freely. -/
def Mach.incF (s : Mach) (x : RF) : Mach := s.setF x (s.f x + 1)
/-- Increment a field that saturates. -/
def Mach.satF (s : Mach) (x : RF) : Mach := s.setF x (satAt (2 ^ x.width - 1) (s.f x + 1))

/-- A free value of the model: an uninterpreted number, and the counter moved on. -/
def Mach.free (s : Mach) : Nat × Mach := (Config.freeValue s.freeCtr, { s with freeCtr := s.freeCtr + 1 })

/-! ### Work for the log, event and journal units -/

/-- Put work on the internal list. -/
def Mach.push (s : Mach) (w : Work) : Mach := { s with work := s.work ++ [w] }

/-- Write an error-log entry, with the time of failure (R404, R563). -/
def Mach.logE (s : Mach) (e : LogEntry) : Mach := s.push (.log none { e with tFail := s.now })

/-- Write an error-log entry that later ones with the same key fold into (R402, R526). -/
def Mach.logFold (s : Mach) (key : Nat) (e : LogEntry) : Mach := s.push (.log (some key) { e with tFail := s.now })

/-- Write an error-log entry that has a cause and a detail only. -/
def Mach.logC (s : Mach) (cause detail : Nat) : Mach := s.logE { cause := cause, detail := detail }

/-- Bits [15:14] of a source: a module unit, and its BAR0 block (R456). -/
def unitSource (block : Nat) : Nat := 0x8000 + block

/-- Table 13-2: the event ID and condition of bit b of the event register at a key. -/
def unitEvent (s : Mach) (x : RF) : Nat × Nat :=
  let blk := x.reg / 0x100000
  if blk = 0x01 then (0xF000 + x.lo, 0)
  else if blk = 0x02 then
    if x.reg < 0x202000 then
      let p := (x.reg - 0x200000) / 0x400
      (0xF020 + 0x10 * p + x.lo, p)
    else
      let n := (x.reg - 0x202000) / 0x100
      (0xF0A0 + 0x10 * n + x.lo, n)
  else if blk = 0x03 then (0xF0E0 + x.lo, s.f ST_EVENT_STN_station)
  else if blk = 0x04 then (0xF100 + x.lo, 0)
  else if blk = 0x05 then (0xF110 + x.lo, 0)
  else if blk = 0x06 then (0xF120 + x.lo, 0)
  else if blk = 0x07 then (0xF130 + x.lo, 0)
  else if blk = 0x08 then (0xF140 + x.lo, 0)
  else if blk = 0x09 then (0xF160 + x.lo, 0)
  else if blk = 0x0A then (0xF170 + x.lo, s.f EN_EVENT_ENG_engine)
  else if blk = 0x0D then
    let p := (x.reg - 0xD00000) / 0x1000
    (0xF180 + 0x10 * p + x.lo, p)
  else (0xF400 + 0x40 * blk + x.lo, 0)

/-- Hardware sets a bit of a unit event register, which posts its event (R455). -/
def Mach.raise (s : Mach) (x : RF) : Mach :=
  let s := s.setF x 1
  let e := unitEvent s x
  s.push (.event { id := e.1, cond := e.2, source := unitSource (x.reg / 0x100000), time := s.now,
                   urgent := decide (x.reg / 0x100000 = 0x08) })

/-- An event of EN_EVENT, with the engine and bit in EN_EVENT_ENG. -/
def Mach.raiseEng (s : Mach) (x : RF) (e : Nat) : Mach :=
  ((s.setF EN_EVENT_ENG_engine e).setF EN_EVENT_ENG_bit x.lo).raise x

/-- An event of ST_EVENT, with the station in ST_EVENT_STN. -/
def Mach.raiseStn (s : Mach) (x : RF) (n : Nat) : Mach :=
  ((s.setF ST_EVENT_STN_station n).setF ST_EVENT_STN_bit x.lo).raise x

/-- Ask the journal unit to accept an entry (R546). -/
def Mach.jpush (s : Mach) (time kind : Nat) (rest : List Byte) : Mach := s.push (.journal time kind rest)

/-- Send something to the outside world. -/
def Mach.emit (s : Mach) (o : Out) : Mach := { s with out := s.out ++ [o] }

/-! ### Time -/

/-- The servo's frequency word as a signed number, in units of 2^-40 (BT_FREQ). -/
def freqWord (s : Mach) : Int := signed 32 (s.f BT_FREQ_freq)

/-- What the accumulator adds to fabric time in one cycle of the 1.0 GHz clock, which the TCXO drives: 1 ns times the frequency, in
units of 2^-40 ns (R30, R45). -/
def timeRate (s : Mach) : Nat := (Int.ofNat (2 ^ 40) + freqWord s).toNat

/-- c cycles pass, and fabric time reads t and a fraction. A copy on the H-die that runs on without correction counts the cycles
(R35). -/
def Mach.pass (s : Mach) (c t frac : Nat) : Mach :=
  { s with now := t, sub := frac, cycles := s.cycles + c,
           hSkew := if s.b BT_STATUS_hdie_time_free then s.hSkew + Int.ofNat c - (Int.ofNat t - Int.ofNat s.now) else s.hSkew }

/-- Time does not run back: the moment of a timed event, when it has not passed yet. The cycles that pass are those the accumulator
needs to reach t; the fraction is what it then holds beyond t (R30). -/
def Mach.upTo (s : Mach) (t : Nat) : Mach :=
  if s.now < t then
    let need := (t - s.now) * 2 ^ 40 - s.sub * 2 ^ 24
    let c := (need + timeRate s - 1) / timeRate s
    s.pass c t (satAt 65535 ((c * timeRate s - need) / 2 ^ 24))
  else s

/-- As `upTo`, for a deadline on the 1.0 GHz clock, which no step of fabric time moves. -/
def Mach.upToC (s : Mach) (t : Nat) : Mach :=
  if s.cycles < t then
    let x := s.sub * 2 ^ 24 + (t - s.cycles) * timeRate s
    s.pass (t - s.cycles) (s.now + x / 2 ^ 40) (x % 2 ^ 40 / 2 ^ 24)
  else s

/-- The H-die copy of fabric time (R34). -/
def Mach.hTime (s : Mach) : Nat := (Int.ofNat s.now + s.hSkew).toNat

/-- The moment at which the H-die copy reads t (R34). -/
def Mach.upToH (s : Mach) (t : Nat) : Mach := s.upTo (Int.ofNat t - s.hSkew).toNat

/-! ### Engines -/

/-- The logical engine e. -/
def Mach.eng (s : Mach) (e : Nat) : Engine := mapGet (fun _ => ({} : Engine)) s.engines e
/-- Replace engine e. -/
def Mach.setEng (s : Mach) (e : Nat) (x : Engine) : Mach :=
  { s with engines := mapSet (fun _ => ({} : Engine)) s.engines e x }
/-- Change engine e. -/
def Mach.updEng (s : Mach) (e : Nat) (h : Engine → Engine) : Mach := s.setEng e (h (s.eng e))

/-! ### Clusters and their router ports -/

/-- The physical cluster under a logical cluster (EN_CL_MAP). -/
def Mach.phys (s : Mach) (c : Nat) : Nat := (s.n EN_CL_MAP / 2 ^ (4 * c)) % 16

/-- The router of physical cluster c (R480). -/
def clusterRouter (c : Nat) : Nat := (c % 4) * 6 + 1 + c / 4

/-- State of a local port (Table 14-6). -/
def Mach.port (s : Mach) (r : Nat) : Nat := s.f (NC_PORT_STATUS_state r)

/-- The unit at a router answers an access now: its port is open. -/
def Mach.nocAnswers (s : Mach) (r : Nat) : Bool := s.port r == 0

/-- The DRAM channel's router for a DRAM offset (R481). -/
def dramRouter (off : Nat) : Nat := if bitAt off 8 then 17 else 11

/-- DRAM answers accesses: trained and not clamped (R560). -/
def Mach.dramOk (s : Mach) : Bool := s.b JN_STATUS_dram_ok

/-- DRAM at an offset answers: the controller works and the channel's port is open. -/
def Mach.dramReach (s : Mach) (off : Nat) : Bool := s.dramOk && s.nocAnswers (dramRouter off)

/-- The router of logical cluster c. -/
def Mach.clRouter (s : Mach) (c : Nat) : Nat := clusterRouter (s.phys c)

/-- Engine e belongs to a cluster whose migration has started: it dispatches nothing (R221). -/
def migrating (s : Mach) (e : Nat) : Bool :=
  match s.mig with
  | some m => m.src == e / 4 && decide (1 ≤ m.phase)
  | none => false

/-- R497, R402: one posted packet absorbed at router r is counted; one log entry for an isolation episode, into which later packets fold. -/
def absorbLog (s : Mach) (r : Nat) (e : LogEntry) : Mach :=
  let s := (s.inc (NC_CNT 4)).raise NC_EVENT_absorbed
  let ep := match s.noc.episode.find? (fun x => x.1 == r) with
    | some x => x.2
    | none => s.noc.episodes + 1
  let s := if s.noc.episode.any (fun x => x.1 == r) then s
    else { s with noc := { s.noc with episodes := ep, episode := (r, ep) :: s.noc.episode } }
  s.logFold (0x0B000000 + ep) e

/-- A posted packet of a master is absorbed at router r: cause 0x050C when it carries a bridge sequence number, else 0x0B02. -/
def nocAbsorb (s : Mach) (r master : Nat) (bseq : Option Nat) : Mach :=
  absorbLog s r
    { cause := (match bseq with
                | some _ => 0x050C
                | none => 0x0B02),
      bseq := bseq.getD 0xFFFFFFFFFFFFFFFF, initiator := master, code := 0x15, detail := r }

/-! ### Memories -/

/-- A byte of memory that nothing has written reads 0 (DESIGN CHOICE: the spec gives no power-on contents). -/
def memReset (_ : Nat) : Byte := 0

/-- Read n bytes of module DRAM. -/
def Mach.dramRead (s : Mach) (a n : Nat) : List Byte := mapRange memReset s.dram a n
/-- A reservation on the granule that a store by another agent touches is lost (R253). The key is the location's. -/
def breakResv (s : Mach) (writer : Nat) (space key len : Nat) : Mach :=
  let hit (x : Engine) : Bool :=
    match x.resv with
    | some g => decide (x.resvAt = space) && decide (g * 64 < key + len) && decide (key < g * 64 + 64)
    | none => false
  forEach (s.engines.map (fun p => p.1))
    (fun e t => if e ≠ writer && hit (t.eng e) then t.updEng e (fun x => { x with resv := none }) else t) s

/-- Bytes put into module DRAM. A whole 8-byte word written afresh has good ECC again (R554). -/
def Mach.dramPut (s : Mach) (a : Nat) (bs : List Byte) : Mach :=
  { s with dram := mapSetRange memReset s.dram a bs,
           dramBad := s.dramBad.filter (fun w => ¬ (a ≤ w * 8 ∧ w * 8 + 8 ≤ a + bs.length)) }
/-- Write bytes to module DRAM as master m: other agents' reservations on the granule are lost (R253). -/
def dramWriteBy (s : Mach) (m a : Nat) (bs : List Byte) : Mach := (breakResv s m 2 a bs.length).dramPut a bs
/-- Write bytes to module DRAM as a unit that is no engine. -/
def Mach.dramWrite (s : Mach) (a : Nat) (bs : List Byte) : Mach := dramWriteBy s 0x51 a bs
/-- Write bytes to cluster SRAM as master m, by their key. -/
def csramWriteBy (s : Mach) (m k : Nat) (bs : List Byte) : Mach :=
  let s := breakResv s m 1 k bs.length
  { s with csram := mapSetRange memReset s.csram k bs }
/-- A number of n bytes in module DRAM, little-endian. -/
def Mach.dramNat (s : Mach) (a n : Nat) : Nat := leNat (s.dramRead a n)
/-- Whether any word of a DRAM range has an uncorrectable error (R554). -/
def Mach.dramPoison (s : Mach) (a n : Nat) : Bool :=
  s.dramBad.any (fun w => decide (a < w * 8 + 8 ∧ w * 8 < a + n))

/-- The three SRAM kinds as key spaces: engine scratch (128 KiB), cluster SRAM (1 MiB), instruction SRAM (64 KiB). -/
def scrKey (e a : Nat) : Nat := e * 0x20000 + a % 0x20000
/-- Key of a cluster SRAM byte. -/
def clsKey (c a : Nat) : Nat := c * 0x100000 + a % 0x100000
/-- Key of an instruction SRAM byte. -/
def isrKey (e a : Nat) : Nat := e * 0x10000 + a % 0x10000

/-- Where an engine address lies (Table 06-4). -/
inductive Loc where
  | scratch (a : Nat)
  | csram (a : Nat)
  | mirror (off : Nat)
  | dram (off : Nat)
  | fabric (fa : Nat)
  | nowhere
deriving DecidableEq, Repr

/-- The range of Table 06-4 that holds an engine address. -/
def locate (a : Nat) : Loc :=
  if a < 0x20000 then .scratch a
  else if 0x1000000 ≤ a ∧ a < 0x1100000 then .csram (a - 0x1000000)
  else if 0x40000000 ≤ a ∧ a < 0x44000000 then .mirror (a - 0x40000000)
  else if 0x400000000 ≤ a ∧ a < 0x800000000 then .dram (a - 0x400000000)
  else if 0x800000000000 ≤ a ∧ a < 0x1000000000000 then .fabric (a - 0x800000000000)
  else .nowhere

/-- Read bytes of normal memory as engine e sees its serialising points (scratch, cluster SRAM, DRAM). -/
def Mach.memBytes (s : Mach) (e : Nat) (l : Loc) (n : Nat) : List Byte :=
  match l with
  | .scratch a => mapRange memReset s.scratch (scrKey e a) n
  | .csram a => mapRange memReset s.csram (clsKey (e / 4) a) n
  | .dram o => s.dramRead o n
  | _ => []

/-! ### Fabric addresses (Table 10-4) -/

/-- Space of a fabric address: 0 register, 1 image, 2 Uhlux. -/
def faSpace (fa : Nat) : Nat := fa / 2 ^ 45 % 4
/-- Station of a fabric address. -/
def faStation (fa : Nat) : Nat := fa / 2 ^ 31 % 2 ^ 14
/-- Offset within the space of a station. -/
def faOff (fa : Nat) : Nat := fa % 2 ^ 31
/-- Uhlux port of a fabric address. -/
def faPort (fa : Nat) : Nat := fa / 2 ^ 44 % 2
/-- Uhlux card address. -/
def faCard (fa : Nat) : Nat := fa % 2 ^ 24

/-! ### Ring ports, rings, Uhlux ports, bridged requests -/

/-- Ring port p. -/
def Mach.rport (s : Mach) (p : Nat) : PortSt := mapGet (fun _ => ({} : PortSt)) s.ring.ports p
/-- Replace port p. -/
def Mach.setRport (s : Mach) (p : Nat) (x : PortSt) : Mach :=
  { s with ring := { s.ring with ports := mapSet (fun _ => ({} : PortSt)) s.ring.ports p x } }
/-- The ring of a key. -/
def Mach.rst (s : Mach) (n : Nat) : RingSt := mapGet (fun _ => ({} : RingSt)) s.ring.rings n
/-- Replace it. -/
def Mach.setRst (s : Mach) (n : Nat) (x : RingSt) : Mach :=
  { s with ring := { s.ring with rings := mapSet (fun _ => ({} : RingSt)) s.ring.rings n x } }

/-- Uhlux port p. -/
def Mach.uxp (s : Mach) (p : Nat) : UxPort := mapGet (fun _ => ({} : UxPort)) s.ux p
/-- Replace it. -/
def Mach.setUxp (s : Mach) (p : Nat) (x : UxPort) : Mach := { s with ux := mapSet (fun _ => ({} : UxPort)) s.ux p x }

/-- The outstanding request with a bridge number. -/
def Mach.req (s : Mach) (b : Nat) : Option Req := s.reqs.find? (fun q => q.bseq == b)
/-- Change it. -/
def Mach.updReq (s : Mach) (b : Nat) (h : Req → Req) : Mach := { s with reqs := mapWhere (fun q => q.bseq == b) h s.reqs }
/-- Remove it. -/
def Mach.dropReq (s : Mach) (b : Nat) : Mach := { s with reqs := s.reqs.filter (fun q => q.bseq != b) }

/-- The data a request has brought back, in fabric order. -/
def reqData (q : Req) : List Byte := q.pieces.foldl (fun l p => l ++ p.got) []

end Sys2Proof.Machine
end

