-- ==== Sys2Proof/Machine/Mpu.lean ====
section
/-!
DEFINITION. The memory protection unit (15_access_protection.md): the decision for each byte of an access, what a
denial records, and how an access with denied bytes is answered.
-/
namespace Sys2Proof.Machine

/-- Table 15-1: the rights an access needs. -/
structure Need where
  r : Bool
  w : Bool
  a : Bool
deriving DecidableEq, Repr

/-- Loads and reads. -/
def needR : Need := ⟨true, false, false⟩
/-- Stores and writes. -/
def needW : Need := ⟨false, true, false⟩
/-- LR. -/
def needLr : Need := ⟨true, false, true⟩
/-- SC, AMO, CAS. -/
def needAmo : Need := ⟨true, true, true⟩

/-- Table 15-4: why a byte is denied; `region` is 0x3F when no region was hit. -/
structure Denial where
  reason : Nat
  region : Nat
deriving DecidableEq, Repr

/-- A master on the F-die (R509). -/
def fDieMaster (m : Nat) : Bool :=
  m == 0x50 || m == 0x52 || (decide (0x58 ≤ m) && decide (m ≤ 0x5D)) || m == 0x60 || m == 0x61 || m == 0x7E

/-- A master's set is in its reset state: the H-die's copy after an H-die reset, up to the next commit (R509, R637). -/
def setGone (s : Mach) (m : Nat) : Bool := s.mpuClear && !fDieMaster m

/-- PT_MCFG.dflt as the check at the master's entry point has it (R509, R517). -/
def mpuDflt (s : Mach) (m : Nat) : Nat := if setGone s m then 1 else s.f (PT_MCFG_dflt m)

/-- Region k of a master's set is valid, applies at the level, and covers the address (R512). -/
def regionHit (s : Mach) (m : Nat) (sup : Bool) (addr k : Nat) : Bool :=
  !setGone s m && s.b (PT_RA_valid m k) &&
  (decide (64 ≤ m) || bitAt (s.f (PT_RA_lvl m k)) (if sup then 1 else 0)) &&
  decide (s.f (PT_RA_start m k) * 32 ≤ addr) && decide (addr ≤ s.f (PT_RB_end m k) * 32 + 31)

/-- Whether a region grants the rights an access needs. -/
def regionGrants (s : Mach) (m k : Nat) (n : Need) : Bool :=
  (!n.r || s.b (PT_RA_r m k)) && (!n.w || s.b (PT_RA_w m k)) && (!n.a || s.b (PT_RA_a m k))

/-- Table 15-2, the default map (R518). -/
def defaultMap (m addr : Nat) (n : Need) : Option Denial :=
  match locate addr with
  | .scratch _ => if m < 64 then none else some ⟨1, 0x3F⟩
  | .csram _ => if m < 64 then none else some ⟨1, 0x3F⟩
  | .mirror off =>
    if off / 0x100000 = 0x0C then
      if n.a then some ⟨1, 0x3F⟩
      else if n.w then
        if m = 0x40 ∨ m = 0x60 ∨ m = 0x7E then none else some ⟨5, 0x3F⟩
      else none
    else if n.a then some ⟨1, 0x3F⟩ else none
  | .dram _ => none
  | .fabric _ => if n.a then some ⟨1, 0x3F⟩ else none
  | .nowhere => some ⟨1, 0x3F⟩

/-- R517: the decision for one byte. -/
def checkByte (s : Mach) (m : Nat) (sup : Bool) (addr : Nat) (n : Need) : Option Denial :=
  match (keysFrom 0 32).filter (regionHit s m sup addr) with
  | k :: _ :: _ => some ⟨3, k⟩
  | [k] => if regionGrants s m k n then none else some ⟨2, k⟩
  | [] =>
    if m < 64 ∧ sup = false then some ⟨1, 0x3F⟩
    else if 64 ≤ m ∧ mpuDflt s m = 0 then some ⟨1, 0x3F⟩
    else defaultMap m addr n

/-- A byte lies in the locked region k of some set. -/
def lockedByte (s : Mach) (addr : Nat) : Bool :=
  (keysFrom 0 128).any (fun m => (keysFrom 0 32).any (fun k =>
    s.b (PT_RA_valid m k) && s.b (PT_RA_lock m k) &&
    decide (s.f (PT_RA_start m k) * 32 ≤ addr) && decide (addr ≤ s.f (PT_RB_end m k) * 32 + 31)))

/-- R523, R524: the debug access port in a locked range. -/
def debugByte (s : Mach) (addr : Nat) (n : Need) : Option Denial :=
  let open_ := (keysFrom 0 32).any (fun k => regionHit s 0x7E true addr k && s.b (PT_RA_lock 0x7E k) && regionGrants s 0x7E k n)
  if lockedByte s addr && !open_ then some ⟨4, 0x3F⟩
  else if s.b PT_DBG_bypass then none
  else checkByte s 0x7E true addr n

/-- The decision for one byte of any master's access (R517, R523). -/
def mpuByte (s : Mach) (m : Nat) (sup : Bool) (addr : Nat) (n : Need) : Option Denial :=
  if m = 0x7E then debugByte s addr n else checkByte s m sup addr n

/-- The first denied byte of an access of len bytes (R520). -/
def mpuFirst (s : Mach) (m : Nat) (sup : Bool) (n : Need) : Nat → Nat → Option (Nat × Denial)
  | _, 0 => none
  | a, len + 1 =>
    match mpuByte s m sup a n with
    | some d => some (a, d)
    | none => mpuFirst s m sup n (a + 1) len

/-- Whether every byte of an access is denied. -/
def mpuAllDenied (s : Mach) (m : Nat) (sup : Bool) (n : Need) (a len : Nat) : Bool :=
  (keysFrom a len).all (fun x => (mpuByte s m sup x n).isSome)

/-- A read of one byte returns all-ones where it is denied (R520). -/
def mpuMask (s : Mach) (m : Nat) (sup : Bool) (n : Need) (a : Nat) (bs : List Byte) : List Byte :=
  (keysFrom a bs.length).zip bs |>.map (fun x => if (mpuByte s m sup x.1 n).isSome then 0xFF else x.2)

/-- R525, R526: what a denial does to the registers, counters, events and the log. -/
def mpuReport (s : Mach) (m : Nat) (sup : Bool) (n : Need) (addr : Nat) (d : Denial) : Mach :=
  let w := b2n n.w * 2 ^ 44 + b2n n.a * 2 ^ 43 + b2n (decide (m < 64) && sup) * 2 ^ 42 + d.region * 2 ^ 36
            + d.reason * 2 ^ 45 + m * 2 ^ 49
  let s := (s.setN PT_FAULT w).setN PT_FAULT_ADDR addr
  let s := if s.b PT_FIRST_valid then s else (s.setN PT_FIRST (w % 2 ^ 63 + 2 ^ 63)).setN PT_FIRST_ADDR addr
  let s := s.inc (PT_DENY_CNT m)
  let s := s.raise PT_EVENT_denied
  let s := if d.reason = 3 then s.raise PT_EVENT_overlap else s
  let s := if d.reason = 4 then s.raise PT_EVENT_debug_denied else s
  s.logFold (0x0C000000 + m * 0x10000 + d.reason * 0x100 + d.region)
    { cause := 0x0C00 + d.reason, initiator := m, iaddr := addr,
      faddr := (match locate addr with
                | .fabric fa => some fa
                | _ => none),
      flags := b2n n.w,
      detail := if d.region = 0x3F then 0xFF else d.region }

/-- Check an access and record its denial, if any: the state, and the lowest denied address. -/
def mpuCheck (s : Mach) (m : Nat) (sup : Bool) (n : Need) (a len : Nat) : Mach × Option Nat :=
  match mpuFirst s m sup n a len with
  | none => (s, none)
  | some (x, d) => (mpuReport s m sup n x d, some x)

/-- A set without valid regions whose default map is on. -/
def mpuOpen (s : Mach) (m : Nat) : Bool := mpuDflt s m == 1 && (keysFrom 0 32).all (fun k => !s.b (PT_RA_valid m k))

/-- An access of a module unit: whether it is performed. With a denied byte it is recorded and dropped (R521). In a set without regions the
row of Table 15-2 that names the range decides; a unit's ranges lie in one row. -/
def unitCheck (s : Mach) (m : Nat) (n : Need) (a len : Nat) : Mach × Bool :=
  if mpuOpen s m && (defaultMap m a n).isNone then (s, true)
  else
    let c := mpuCheck s m true n a len
    (c.1, c.2.isNone)

end Sys2Proof.Machine
end

