-- ==== Sys2Proof/Machine/EngineRegs.lean ====
section
/-!
DEFINITION. An engine's general registers, when it can issue an instruction, and how one retires (R192, R213, R214).
-/
namespace Sys2Proof.Machine

/-! ### Registers and issue -/

/-- General register d; g0 reads 0 (Table 06-1). -/
def Engine.get (x : Engine) (d : Nat) : U64 := if d = 0 then 0 else mapGet (fun _ => (0 : U64)) x.arch.g d

/-- The architectural part with register d written; g0 ignores writes. -/
def EngArch.put (a : EngArch) (d : Nat) (v : U64) : EngArch :=
  if d = 0 then a else { a with g := mapSet (fun _ => (0 : U64)) a.g d v }

/-- Write register d. -/
def Engine.put (x : Engine) (d : Nat) (v : U64) : Engine := { x with arch := x.arch.put d v }

/-- A register is the destination of a read that has not retired. -/
def Engine.busy (x : Engine) (d : Nat) : Bool :=
  d != 0 && x.rob.any (fun r => r.d == d || (r.pair && r.d + 1 == d))

/-- Fabric reads outstanding: a slot is free again when the response arrives (R214, R286). -/
def Engine.outReads (x : Engine) : Nat := (x.rob.filter (fun r => r.kind != 3 && r.resp.isNone)).length

/-- A device load is outstanding (R245). -/
def Engine.devOut (x : Engine) : Bool := x.rob.any (fun r => r.kind == 3)

/-- An instruction that has not retired may still fault: a read that may fail, or one with a denied half (R213, R286). -/
def Engine.mayFault (x : Engine) : Bool := x.rob.any (fun r => r.kind == 0 || r.kind == 3 || r.half.isSome)

/-- Instructions issued and not retired (R214). -/
def Engine.inRob (x : Engine) : Nat := x.rob.foldl (fun n r => n + 1 + r.behind) 0

/-- The engine can issue an instruction that uses these registers: it runs (init or active, Table 06-5), waits for
nothing, no stop is requested, its pc is in the instruction SRAM, and the operands are ready (R214). -/
def Engine.canIssue (x : Engine) (regs : List Nat) : Bool :=
  (x.state == 1 || x.state == 3) && decide (x.wait = .none) && !x.stopReq && decide (x.arch.pc < 0x10000) &&
  decide (x.inRob < 32) && regs.all (fun d => !x.busy d)

/-- As canIssue, for an instruction that waits until every earlier one has retired. -/
def Engine.canIssueAlone (x : Engine) (regs : List Nat) : Bool := x.canIssue regs && x.rob.isEmpty

/-- Count one instruction behind the last outstanding read. -/
def robBehind : List RobEntry → List RobEntry
  | [] => []
  | [r] => [{ r with behind := r.behind + 1 }]
  | r :: t => r :: robBehind t

/-- An instruction completes: the pc moves to the next, INSTRET counts (R192). -/
def Engine.retire (x : Engine) (npc : Nat) : Engine :=
  { x with arch := { x.arch with pc := npc, instret := (x.arch.instret + 1) % 2 ^ 64 }, rob := robBehind x.rob }

/-- An instruction completes by writing d; the pc moves on by one word. -/
def Engine.retireD (x : Engine) (d : Nat) (v : U64) : Engine := (x.put d v).retire (x.arch.pc + 4)

/-- An instruction of engine e cannot issue: cycles in which a fabric read is outstanding meanwhile count as stalled on it (R223, DEDUCED,
log 79). -/
def stall (s : Mach) (e : Nat) : Mach :=
  let x := s.eng e
  if (x.state = 1 ∨ x.state = 3) ∧ x.wait = .none ∧ x.stopReq = false ∧ x.outReads ≠ 0 ∧ x.stallAt = none then
    s.setEng e { x with stallAt := some s.cycles }
  else s

/-- A stall ends: its cycles are counted in EN_CNT4. -/
def stallEnd (s : Mach) (e : Nat) : Mach :=
  match (s.eng e).stallAt with
  | some t => (s.add (EN_CNT e 4) (s.cycles - t)).updEng e (fun x => { x with stallAt := none })
  | none => s

/-- R323: an event ID satisfies an EVWAIT's match and mask. -/
def evMatch (id mtch mask : Nat) : Bool := (id ^^^ mtch) &&& mask == 0

/-- A waiting engine resumes: the wait instruction writes d and retires, and the engine is active (Table 06-5). -/
def Engine.resume (x : Engine) (d : Nat) (v : U64) : Engine :=
  { x.retireD d v with wait := .none, state := 3 }

end Sys2Proof.Machine
end

