-- ==== Sys2Proof/Machine/Service.lean ====
section
/-!
DEFINITION. The error log (R563 to R565), the journal's input queue (R546 to R550), event posting, routing and
coalescing (R455 to R463) and MSI-X writes (R463 to R467): the services every unit uses, and `settle`, which does
the work a step has raised before the step ends.
-/
namespace Sys2Proof.Machine

/-! ### Where a unit is, and whether the dies can talk -/

/-- The units of blocks that lie on the F-die main domain (Table 01-2). -/
def fDieBlock (b : Nat) : Bool :=
  b == 0x01 || b == 0x02 || b == 0x03 || b == 0x08 || b == 0x09 || b == 0x0D || b == 0x12

/-- An event source lies on the F-die: a station (through a ring), a card (through an Uhlux port), or an F-die unit. -/
def fDieSource (src : Nat) : Bool :=
  if src / 0x4000 = 0 then true else if src / 0x4000 = 2 then fDieBlock (src % 0x100) else decide (src = 0x405C ∨ src = 0x405D)

/-- The dovetail link is up and the H-die is out of reset (Table 01-7, Table 01-8). -/
def Mach.diesJoined (s : Mach) : Bool := s.f DV_STATUS_state == 2 && !s.hReset

/-! ### The error log -/

/-- The kind 0x30 journal entry of a log entry (Table 16-4). -/
def logJournal (e : LogEntry) : List Byte :=
  leBytes 1 e.plane ++ leBytes 2 e.cause ++ leBytes 1 e.initiator ++ leBytes 1 e.code
    ++ leBytes 2 e.station ++ leBytes 8 e.bseq

/-- The position the next log entry takes (R563). -/
def logNextPos (s : Mach) : Nat :=
  let c := s.f CT_LOG_STATUS_count
  if c < 1024 then c
  else if s.f CT_LOG_STATUS_head = 1023 then 16 else s.f CT_LOG_STATUS_head + 1

/-- The last 256 records of plane 2, removals and latch-offs are kept in the non-volatile log (R655). -/
def nvKeep (s : Mach) (r : NvRec) : Mach := { s with nvLog := (s.nvLog ++ [r]).drop (s.nvLog.length + 1 - 256) }

/-- Write one entry into the log, its shadow and, for plane 2, the non-volatile log, and offer it to the journal (R563, R564,
R655). -/
def logStore (s : Mach) (fold : Option Nat) (e : LogEntry) : Mach :=
  let pos := logNextPos s
  let full := decide (1024 ≤ s.f CT_LOG_STATUS_count)
  let s := if e.plane = 2 then nvKeep s ⟨0, e.tFail, s.n BT_BEAT_NUM, e.cause, e.detail⟩ else s
  let s := { s with log := mapIns s.log pos e,
                    shadow := mapIns s.shadow pos e,
                    folds := match fold with
                      | some k => (k, pos) :: s.folds
                      | none => s.folds }
  let s := (s.setF CT_LOG_STATUS_head pos).setF CT_LOG_STATUS_count
             (if full then 1024 else s.f CT_LOG_STATUS_count + 1)
  let s := if full then (s.satF CT_LOG_STATUS_overflow).raise CT_EVENT_log_overflow else s
  s.jpush e.tFail 0x30 (logJournal e)

/-- The entry an occurrence folds into gains one repeat (R402, R526). -/
def logRepeat (s : Mach) (pos : Nat) : Mach :=
  { s with log := mapWhere (fun x => x.1 == pos) (fun x => (x.1, { x.2 with rep := x.2.rep + 1 })) s.log }

/-- The F-die holds an item of a kind until the dovetail link is up (R610). -/
def heldNext (s : Mach) (k : Nat) : Mach := { s with dv := { s.dv with order := s.dv.order ++ [k] } }

/-- The F-die holds a log entry: 64 of them, those beyond counted (R565). -/
def holdLog (s : Mach) (e : LogEntry) : Mach :=
  if s.heldLogs.length < 64 then { heldNext s 0 with heldLogs := s.heldLogs ++ [e] }
  else { s with heldLogLost := s.heldLogLost + 1 }

/-- An error-log entry arrives at block 0x0F, or waits on the F-die while the link is down (R565). -/
def doLog (s : Mach) (fold : Option Nat) (e : LogEntry) : Mach :=
  if fDieBlock (e.cause / 256) && !s.diesJoined then holdLog s e
  else
    match fold with
    | none => logStore s none e
    | some k =>
      match s.folds.find? (fun x => x.1 == k) with
      | some (_, pos) => logRepeat s pos
      | none => logStore s (some k) e

/-! ### The journal's input queue -/

/-- R546, R549, R550: the journal unit accepts an event or error entry, or drops and counts it. -/
def doJournal (s : Mach) (time kind : Nat) (rest : List Byte) : Mach :=
  if !s.jStarted then { s with jDropBoot := s.jDropBoot + 1 }
  else if s.b JN_STATUS_nojrn then { s with jDropNojrn := s.jDropNojrn + 1 }
  else if s.f JN_CTRL_jrn_en = 0 then { s.inc (JN_CNT 1) with jDropDis := s.jDropDis + 1 }
  else if 4096 ≤ s.jq.length then
    let t := if s.jDropFull = 0 then s.raise JN_EVENT_dropped else s
    { t.inc (JN_CNT 1) with jDropFull := s.jDropFull + 1 }
  else
    let t := { s with jq := s.jq ++ [JEntry.mk (s.n JN_NEXT) time kind rest] }
    (t.inc JN_NEXT).setF JN_STATUS_queue (s.jq.length + 1)

/-- A gap entry (kind 0x3E, Table 16-4): subtype, and the entries not written. -/
def gapRest (sub count : Nat) : List Byte := leBytes 1 sub ++ leBytes 6 0 ++ leBytes 8 count

/-! ### MSI-X -/

/-- The four words of MX_VREC (Table 13-4). -/
def vrecWords (r : EvRec) : List Nat :=
  [r.seq, r.time,
   0x20 + r.flags * 2 ^ 8 + (r.id % 2 ^ 16) * 2 ^ 16 + (r.cond % 2 ^ 16) * 2 ^ 32 + (r.source % 2 ^ 16) * 2 ^ 48,
   r.count % 2 ^ 32 + (r.reflex % 2 ^ 16) * 2 ^ 32 + (r.payload.length) * 2 ^ 48]

/-- Write MX_VREC of a vector as one update (R463). -/
def setVrec (s : Mach) (v : Nat) (r : EvRec) : Mach :=
  forEach [0, 1, 2, 3] (fun k t => t.setN (MX_VREC v k) ((vrecWords r).getD k 0)) s

/-- A vector or the function is masked (R465), or requests on the link are held (R357, R358). -/
def Mach.vectorMasked (s : Mach) (v : Nat) : Bool :=
  s.b (MX_VCTRL_mask v) || s.pcie.funcMask || !s.pcie.bme || s.pcie.d3hot

/-- Set or clear the pending bit of a vector. -/
def setPba (s : Mach) (v : Nat) (b : Nat) : Mach := s.setF ⟨MX_PBA (v / 64), v % 64, 1⟩ b

/-- Issue the MSI-X write of a vector, with the address and data read at issue (R466); while the link is not in L0
or has no credit it is held, with one log entry and event for each episode (R467). -/
def issueMsix (s : Mach) (v : Nat) : Mach :=
  if s.pcie.l0 then
    ((s.emit (.msix (s.n (MX_ADDR v)) (s.n (MX_DATA v)))).inc (MX_CNT 0)).inc (EV_CNT 2)
  else
    let t := { s.inc (MX_CNT 1) with mxHeld := s.mxHeld ++ [v], mxEpisode := true }
    if s.mxEpisode then t else (t.raise MX_EVENT_held).logC 0x0701 v

/-- R463 send_msix, with R465 for a masked vector. -/
def sendMsix (s : Mach) (id : Nat) (r : EvRec) : Mach :=
  let v := s.f (EV_E0_vector id)
  let pend := s.f (EV_E1_pending id)
  let s := s.setF (EV_E1_pending id) 0
  if s.vectorMasked v then
    let acc := mapGet (fun _ => 0) s.mxAcc v + pend
    let s := { s with mxAcc := mapSet (fun _ => 0) s.mxAcc v acc }
    setPba (setVrec s v { r with count := acc }) v 1
  else
    issueMsix (setVrec s v { r with count := pend }) v

/-- The slot of an event table entry. -/
def Mach.evSlot (s : Mach) (id : Nat) : EvSlot := mapGet (fun _ => (EvSlot.mk none none)) s.evSlots id
/-- Replace it. -/
def Mach.setEvSlot (s : Mach) (id : Nat) (x : EvSlot) : Mach :=
  { s with evSlots := mapSet (fun _ => (EvSlot.mk none none)) s.evSlots id x }

/-- R463 on_occurrence. -/
def onOccurrence (s : Mach) (id : Nat) (r : EvRec) : Mach :=
  let slot := s.evSlot id
  let hold := s.f (EV_E0_holdoff_us id)
  let s := s.satF (EV_E1_pending id)
  let v := s.f (EV_E0_vector id)
  let s := s.incF (MX_VCNT_count v)
  if hold = 0 ∨ slot.timer = none then
    let s := sendMsix s id r
    s.setEvSlot id { latest := some r, timer := (if hold > 0 then some (s.now + hold * 1000) else slot.timer) }
  else
    (s.setEvSlot id { slot with latest := some r }).inc (EV_CNT 6)

/-! ### Engine queues -/

/-- The event word of R202: ID, condition, source (all 16 bits of R456); bit 31 is 0 for a real event. -/
def eventWord (r : EvRec) : Nat :=
  (r.id % 2 ^ 16) * 2 ^ 48 + (r.cond % 2 ^ 16) * 2 ^ 32 + r.source % 2 ^ 16

/-- The master whose post an event is, for its error-log entry: the engine, or none. -/
def postMaster (r : EvRec) : Nat := if 0x4000 ≤ r.source ∧ r.source < 0x4040 then r.source - 0x4000 else 0xFF

/-- An event post waits at a cluster's router port (R222, R495). -/
def postWaits (s : Mach) (id e : Nat) (r : EvRec) : Mach :=
  let p := s.clRouter (e / 4)
  let item : GateItem := { router := p, master := postMaster r, off := 0, n := 0, value := 0, write := true, post := some (id, r, e) }
  let s := { s with noc := { s.noc with waiting := s.noc.waiting ++ [item] } }
  let s := s.satF (NC_PORT_STATUS_waiting p)
  if s.port p = 0 then s else s.setF (NC_PORT_STATUS_wake_req p) 1

/-- R462: place an event in an engine's queue, or hold its latest occurrence when the queue is full or an earlier one is held back. The post goes through the router port
of the engine's cluster: an isolated one absorbs it (R497), at a held or gated one it waits (R495), as it does for the full queue of an
engine that is being migrated (R222). An engine that waits for a matching event takes it at once (R323). -/
def engineDeliver (s : Mach) (id e : Nat) (r : EvRec) : Mach :=
  let x := s.eng e
  let port := s.port (s.clRouter (e / 4))
  let taken := match x.wait with
    | .event d k m _ => if evMatch (r.id % 2 ^ 16) k m then some d else none
    | _ => none
  if port = 2 ∨ x.state = 7 then nocAbsorb s (s.clRouter (e / 4)) (postMaster r) none
  else if port ≠ 0 ∨ (migrating s e = true ∧ 64 ≤ x.evq.length) then postWaits s id e r
  else if taken.isSome then s.setEng e (x.resume (taken.getD 0) (BitVec.ofNat 64 (eventWord r)))
  else if x.evq.length < 64 ∧ s.evHeld.all (fun h => h.id != id || h.engine != e) = true then s.setEng e { x with evq := x.evq ++ [(eventWord r, r.time)] }
  else
    let s := (s.inc (EV_CNT 5)).raise EV_EVENT_engine_held
    match s.evHeld.find? (fun h => h.id == id && h.engine == e) with
    | some _ =>
      let bump : EvHeld → EvHeld := fun h => { h with last := r, count := h.count + 1 }
      { s with evHeld := mapWhere (fun h => h.id == id && h.engine == e) bump s.evHeld }
    | none => { s with evHeld := s.evHeld ++ [⟨id, e, r, 1⟩] }

/-! ### Posting -/

/-- R461: the payload goes to its slot before the event is delivered; a failure sets flags[4]. -/
def payloadWrite (s : Mach) (r : EvRec) : Mach × EvRec :=
  if s.b (EV_E0_pay_en r.id) && !r.payload.isEmpty then
    let off := s.f (EV_E0_pay_off r.id) * 256
    let c := unitCheck s 0x51 needW (0x400000000 + off) r.payload.length
    let ok := s.dramReach off && c.2
    let s := if s.dramReach off then c.1 else s
    if ok then ((s.dramWrite off r.payload).inc (EV_CNT 7), r)
    else ((s.logC 0x0602 (s.f (EV_E0_pay_off r.id))).raise EV_EVENT_pay_fail, { r with flags := r.flags + 0x10 })
  else (s, r)

/-- The kind 0x20 journal entry (R460). -/
def eventJournal (r : EvRec) : List Byte :=
  leBytes 1 r.flags ++ leBytes 2 r.id ++ leBytes 2 r.cond ++ leBytes 2 r.source ++ leBytes 4 1
    ++ leBytes 2 r.reflex ++ leBytes 2 r.payload.length

/-- R459: route a posted event by its table entry. The setting of EV_EVENT.unrouted for that bit's own event posts
nothing more (log entry 9). -/
def routeEvent (s : Mach) (r : EvRec) : Mach :=
  if s.f (EV_E0_valid r.id) = 0 then
    let s := s.inc (EV_CNT 1)
    if r.id = 0xF121 then s.setF EV_EVENT_unrouted 1 else s.raise EV_EVENT_unrouted
  else
    let route := s.f (EV_E0_route r.id)
    let s := if route % 2 = 1 then onOccurrence s r.id r else s
    if route / 2 = 1 then engineDeliver s r.id (s.f (EV_E0_engine r.id)) r else s

/-- R453 to R463: post an event: sequence number, counts, payload, journal, route. -/
def postEvent (s : Mach) (r : EvRec) : Mach :=
  let r := { r with seq := s.n EV_SEQ }
  let s := ((s.inc EV_SEQ).inc (EV_CNT 0)).incF (EV_E1_occur r.id)
  let p := payloadWrite s r
  let s := p.1
  let r := p.2
  let s := s.jpush r.time 0x20 (eventJournal r)
  routeEvent s r

/-- The round trip of a toggle between two clocks in ns: a cycle of each there and back (log entry 76), for the events of the units with a clock
of their own (Table 18-7): ring ports, Uhlux ports, the dovetail link, the always-on domain, the tenon link. 0 for the others. -/
def crossTrip (id : Nat) : Nat :=
  if 0xF020 ≤ id ∧ id < 0xF0A0 then 8
  else if 0xF180 ≤ id ∧ id < 0xF1A0 then 10
  else if 0xF800 ≤ id ∧ id < 0xF840 then 4
  else if 0xF840 ≤ id ∧ id < 0xF880 then 12
  else if 0xF880 ≤ id ∧ id < 0xF8C0 then 8
  else if 0xF8C0 ≤ id ∧ id < 0xF900 then 12
  else 0

/-- R605: a unit's event crosses into the event unit's domain as a toggle. One that comes while a request is pending merges into one further
request, and DV_CNT7 counts it. Whether this one is a request of its own. -/
def crossEvent (s : Mach) (id : Nat) : Mach × Bool :=
  let put (t : Nat) (more : Bool) : Mach :=
    { s with dv := { s.dv with cross := s.dv.cross.filter (fun x => x.1 != id) ++ [(id, t, more)] } }
  match crossTrip id, s.dv.cross.find? (fun x => x.1 == id) with
  | 0, _ => (s, true)
  | n, some (_, t, more) =>
    let stop := if more then t + n else t
    if stop ≤ s.cycles then (put (s.cycles + n) false, true)
    else if more && decide (s.cycles < t) then (s.inc (DV_CNT 7), false)
    else ((put stop true).inc (DV_CNT 7), true)
  | n, none => (put (s.cycles + n) false, true)

/-- An event on its way to the event table; while the H-die cannot be reached the F-die keeps up to 512 posts and
counts and logs the rest (Table 01-7, Table 01-8). -/
def doEvent (s : Mach) (r : EvRec) : Mach :=
  if fDieSource r.source && !s.diesJoined then
    if s.heldPosts.length < 512 then { heldNext s 1 with heldPosts := s.heldPosts ++ [r] }
    else
      holdLog { s with heldPostsLost := s.heldPostsLost + 1 }
        { cause := 0x0600 + Config.openCause 2 % 256, tFail := s.now, detail := r.id }
  else postEvent s r

/-- R454: IDs that a station, an engine or a card may not post. -/
def reservedId (id : Nat) : Bool :=
  decide (id = 0) || (decide (0xE000 ≤ id) && decide (id ≤ 0xFFDF)) || (decide (0xFFE8 ≤ id) && decide (id ≤ 0xFFED))

/-- R454: post an event of a station, an engine or a card, or discard one with a reserved ID. -/
def postOutside (s : Mach) (r : EvRec) : Mach :=
  if reservedId r.id then
    ((s.inc (EV_CNT 3)).raise EV_EVENT_reserved_id).logC 0x0601 (r.id * 0x10000 + r.source)
  else s.push (.event r)

/-! ### Doing the raised work -/

/-- One piece of work. -/
def doWork (s : Mach) (w : Work) : Mach :=
  match w with
  | .log k e => doLog s k e
  | .event r =>
    let p := crossEvent s r.id
    if p.2 then doEvent p.1 r else p.1
  | .journal t k b => doJournal s t k b

/-- Do raised work in order, at most so many pieces. -/
def settleN : Nat → Mach → Mach
  | 0, s => s
  | n + 1, s =>
    match s.work with
    | [] => s
    | w :: t => settleN n (doWork { s with work := t } w)

/-- Do the work a step has raised. What is left after the bound stays in order for the next step. -/
def settle (s : Mach) : Mach := settleN (16 * s.work.length + 64) s

end Sys2Proof.Machine
end

