-- ==== Sys2Proof/Machine/Orphans.lean ====
section
/-!
DEFINITION. The orphan-read capture (R397 to R400) and what happens to the requests of an initiator that stops waiting.
-/
namespace Sys2Proof.Machine

/-- R397 to R399: record far-side read data whose initiator no longer waits; the oldest entry goes when all 16 are
in use. -/
def orphanPut (s : Mach) (o : Orphan) : Mach :=
  let o := { o with len := satAt 1024 o.data.length, data := o.data.take 64, tCapt := s.now }
  let s := if 16 ≤ s.orphans.length then
      { s with orphans := s.orphans.drop 1 ++ [o] }.raise BR_EVENT_orphan_ovf
    else { s with orphans := s.orphans ++ [o] }
  (s.raise BR_EVENT_orphan).inc (BR_CNT 5)

/-- The words of the oldest orphan entry (Table 11-4); all 0 when none is held (R400). -/
def orphanWord (s : Mach) (k : Nat) : Nat :=
  match s.orphans with
  | [] => 0
  | o :: _ =>
    let hd := [o.faddr % 2 ^ 47, o.bseq, o.tIssue, o.tCapt,
               o.init + o.cause * 2 ^ 8 + o.len * 2 ^ 16 + b2n (decide (64 < o.len)) * 2 ^ 32]
    if k < 5 then hd.getD k 0 else leNat ((o.data.drop ((k - 5) * 8)).take 8)

/-- The orphan entry a request's data would make. -/
def reqOrphan (q : Req) (cause : Nat) (data : List Byte) : Orphan :=
  ⟨q.faddr, q.bseq, q.tAcc, 0, q.init, cause, data.length, data⟩

/-- Frames that wait, taken out of the ports' queues and of the rings' holds. -/
def takeFrames (s : Mach) (bar : TxFrame → Bool) : Mach × List TxFrame :=
  let keep (l : List TxFrame) : List TxFrame := l.filter (fun t => !bar t)
  let port (r : Mach × List TxFrame) (p : Nat) : Mach × List TxFrame :=
    let x := r.1.rport p
    (r.1.setRport p { x with tx := keep x.tx }, r.2 ++ x.tx.filter bar)
  let ring (r : Mach × List TxFrame) (n : Nat) : Mach × List TxFrame :=
    let x := r.1.rst n
    if (x.held ++ x.own).any bar then (r.1.setRst n { x with held := keep x.held, own := keep x.own }, r.2 ++ x.held.filter bar ++ x.own.filter bar)
    else r
  (s.ring.rings.map (fun x => x.1)).foldl ring ((keysFrom 0 8).foldl port (s, []))

/-- The waiting frame carries request b. -/
def TxFrame.carries (t : TxFrame) (b : Nat) : Bool :=
  match t.own with
  | some o => o.1 == b
  | none => false

/-- R344, R345: a read is discarded. What of it has not been sent is never sent; data that it has brought, or still brings, goes to the
orphan capture. -/
def discardRead (s : Mach) (b cause : Nat) : Mach :=
  match s.req b with
  | none => s
  | some q =>
    let s := (takeFrames s (fun t => t.carries b)).1
    let stop (p : Piece) : Piece := if p.sentAt.isNone then { p with done := true, queued := true } else p
    let q := { q with orphan := some cause, pieces := q.pieces.map stop }
    if q.pieces.all (fun p => p.done) then
      let p := if faSpace q.faddr = 2 then faPort q.faddr else 2
      let x := s.uxp p
      let s := if x.queue.contains b then s.setUxp p { x with queue := x.queue.filter (fun c => c != b), waitSince := s.now } else s
      let s := s.dropReq b
      if (reqData q).isEmpty then s else orphanPut s (reqOrphan q cause (reqData q))
    else s.updReq b (fun _ => q)

/-- Requests of a master no longer count in any barrier (R261). -/
def uncountReqs (s : Mach) (m : Nat) : Mach :=
  { s with reqs := mapWhere (fun q => q.init == m) (fun q => { q with counted := false }) s.reqs }

end Sys2Proof.Machine
end

