-- ==== Sys2Proof/Machine/EngineCore.lean ====
section
/-!
DEFINITION. The Tyten engine's shared operations (06_tyten_programming_model.md): reading and writing registers,
issue and retirement, exception entry and return (R208 to R212), stopping, and the pending bindings (R201).
-/
namespace Sys2Proof.Machine

/-! ### Exceptions -/

/-- Vectors for which EADDR is written (R210). -/
def vectorHasAddr (v : Nat) : Bool := decide (v = 2) || (decide (5 ≤ v) && decide (v ≤ 8))

/-- The binding of the current activation, for ECAUSE and EN_EXC. -/
def Engine.bindNo (x : Engine) : Nat :=
  match x.active with
  | some p => p.b
  | none => 0

/-- The orphan entry of a read that engine e discards with its data. A device load has no fabric address and no number of the bridge: a
free value, and all-ones (log 79). -/
def robOrphan (s : Mach) (e cause : Nat) (r : RobEntry) (data : List Byte) : Mach :=
  if r.kind = 3 then
    let f := s.free
    orphanPut f.2 ⟨f.1 % 2 ^ 47, 0xFFFFFFFFFFFFFFFF, r.at_, 0, e, cause, data.length, data⟩
  else orphanPut s ⟨r.ea - 0x800000000000, r.bseq, r.at_, 0, e, cause, data.length, data⟩

/-- The requests of an engine's GATH that have not ended. -/
def gathReqs (s : Mach) (e : Nat) : List Nat :=
  (s.reqs.filter (fun q => q.init == e && !q.write && (match q.kind with
    | .gs _ _ => true
    | _ => false))).map (fun q => q.bseq)

/-- Reads that an engine discards: the data that has come goes to the orphan capture now, what is still to come later (R212, R344). -/
def dropReads (s : Mach) (e cause : Nat) (ids : List RobEntry) : Mach :=
  let box := (s.eng e).inbox
  let one (r : RobEntry) (t : Mach) : Mach :=
    match (match r.resp with
      | some v => some v
      | none => (box.find? (fun b => b.1 == r.id)).map (fun b => b.2)) with
    | some (c, data) => if c = 0 ∧ (r.kind = 0 ∨ r.kind = 3) then robOrphan t e cause r data else t
    | none =>
      match r.kind with
      | 0 => discardRead t r.bseq cause
      | 2 => (gathReqs t e).foldl (fun t b => discardRead t b cause) t
      | 3 => t.updEng e (fun x => { x with lostDev := x.lostDev ++ [(r.ea - 0x40000000, r.n, cause, r.at_)] })
      | _ => t
  ids.foldl (fun t r => one r t) (stallEnd s e)

/-- Cycles left of the activation's budget: it counts down while the activation is active or waiting (R206). -/
def Engine.budgetLeft (x : Engine) (now : Nat) : Nat :=
  if x.state = 3 ∨ x.state = 4 then x.budget - (now - x.budgetAt) else x.budget

/-- The engine leaves active or waiting: its cycles are counted in EN_CNT3 and BUDGET stands still. -/
def leaveAct (s : Mach) (e : Nat) : Mach :=
  let x := s.eng e
  if x.state = 3 ∨ x.state = 4 then
    (s.add (EN_CNT e 3) (s.cycles - x.actAt)).setEng e { x with budget := x.budgetLeft s.cycles, budgetAt := s.cycles, actAt := s.cycles }
  else s

/-- R211: an exception taken while in_exc is 1: the engine is faulted. The cause number of its log entry is not in the
spec. -/
def doubleFault (s : Mach) (e epc vec : Nat) : Mach :=
  let s := (leaveAct s e).updEng e (fun x => { x with state := 6, wait := .none, gs := none, stopReq := false, resv := none })
  (s.raiseEng EN_EVENT_double_fault e).logE
    { cause := 0x0A00 + Config.openCause 1 % 256, initiator := e, detail := Config.packDetail [epc, vec] }

/-- R210: exception entry. STATUS is saved and set to level 1, ie 0, in_exc 1; ECAUSE, EPC and, for vectors 0x02 and
0x05 to 0x08, EADDR are written; the reservation is lost; the pc goes to the vector. -/
def takeException (s : Mach) (e vec : Nat) (async : Bool) (epc eaddr : Nat) : Mach :=
  let x := s.eng e
  let s := s.inc (EN_CNT e 5)
  let s := s.setN (EN_EXC e) (epc % 2 ^ 16 * 2 ^ 16 + b2n async * 2 ^ 12 + x.bindNo * 2 ^ 8 + vec)
  let s := if vectorHasAddr vec then s.setN (EN_EXC_ADDR e) (eaddr % 2 ^ 48) else s
  let s := s.setEng e { x with
    prevLevel := x.level, prevIe := x.ie, level := 1, ie := 0, inExc := 1,
    ecause := vec + b2n async * 2 ^ 5 + x.bindNo * 2 ^ 6,
    eaddr := (if vectorHasAddr vec then eaddr % 2 ^ 48 else x.eaddr),
    epc := epc, resv := none, wait := .none,
    state := (if x.state = 4 then 3 else x.state),
    arch := { x.arch with pc := (x.vbase + vec * 0x20) % 0x10000 } }
  s

/-- R209, R211: a precise exception of the instruction at the pc. Earlier reads retire first, so while one is
outstanding the instruction waits. -/
def preciseException (s : Mach) (e vec eaddr : Nat) : Mach :=
  let x := s.eng e
  if !x.rob.isEmpty then stall s e
  else if x.inExc = 1 then doubleFault s e x.arch.pc vec
  else takeException s e vec false x.arch.pc eaddr

/-- Discard every outstanding read (R345): the state before the oldest one comes back, and stores issued after it
leave the store buffer. -/
def discardRob (s : Mach) (e cause : Nat) : Mach :=
  let x := s.eng e
  match x.rob with
  | [] => s
  | r :: _ =>
    (dropReads s e cause x.rob).updEng e (fun x =>
      { x with arch := r.snap, rob := [], inbox := [], gs := none, sb := x.sb.filter (fun t => t.after ≤ r.id) })

/-- An asynchronous exception with vector vec at an instruction boundary (R209, R345). -/
def asyncException (s : Mach) (e vec : Nat) : Mach :=
  let s := discardRob s e 3
  takeException s e vec true (s.eng e).arch.pc 0

/-- The engine is in a state in which an asynchronous exception can be taken now: running or waiting, but not in a
barrier (R261), with no device load outstanding (R245) and with ie 1. -/
def Engine.takesAsync (x : Engine) : Bool :=
  (x.state == 1 || x.state == 3 || x.state == 4) && x.ie == 1 && !x.devOut &&
  (match x.wait with
   | .barrier _ _ => false
   | _ => true)

/-- A machine check is taken: it is not masked, discards a waiting barrier and every outstanding read, and with in_exc 1 it is a double
fault (R211, R245, R261). -/
def machineCheck (s : Mach) (e : Nat) : Mach :=
  let s := s.updEng e (fun x => { x with mcDue := false })
  let s := match (s.eng e).wait with
    | .barrier _ _ => uncountReqs (s.updEng e (fun y => { y with fails := [] })) e
    | _ => s
  let s := discardRob s e 3
  if (s.eng e).inExc = 1 then doubleFault s e (s.eng e).arch.pc 0x01
  else (takeException s e 0x01 true (s.eng e).arch.pc 0).raiseEng EN_EVENT_machine_check e

/-- Take a pending asynchronous exception, the one of highest priority (R208): machine check, fabric error, budget overrun. -/
def asyncCheck (s : Mach) (e : Nat) : Mach :=
  let x := s.eng e
  if x.mcDue ∧ (x.state = 1 ∨ x.state = 3 ∨ x.state = 4) then machineCheck s e
  else if !x.takesAsync then s
  else if x.fabErrDue then asyncException (s.setEng e { x with fabErrDue := false }) e 0x0C
  else if x.overrunDue then asyncException (s.setEng e { x with overrunDue := false }) e 0x0D
  else s

/-- A failure of a posted store of engine e is reported by the fabric error exception (R259, R288); an engine that no
longer runs gets none (Table 11-10). -/
def fabricErrorDue (s : Mach) (e : Nat) : Mach :=
  let x := s.eng e
  if x.state = 0 ∨ x.state = 5 ∨ x.state = 6 ∨ x.state = 7 then s
  else asyncCheck (s.setEng e { x with fabErrDue := true }) e

/-- A failed store is counted by the next barrier that covers it (R259). -/
def storeFailed (s : Mach) (e : Nat) (fabric absorbed : Bool) : Mach :=
  fabricErrorDue (s.updEng e (fun x => { x with fails := x.fails ++ [⟨fabric, absorbed⟩] })) e

/-- After a change of ie or the end of an instruction, due exceptions are taken (R208). -/
def retireEng (s : Mach) (e : Nat) (x : Engine) : Mach := asyncCheck (s.setEng e x) e

/-! ### Reading an engine's state registers (Table 06-2) -/

/-- STATUS. -/
def Engine.status (x : Engine) : Nat := x.level + 2 * x.ie + 4 * x.inExc + 8 * x.prevLevel + 16 * x.prevIe

/-- WAKE: binding of the current activation, and its kind. -/
def wakeReg (x : Engine) : Nat :=
  match x.active with
  | some p => p.b + 16 * b2n p.event
  | none => 0

/-- The value of state register n of engine e (Table 06-2). -/
def stateReg (s : Mach) (e n : Nat) : Nat :=
  let x := s.eng e
  match n with
  | 0x00 => x.status
  | 0x01 => x.epc
  | 0x02 => x.ecause
  | 0x03 => x.eaddr
  | 0x04 => x.escratch
  | 0x05 => x.vbase
  | 0x06 => x.caps
  | 0x07 => x.arch.fcsr
  | 0x08 => e + 64 * (e / 4) + 1024 * s.phys (e / 4)
  | 0x09 => s.n BT_BEAT_NUM
  | 0x0A => s.hTime
  | 0x0B => (s.cycles - s.engBase) % 2 ^ 64
  | 0x0C => x.arch.instret
  | 0x0D => wakeReg x
  | 0x0E => x.evq.length
  | 0x0F => x.outReads
  | 0x10 => x.budgetLeft s.cycles
  | _ => 0

/-! ### Stopping -/

/-- R212, R217, R218: an engine stops issuing: outstanding reads are abandoned (cause 4), the reservation is lost, a
waiting barrier is discarded, and earlier stores no longer count in later barriers (R261). Normal and fabric stores
already in the store buffer still drain. -/
def haltIssue (s : Mach) (e : Nat) : Mach :=
  let s := discardRob s e 4
  let s := match (s.eng e).wait with
    | .barrier _ _ => uncountReqs s e
    | _ => s
  s.updEng e (fun x => { x with wait := .none, resv := none, gs := none, fails := [] })

/-- R217: an engine is told to stop, from any state but stopped and clamped: it stops issuing, reads are abandoned and bindings stop firing. -/
def stopEngine (s : Mach) (e : Nat) : Mach :=
  let st := (s.eng e).state
  if 1 ≤ st ∧ st ≤ 6 then (haltIssue s e).updEng e (fun x => { x with stopReq := true, binds := [] }) else s

end Sys2Proof.Machine
end

