-- ==== Sys2Proof/Machine/Mesh.lean ====
section
/-!
DEFINITION. The mesh of the on-die network: a packet's flits and their CRC (R488, R489), its path (R482), and how flits go from router to
router (R484, R485, R494).
-/
namespace Sys2Proof.Machine

/-! ### Packets -/

/-- Virtual network of an operation (Table 14-2): 0 REQ, 1 RSP, 2 POST; none for a reserved code. -/
def nocVn (op : Nat) : Option Nat :=
  if op < 4 then some 0
  else if op < 7 ∨ op = 0xC then some 2
  else if 8 ≤ op ∧ op ≤ 0xA then some 1
  else none

/-- Flits of a packet of len data bytes (R488). -/
def nocFlits (len : Nat) : Nat := 1 + (len + 31) / 32

/-- Flits of a packet. -/
def NocPacket.flits (k : NocPacket) : Nat := nocFlits k.data.length

/-- The channel of a packet: vn × 2 + urgent (R484). -/
def NocPacket.chan (k : NocPacket) : Nat := (nocVn k.op).getD 0 * 2 + b2n k.urgent

/-- Header bits [255:32] (Table 14-3), the others 0. -/
def NocPacket.head (k : NocPacket) : Nat :=
  (nocVn k.op).getD 3 * 2 ^ 254 + b2n k.urgent * 2 ^ 253 + k.dst % 6 * 2 ^ 250 + k.dst / 6 * 2 ^ 248 + k.dport * 2 ^ 246 +
  k.src % 6 * 2 ^ 243 + k.src / 6 * 2 ^ 241 + k.sport * 2 ^ 239 + k.master * 2 ^ 231 + k.cls * 2 ^ 229 + k.op * 2 ^ 225 +
  k.data.length * 2 ^ 214 + k.tag * 2 ^ 204 + k.addr * 2 ^ 156 + k.bseq * 2 ^ 92 + k.code * 2 ^ 84

/-- The data flits: 32 bytes each, little-endian, the last padded with 0. -/
def dataFlits : Nat → List Byte → List (BitVec 256)
  | 0, _ => []
  | n + 1, l => if l.isEmpty then [] else BitVec.ofNat 256 (leNat (l.take 32)) :: dataFlits n (l.drop 32)

/-- The CRC-32C of a packet with these flits (R489), over header bits [255:32] and every data flit, each taken as its bytes from the lowest
on (log entry 75). -/
def nocCrc : List (BitVec 256) → BitVec 32
  | [] => 0
  | h :: t =>
    let bs := (leBytes 32 h.toNat).drop 4 ++ t.flatMap (fun f => leBytes 32 f.toNat)
    ~~~(bs.foldl (crcReflected 0x82F63B78#32) 0xFFFFFFFF#32)

/-- A packet's flits, its CRC in the header. -/
def NocPacket.bits (k : NocPacket) : List (BitVec 256) :=
  let d := dataFlits k.data.length k.data
  let h := BitVec.ofNat 256 k.head
  (h ||| (nocCrc (h :: d)).setWidth 256) :: d

/-- Flits with the bits of `noise` changed: bits [255:0] the flit's own, [263:256] its parity bits. -/
def nocNoisy : List (BitVec 256) → List (BitVec 264) → List (BitVec 256)
  | f :: t, x :: r => (f ^^^ x.setWidth 256) :: nocNoisy t r
  | l, _ => l

/-- The destination's check (R489): the CRC in the header is not that of the flits. -/
def nocCrcBad (k : NocPacket) (noise : List (BitVec 264)) : Bool :=
  noise.any (fun x => x.setWidth 256 != (0 : BitVec 256)) &&
  (match nocNoisy k.bits noise with
   | h :: t => nocCrc (h :: t) != h.setWidth 32
   | [] => false)

/-- A link's even parity over each 32 bits of a flit fails (R504): an odd number of changed bits in one group and its parity bit. -/
def parityBad (x : BitVec 264) : Bool :=
  (keysFrom 0 8).any (fun g => (keysFrom (32 * g) 32).foldl (fun p i => xor p (x.getLsbD i)) (x.getLsbD (256 + g)))

/-! ### Paths -/

/-- The numbers from a to b, both included. -/
def span (a b : Nat) : List Nat := if a ≤ b then keysFrom a (b - a + 1) else (keysFrom b (a - b + 1)).reverse

/-- R482: the routers of a packet's path: along the source row to the destination column, then along that column. -/
def nocPath (src dst : Nat) : List Nat :=
  (span (src % 6) (dst % 6)).map (fun x => src / 6 * 6 + x) ++ ((span (src / 6) (dst / 6)).drop 1).map (fun y => y * 6 + dst % 6)

/-- The port by which a packet from router a enters its neighbour b: 0 east, 1 west, 2 from the row below in number, 3 from the row above. -/
def meshPort (a b : Nat) : Nat := if b = a + 1 then 1 else if a = b + 1 then 0 else if a < b then 2 else 3

/-- The port by which a packet enters the router of stage j of its path: 4 is the local port. -/
def enterPort (path : List Nat) (j : Nat) : Nat :=
  match j, path[j - 1]?, path[j]? with
  | 0, _, _ => 4
  | _, some a, some b => meshPort a b
  | _, _, _ => 4

/-- A port as NC_PAR_LOG numbers it: which way the rows are numbered is not stated (log entry 75). -/
def parPort (p : Nat) : Nat := if p = 2 ∨ p = 3 then (if Config.rowZeroNorth then p else 5 - p) else p

/-- The key of a channel's buffer at stage j of a path: (router × 5 + input port) × 6 + channel, and past the last router the destination's
local output. -/
def stageKey (path : List Nat) (chan j : Nat) : Nat :=
  match path[j]? with
  | some r => (r * 5 + enterPort path j) * 6 + chan
  | none => (24 * 5 + (path.getLast?).getD 0) * 6 + chan

/-- The path of a packet. -/
def NocPacket.path (k : NocPacket) : List Nat := nocPath k.src k.dst

/-- The key of its destination's local output. -/
def NocPacket.exitKey (k : NocPacket) : Nat := stageKey k.path k.chan k.path.length

/-- The flits of a packet at stage j. -/
def NocPacket.at_ (k : NocPacket) (j : Nat) : Nat := (k.place[j]?).getD 0

/-- The flits of a packet that have not left stage j. -/
def NocPacket.behind (k : NocPacket) (j : Nat) : Nat := (k.place.take (j + 1)).foldl (· + ·) 0

/-- The packets with flits in a buffer, in order. -/
def Mach.nocFifo (s : Mach) (key : Nat) : List Nat := mapGet (fun _ => []) s.noc.fifo key
/-- Replace them. -/
def Mach.setFifo (s : Mach) (key : Nat) (l : List Nat) : Mach :=
  { s with noc := { s.noc with fifo := mapSet (fun _ => []) s.noc.fifo key l } }
/-- A packet by its number. -/
def Mach.nocPacket (s : Mach) (id : Nat) : Option NocPacket := s.noc.packets.find? (fun k => k.id == id)
/-- Change a packet. -/
def Mach.updPacket (s : Mach) (id : Nat) (h : NocPacket → NocPacket) : Mach :=
  { s with noc := { s.noc with packets := mapWhere (fun k => k.id == id) h s.noc.packets } }

/-! ### Movement -/

/-- A flit that may leave stage `stage` of a packet for the buffer `key`; `inp` is the input port it comes from. -/
structure Hop where
  id : Nat
  stage : Nat
  key : Nat
  inp : Nat
deriving DecidableEq, Repr

/-- The flits that a channel's buffer at stage j may hold: R494, 4 for an urgent one, and no limit at a local port. -/
def nocRoom (s : Mach) (path : List Nat) (chan j : Nat) : Option Nat :=
  match path[j]? with
  | none => none
  | some r =>
    if chan % 2 = 1 then some 4
    else
      let v := s.f (if chan / 2 = 0 then NC_VCLIM_req r else if chan / 2 = 1 then NC_VCLIM_rsp r else NC_VCLIM_post r)
      some (if v < 4 ∨ 16 < v then 16 else v)

/-- The flits a buffer holds: of each packet those at its stage j with this key. -/
def nocHolds (s : Mach) (key : Nat) : Nat :=
  (s.nocFifo key).foldl (fun n id =>
    match s.nocPacket id with
    | some k => ((keysFrom 0 k.place.length).find? (fun j => stageKey k.path k.chan j == key)).elim n (fun j => n + k.at_ j)
    | none => n) 0

/-- A channel takes a packet's flit: the last packet that entered it is this one, or has passed whole. -/
def nocMayEnter (s : Mach) (key id : Nat) : Bool :=
  match (s.nocFifo key).getLast? with
  | none => true
  | some u => u == id ||
    (match s.nocPacket u with
     | some k => ((keysFrom 1 k.place.length).find? (fun j => stageKey k.path k.chan j == key)).elim true (fun j => k.behind (j - 1) == 0)
     | none => true)

/-- The flits of a packet that may move. -/
def packetHops (s : Mach) (k : NocPacket) : List Hop :=
  let path := k.path
  (keysFrom 0 path.length).filterMap (fun j =>
    let key := stageKey path k.chan (j + 1)
    let room := match nocRoom s path k.chan (j + 1) with
      | some n => decide (nocHolds s key < n)
      | none => true
    if decide (0 < k.at_ j) && (s.nocFifo (stageKey path k.chan j)).head? == some k.id && nocMayEnter s key k.id && room
    then some ⟨k.id, j, key, enterPort path j⟩ else none)

/-- How far an input is behind the one served last by a channel. -/
def rrDistance (s : Mach) (h : Hop) : Nat := (h.inp + 4 - mapGet (fun _ => 0) s.noc.turn h.key) % 5

/-- Of the flits for one channel: the packet in progress, or the next input in round-robin order (R485). -/
def nocTurn (s : Mach) : List Hop → Option Hop
  | [] => none
  | h :: t =>
    match nocTurn s t with
    | none => some h
    | some g => if rrDistance s g < rrDistance s h then some g else some h

/-- R485: of the flits for one output, one of an urgent channel before any of a normal one. Which of two virtual networks goes first is not
stated: a free value. -/
def nocPick (s : Mach) (l : List Hop) : Mach × Option Hop :=
  let urgent := l.filter (fun h => h.key % 2 == 1)
  let pool := if urgent.isEmpty then l else urgent
  let keys := (pool.map (fun h => h.key)).eraseDups
  let won (key : Nat) : Option Hop := nocTurn s (pool.filter (fun h => h.key == key))
  match keys with
  | [] => (s, none)
  | [key] => (s, won key)
  | key :: _ =>
    let v := s.free
    (v.2, won ((keys[v.1 % keys.length]?).getD key))

/-- A flit moves on by one stage. -/
def nocMove (s : Mach) (h : Hop) : Mach :=
  match s.nocPacket h.id with
  | none => s
  | some k =>
    let p := k.place.set h.stage (k.at_ h.stage - 1)
    let k' := { k with place := p.set (h.stage + 1) (k.at_ (h.stage + 1) + 1) }
    let s := s.updPacket h.id (fun _ => k')
    let s := if (s.nocFifo h.key).contains h.id then s
      else
        let s := s.setFifo h.key (s.nocFifo h.key ++ [h.id])
        { s with noc := { s.noc with turn := mapSet (fun _ => 0) s.noc.turn h.key h.inp } }
    let key := stageKey k.path k.chan h.stage
    if k'.behind h.stage = 0 then s.setFifo key ((s.nocFifo key).filter (fun u => u != h.id)) else s

/-- One flit time of the mesh: each output sends one flit. -/
def nocCycle (s : Mach) : Mach × Bool :=
  let hops := s.noc.packets.flatMap (packetHops s)
  let outs := (hops.map (fun h => h.key / 6)).eraseDups
  let r := outs.foldl (fun (x : Mach × List Hop) o =>
    let p := nocPick x.1 (hops.filter (fun h => h.key / 6 == o))
    (p.1, x.2 ++ p.2.toList)) (s, [])
  (r.2.foldl nocMove r.1, !r.2.isEmpty)

/-- All flits of a packet are out at its destination's local port. -/
def nocOut (s : Mach) (id : Nat) : Bool :=
  match s.nocPacket id with
  | some k => k.at_ k.path.length == k.flits
  | none => true

/-- The mesh runs until a packet is out, for at most so many flit times. -/
def nocRun : Nat → Mach → Nat → Mach
  | 0, s, _ => s
  | n + 1, s, id =>
    if nocOut s id then s
    else
      let r := nocCycle s
      if r.2 then nocRun n r.1 id else r.1

/-- Flit moves that all packets together still need: each flit time makes one or more. -/
def nocWork (s : Mach) : Nat := s.noc.packets.foldl (fun n k => n + k.flits * (k.path.length + 1)) 1

/-- A packet enters the mesh at its source's local port. -/
def nocEnter (s : Mach) (k : NocPacket) : Mach :=
  let k := { k with place := k.flits :: List.replicate k.path.length 0 }
  let key := stageKey k.path k.chan 0
  let s := { s with noc := { s.noc with packets := s.noc.packets ++ [k] } }
  s.setFifo key (s.nocFifo key ++ [k.id])

/-- A packet leaves the buffers of the mesh. -/
def nocForget (s : Mach) (id : Nat) : Mach :=
  let f := (s.noc.fifo.map (fun x => (x.1, x.2.filter (fun u => u != id)))).filter (fun x => !x.2.isEmpty)
  { s with noc := { s.noc with fifo := f } }

end Sys2Proof.Machine
end

