-- ==== Sys2Proof/Machine/Noc.lean ====
section
/-!
DEFINITION. The on-die network (14_on_die_network.md): packets, regulators, port states, isolation and absorption, and
the power-down and wake of clusters.
-/
namespace Sys2Proof.Machine

/-! ### Absorption -/

/-- The isolation episode of a router ends. -/
def nocEpisodeEnd (s : Mach) (r : Nat) : Mach :=
  { s with noc := { s.noc with episode := s.noc.episode.filter (fun x => x.1 != r) } }

/-- A packet ends by absorption: a request is answered with code 0x15, a posted packet is discarded and counted, a response is dropped. -/
def nocEndPacket (s : Mach) (k : NocPacket) : Mach :=
  match nocVn k.op with
  | some 2 => nocAbsorb s k.dst k.master (if k.bseq = 0xFFFFFFFFFFFFFFFF then none else some k.bseq)
  | some 0 => s.emit (.answer k.master 0x15 [])
  | _ => s

/-- The same for an access or a post that waits there: a host read is completed with Completer Abort (Table 10-6). -/
def absorbItem (s : Mach) (g : GateItem) : Mach :=
  if g.write then nocAbsorb s g.router g.master none
  else ((s.inc (BR_CNT 0)).raise BR_EVENT_nonposted_err).emit (.completion g.value 4 [] false)

/-- Absorb every packet under way to router r. -/
def nocAbsorbAll (s : Mach) (r : Nat) : Mach :=
  let mine := s.noc.packets.filter (fun k => k.dst == r)
  let items := s.noc.waiting.filter (fun k => k.router == r)
  let s := mine.foldl (fun t k => nocForget t k.id) s
  let s := { s with noc := { s.noc with packets := s.noc.packets.filter (fun k => k.dst != r),
                                        waiting := s.noc.waiting.filter (fun k => k.router != r) } }
  let s := s.setF (NC_PORT_STATUS_waiting r) 0
  items.foldl absorbItem (mine.foldl nocEndPacket s)

/-- A local port becomes isolated, with the cause of NC_ISO_INFO (R495, R496). -/
def nocIsolate (s : Mach) (r cause : Nat) : Mach :=
  let s := s.setF (NC_PORT_STATUS_state r) 2
  let s := s.setF (NC_PORT_STATUS_wake_req r) 0
  let s := ((s.setF NC_ISO_INFO_router r).setF NC_ISO_INFO_cause cause).inc (NC_CNT 2)
  nocAbsorbAll s r

/-- Power phase of logical cluster c, with its time. -/
def Mach.clPower (s : Mach) (c : Nat) : Nat × Nat := mapGet (fun _ => (0, 0)) s.noc.power c
/-- Change it. -/
def Mach.setClPower (s : Mach) (c ph : Nat) : Mach :=
  { s with noc := { s.noc with power := mapSet (fun _ => (0, 0)) s.noc.power c (if ph = 0 then (0, 0) else (ph, s.cycles)) } }

/-- The state an isolated port returns to: the port of a cluster that is powering down or gated waits for its wake. -/
def nocHome (s : Mach) (r : Nat) : Nat :=
  match (keysFrom 0 16).find? (fun c => s.clRouter c == r && (s.clPower c).1 != 0) with
  | some c => if (s.clPower c).1 = 1 then 1 else 3
  | none => 0

/-- A local port opens (R498). -/
def nocOpen (s : Mach) (r : Nat) : Mach :=
  if s.port r = 2 then
    let s := s.setF (NC_PORT_STATUS_state r) (nocHome s r)
    let s := { s with noc := { s.noc with run := mapSet (fun _ => 0) s.noc.run r 0 } }
    nocEpisodeEnd s r
  else s

/-- A change of a port's state by its cluster's power steps: an isolated port stays isolated (R506). -/
def setPort (s : Mach) (r st : Nat) : Mach := if s.port r = 2 then s else s.setF (NC_PORT_STATUS_state r) st

/-! ### Regulators -/

/-- Rate and burst of a class at a router (NC_REG). -/
def nocReg (s : Mach) (r cls : Nat) : Nat × Nat :=
  match cls with
  | 1 => (s.f (NC_REG_rate_tc1 r), s.f (NC_REG_burst_tc1 r))
  | 2 => (s.f (NC_REG_rate_tc2 r), s.f (NC_REG_burst_tc2 r))
  | 3 => (s.f (NC_REG_rate_tc3 r), s.f (NC_REG_burst_tc3 r))
  | _ => (0, 0)

/-- Thousandths of tokens in a bucket now: rate tokens per µs are rate thousandths per ns, capped at burst (R491, R493).
A bucket no packet has drawn on is full. -/
def nocTokens (s : Mach) (r cls : Nat) : Nat :=
  let g := nocReg s r cls
  let b := mapGet (fun _ => (g.2 * 1000, s.cycles)) s.noc.bucket (r * 4 + cls)
  satAt (g.2 * 1000) (b.1 + g.1 * (s.cycles - b.2))

/-- The urgent packets of a port that still count, with the time they are counted from: each 16 ns takes one off (R487). -/
def nocUrgentUsed (s : Mach) (r : Nat) : Nat × Nat :=
  let u := mapGet (fun _ => (0, 0)) s.noc.urgent r
  let free := (s.cycles - u.2) / 16
  if u.1 ≤ free then (0, s.cycles) else (u.1 - free, u.2 + 16 * free)

/-- R493: a bucket keeps its tokens when a commit changes its regulator, capped at the new burst; `old` is the state
before. A class that was unregulated starts with a full bucket. -/
def nocRefit (old s : Mach) (r : Nat) : Mach :=
  [1, 2, 3].foldl (fun t cls =>
    if nocReg old r cls = nocReg t r cls then t
    else
      let b := t.noc.bucket.filter (fun x => x.1 != r * 4 + cls)
      if (nocReg old r cls).1 = 0 then { t with noc := { t.noc with bucket := b } }
      else { t with noc := { t.noc with
               bucket := mapIns b (r * 4 + cls) (satAt ((nocReg t r cls).2 * 1000) (nocTokens old r cls), t.cycles) } }) s

/-- R486: an urgent packet longer than 2 flits goes on the normal channel, counted. -/
def nocDemote (s : Mach) (k : NocPacket) : Mach × NocPacket :=
  if k.urgent && decide (2 < k.flits) then
    ((s.inc (NC_CNT 5)).raise NC_EVENT_urgent_demote, { k with urgent := false })
  else (s, k)

/-- R510: master m is wired to the tile of router r (Table 14-1); a tile whose units have no master ID is not compared. -/
def tileMaster (s : Mach) (r m : Nat) : Bool :=
  if r = 0 then m == 0x40
  else if r = 18 then decide (0x48 ≤ m) && decide (m ≤ 0x4F)
  else if r = 23 then m == 0x51
  else if r = 5 then fDieMaster m
  else if 1 ≤ r % 6 ∧ r % 6 ≤ 4 then decide (m < 64) && s.clRouter (m / 4) == r
  else true

/-- The rights an operation of Table 14-2 needs (Table 15-1). -/
def opNeed (op : Nat) : Need := if op = 2 then needAmo else if op = 0 ∨ op = 3 then needR else needW

/-- R510: a packet whose master ID does not match its tile is not performed. -/
def nocMismatch (s : Mach) (k : NocPacket) : Mach :=
  let sup := (s.eng k.master).level == 1
  let s := (mpuReport s k.master sup (opNeed k.op) k.addr ⟨6, 0x3F⟩).raise PT_EVENT_id_mismatch
  if nocVn k.op = some 0 then s.emit (.answer k.master 0x15 []) else s

/-- A packet is injected at a time: it enters the mesh, with the counters of its master, and NC_CNT6 for a posted one (R503). -/
def nocSend (s : Mach) (k : NocPacket) (t : Nat) : Mach :=
  let s := (s.inc (NC_ST_CNT k.master 0)).add (NC_ST_CNT k.master 1) k.flits
  let s := if nocVn k.op = some 2 then s.inc (NC_CNT 6) else s
  nocEnter s { k with injected := t }

/-- R491: a packet of a regulated class, on the REQ or POST network, takes tokens. -/
def nocRegulated (s : Mach) (k : NocPacket) : Bool :=
  !k.urgent && decide (nocVn k.op ≠ some 1) && decide ((nocReg s k.src k.cls).1 ≠ 0)

/-- The cycle from which a packet that came to its port at `injected` may be injected, none while its bucket can never hold its
flits: at once; for an urgent one while fewer than four count (R487); when its bucket holds its flits (R491). -/
def nocReady (s : Mach) (k : NocPacket) : Option Nat :=
  if k.urgent then
    let u := mapGet (fun _ => (0, 0)) s.noc.urgent k.src
    some (if u.1 < 4 then k.injected else u.2 + 16 * (u.1 - 3))
  else if nocRegulated s k then
    let g := nocReg s k.src k.cls
    let b := mapGet (fun _ => (g.2 * 1000, s.cycles)) s.noc.bucket (k.src * 4 + k.cls)
    if g.2 < k.flits then none
    else if k.flits * 1000 ≤ b.1 then some k.injected
    else some (b.2 + (k.flits * 1000 - b.1 + g.1 - 1) / g.1)
  else some k.injected

/-- The tokens of a bucket at a cycle (R491). -/
def nocTokensAt (s : Mach) (r cls t : Nat) : Nat :=
  let g := nocReg s r cls
  let b := mapGet (fun _ => (g.2 * 1000, t)) s.noc.bucket (r * 4 + cls)
  satAt (g.2 * 1000) (b.1 + g.1 * (t - b.2))

/-- NC_ST_CNT5: a packet of master m waited for tokens from one cycle to another; a cycle counts once (R503). -/
def nocWaited (s : Mach) (m a b : Nat) : Mach :=
  let u := mapGet (fun _ => 0) s.noc.waited m
  let a := if a < u then u else a
  if a < b then { s.add (NC_ST_CNT m 5) (b - a) with noc := { s.noc with waited := mapSet (fun _ => 0) s.noc.waited m b } } else s

/-- A packet is injected at a cycle at which it may be: it takes its tokens, or counts as urgent. -/
def nocAdmitAt (s : Mach) (k : NocPacket) (t : Nat) : Mach :=
  if k.urgent then
    let u := mapGet (fun _ => (0, 0)) s.noc.urgent k.src
    let free := (t - u.2) / 16
    let v := if u.1 ≤ free then (1, t) else (u.1 - free + 1, u.2 + 16 * free)
    nocSend { s with noc := { s.noc with urgent := mapSet (fun _ => (0, 0)) s.noc.urgent k.src v } } k t
  else if nocRegulated s k then
    let left := nocTokensAt s k.src k.cls t - k.flits * 1000
    let s := nocWaited s k.master k.injected t
    nocSend { s with noc := { s.noc with bucket := mapIns s.noc.bucket (k.src * 4 + k.cls) (left, t) } } k t
  else nocSend s k t

/-- Two packets that wait for the same bucket, or for the same urgent limit: they go in order (R491). -/
def nocBehind (a b : NocPacket) : Bool :=
  a.src == b.src && a.urgent == b.urgent && (a.urgent || a.cls == b.cls) && nocVn b.op != some 1

/-- The packets that wait at their ports are injected as far as they may be by now. -/
def nocAdmitAll : List NocPacket → List NocPacket → Mach → Mach
  | [], kept, s => { s with noc := { s.noc with queue := kept } }
  | k :: t, kept, s =>
    match if kept.any (fun a => nocBehind a k) then none else nocReady s k with
    | some c =>
      let c := if c < k.injected then k.injected else c
      if c ≤ s.cycles then nocAdmitAll t kept (nocAdmitAt s k c)
      else nocAdmitAll t (kept ++ [k]) (if k.urgent then s else nocWaited s k.master k.injected s.cycles)
    | none => nocAdmitAll t (kept ++ [k]) (if k.urgent then s else nocWaited s k.master k.injected s.cycles)

/-- As `nocAdmitAll`, of all that wait. -/
def nocAdmit (s : Mach) : Mach := nocAdmitAll s.noc.queue [] s

/-- A packet comes to its source port. -/
def nocArrive (s : Mach) (k : NocPacket) : Mach :=
  let p := nocDemote s { k with injected := s.cycles }
  nocAdmit { p.1 with noc := { p.1.noc with queue := p.1.noc.queue ++ [p.2] } }

/-! ### The dovetail port -/

/-- The state of the main link. -/
def Mach.dvState (s : Mach) : Nat := s.f DV_STATUS_state
/-- One direction of the dovetail link. -/
def Mach.dvDir (s : Mach) (d : Nat) : DvDir := mapGet (fun _ => ({} : DvDir)) s.dv.dirs d
/-- Replace it; DV_STATUS.replay shows whether a replay is in progress. -/
def Mach.setDvDir (s : Mach) (d : Nat) (x : DvDir) : Mach :=
  let s := { s with dv := { s.dv with dirs := mapSet (fun _ => ({} : DvDir)) s.dv.dirs d x } }
  s.setF DV_STATUS_replay (b2n ((s.dvDir 0).replay.isSome || (s.dvDir 1).replay.isSome))

/-- A packet's flits wait to cross the link in a direction (R594). -/
def dvQueue (s : Mach) (d : Nat) (k : NocPacket) : Mach :=
  let x := s.dvDir d
  s.setDvDir d { x with queue := x.queue ++ k.bits.map (fun b => { ch := k.chan, packet := k.id, bits := b }) }

/-- The flits of a packet that wait at the link are taken back. -/
def dvForget (s : Mach) (id : Nat) : Mach :=
  [0, 1].foldl (fun t d => t.setDvDir d { t.dvDir d with queue := (t.dvDir d).queue.filter (fun f => f.packet != id) }) s

/-! ### Injection -/

/-- NOC_PACKET_INJECT (R486, R487, R491, R510). A packet of the F-die first crosses the dovetail link. The class decides the channel of
its virtual network (R19, R484, R490): TC0 is urgent. -/
def nocInject (s : Mach) (k : NocPacket) : Mach :=
  let s := nocAdmit s
  if (nocVn k.op).isNone || decide (24 ≤ k.src) || decide (24 ≤ k.dst) || decide (1024 < k.data.length) then s
  else if decide (nocVn k.op ≠ some 1) && !tileMaster s k.src k.master then nocMismatch s k
  else
    let s := { s with noc := { s.noc with serial := s.noc.serial + 1 } }
    let k := { k with id := s.noc.serial, urgent := k.cls == 0 }
    if k.src = 5 then
      let p := nocDemote s k
      let k := { p.2 with link := p.2.flits, injected := s.cycles }
      dvQueue { p.1 with noc := { p.1.noc with coming := p.1.noc.coming ++ [k] } } 1 k
    else nocArrive s k

/-! ### Delivery -/

/-- Index of the latency bin of Table 14-8. -/
def latencyBin (t : Nat) : Nat :=
  if t < 50 then 0 else if t < 100 then 1 else if t < 200 then 2 else if t < 400 then 3
  else if t < 800 then 4 else if t < 1600 then 5 else if t < 4000 then 6 else 7

/-- R503: a response has come back to master m after lat ns, in f flits. -/
def nocLatency (s : Mach) (m lat f : Nat) : Mach :=
  let s := (s.add (NC_ST_CNT m 2) f).add (NC_ST_CNT m 3) lat
  let s := if s.n (NC_ST_CNT m 4) < lat then s.setN (NC_ST_CNT m 4) lat else s
  let h := NC_ST_HIST_count m (latencyBin lat)
  if s.f h = 0xFFFFFFFF then s.raise NC_EVENT_hist_sat else s.setF h (s.f h + 1)

/-- Take a packet off the network. -/
def nocTake (s : Mach) (id : Nat) : Mach :=
  let s := dvForget (nocForget s id) id
  { s with noc := { s.noc with packets := s.noc.packets.filter (fun k => k.id != id) } }

/-- A target has finished a packet: its run of unfinished ones is broken. -/
def nocFinished (s : Mach) (r : Nat) : Mach :=
  { s with noc := { s.noc with run := mapSet (fun _ => 0) s.noc.run r 0 } }

/-- A response reaches its initiator's port: it ends the request of the same master and tag; the response to a request
that was absorbed is discarded and counted (R506). -/
def nocResponse (s : Mach) (k : NocPacket) : Mach :=
  match s.noc.packets.find? (fun q => q.master == k.master && q.tag == k.tag && decide (nocVn q.op = some 0)) with
  | some q => nocFinished (nocLatency (nocTake s q.id) k.master (s.cycles - q.injected) k.flits) q.dst
  | none => s.inc (NC_CNT 7)

/-- Count a delivered packet. -/
def nocDelivered (s : Mach) (k : NocPacket) : Mach :=
  let s := s.inc (NC_CNT 0)
  if k.urgent then s.inc (NC_CNT 1) else s

/-- A packet has reached its target: a request stays until its response, a response ends its request, a posted packet is done. -/
def nocPerform (s : Mach) (k : NocPacket) : Mach :=
  match nocVn k.op with
  | some 0 => s
  | some 1 => nocResponse (nocTake s k.id) k
  | _ => nocFinished (nocTake s k.id) k.dst

/-- R499: the dovetail port holds a packet for the F-die while the link is not up. -/
def dovetailHolds (s : Mach) (k : NocPacket) : Bool :=
  k.dst == 5 && (!k.delivered || decide (0 < k.link)) && s.dvState != 2

/-- R504: in compatibility parity mode, each flit with a parity error is reported for the router and input port of a stage of the packet's
path. -/
def nocParity (s : Mach) (k : NocPacket) (hop : Nat) (noise : List (BitVec 264)) : Mach :=
  if s.b NC_CFG_compat_par then
    let j := satAt (k.path.length - 1) hop
    let r := (k.path[j]?).getD k.src
    let p := parPort (enterPort k.path j)
    (noise.filter parityBad).foldl (fun t _ =>
      let t := ((t.setF NC_PAR_LOG_router r).setF NC_PAR_LOG_port p).satF NC_PAR_LOG_count
      (t.raise NC_EVENT_parity_err).logC 0x0B04 (Config.packDetail [r, p])) s
  else s

/-- R483: no packet is before this one at its destination's local port, unless they wait there for the port to open. -/
def nocFirst (s : Mach) (k : NocPacket) : Bool :=
  ((s.nocFifo k.exitKey).takeWhile (fun u => u != k.id)).all (fun u => (s.nocPacket u).elim true (fun q => q.waits && s.port k.dst != 0))

/-- A packet that is out at its destination's local port goes on, waits, or is absorbed, by the port's state (R489, R495, R497); one for the
F-die goes on to the dovetail link. -/
def nocAtPort (s : Mach) (k : NocPacket) (noise : List (BitVec 264)) : Mach :=
  if nocCrcBad k noise then
    let s := ((s.inc (NC_CNT 3)).raise NC_EVENT_crc_err).logC 0x0B03 (Config.packDetail [k.src, k.dst])
    let s := nocTake s k.id
    if nocVn k.op = some 0 then s.emit (.answer k.master 0x15 []) else s
  else if s.port k.dst = 2 then nocEndPacket (nocTake s k.id) k
  else if s.port k.dst ≠ 0 then
    if k.waits then s
    else
      let s := s.updPacket k.id (fun x => { x with waits := true })
      (s.satF (NC_PORT_STATUS_waiting k.dst)).setF (NC_PORT_STATUS_wake_req k.dst) 1
  else
    let s := nocForget (nocDelivered s k) k.id
    let link := if k.dst = 5 then k.flits else 0
    let s := s.updPacket k.id (fun x => { x with delivered := true, link := link })
    if k.dst = 5 then dvQueue s 0 k else nocPerform s k

/-- NOC_PACKET_DELIVER: the mesh runs until packet i is out at its destination's local port (R482, R485), where packets of one channel go on
in order (R483). `noise` is what changes its flits' bits, `hop` the stage of its path at which it does. -/
def nocDeliver (s : Mach) (i hop : Nat) (noise : List (BitVec 264)) : Mach :=
  let s := nocAdmit s
  match s.noc.packets[i]? with
  | none => s
  | some k0 =>
    if k0.delivered || dovetailHolds s k0 then s
    else
      let s := nocRun (nocWork s) s k0.id
      match s.nocPacket k0.id with
      | none => s
      | some k => if nocOut s k.id && nocFirst s k then nocAtPort (nocParity s k hop noise) k noise else s

/-- When a packet counts as unfinished (R496): a request 4 µs after its injection, another 4 µs after it reached its port, which it
does in 3 ns a router (Table 14-9). -/
def nocDue (k : NocPacket) : Nat := k.injected + 4000 + (if nocVn k.op = some 0 then 0 else 3 * k.path.length)

/-- NOC_TARGET_TIMEOUT: packet i is unfinished: it is absorbed and counted towards the isolation of its target (R496). A packet waiting at
a held or gated port is not lost; one that the dovetail port holds ends by R499. -/
def nocTimeout (s : Mach) (i : Nat) : Mach :=
  match s.noc.packets[i]? with
  | none => s
  | some k =>
    if k.waits || dovetailHolds s k then s
    else
      let s := s.upToC (nocDue k)
      let s := nocEndPacket (nocTake s k.id) k
      let n := mapGet (fun _ => 0) s.noc.run k.dst
      { s with noc := { s.noc with run := mapSet (fun _ => 0) s.noc.run k.dst (n + 1) } }

/-- NC_CFG.iso_after; 0 acts as 1. -/
def isoAfter (s : Mach) : Nat := if s.f NC_CFG_iso_after = 0 then 1 else s.f NC_CFG_iso_after

/-- NOC_PORT_ISOLATE: a target that left iso_after consecutive packets unfinished is isolated (R496). -/
def nocPortIsolate (s : Mach) (r : Nat) : Mach :=
  let n := mapGet (fun _ => 0) s.noc.run r
  if r < 24 ∧ s.port r ≠ 2 ∧ isoAfter s ≤ n then
    nocIsolate ((s.raise NC_EVENT_isolated).logC 0x0B01 (Config.packDetail [r, n])) r 1
  else s

/-! ### Power-down and wake of clusters -/

/-- The engines of a logical cluster. -/
def clusterEngines (c : Nat) : List Nat := [4 * c, 4 * c + 1, 4 * c + 2, 4 * c + 3]

/-- R500: all four engines idle or stopped, queues empty, no pending binding. -/
def clusterIdle (s : Mach) (c : Nat) : Bool :=
  (clusterEngines c).all (fun e =>
    ((s.eng e).state == 0 || (s.eng e).state == 2) && (s.eng e).evq.isEmpty && (s.eng e).binds.isEmpty)

/-- When a cluster has been idle long enough: the last of its engines came to rest NC_CFG.gate_idle_us before, where 0 acts as 1 (R500). -/
def gateDue (s : Mach) (c : Nat) : Nat :=
  (clusterEngines c).foldl (fun t e => if t < (s.eng e).restAt then (s.eng e).restAt else t) 0 +
  (if s.f NC_CFG_gate_idle_us = 0 then 1 else s.f NC_CFG_gate_idle_us) * 1000

/-- CLUSTER_SWITCH_OPEN: step 4 of Table 14-7, 1.0 µs after the port was held. -/
def switchOpen (s : Mach) (c : Nat) : Mach :=
  if (s.clPower c).1 = 1 then
    let s := s.upToC ((s.clPower c).2 + 1000)
    setPort (s.setClPower c 2) (s.clRouter c) 3
  else s

/-- CLUSTER_WAKE: a wake request (R500, R501): before the switch opens it aborts the power-down; later it starts the
wake. -/
def clusterWake (s : Mach) (c : Nat) : Mach :=
  if s.port (s.clRouter c) = 2 then s else
  match (s.clPower c).1 with
  | 1 =>
    let s := setPort (s.setClPower c 0) (s.clRouter c) 0
    (s.setF (NC_PORT_STATUS_wake_req (s.clRouter c)) 0).raise NC_EVENT_wake_abort
  | 2 => (s.setClPower c 3).setF (NC_PORT_STATUS_wake_req (s.clRouter c)) 1
  | _ => s

/-- The packets that waited at a port can be delivered. -/
def nocRelease (s : Mach) (r : Nat) : Mach :=
  let s := (s.setF (NC_PORT_STATUS_waiting r) 0).setF (NC_PORT_STATUS_wake_req r) 0
  { s with noc := { s.noc with packets := mapWhere (fun k => k.dst == r) (fun k => { k with waits := false })
                                 s.noc.packets } }

/-- R499: DOVETAIL_PORT_HOLD_EXPIRE: packet i for the F-die, held 4 µs at the dovetail port while the link is down, is
absorbed. -/
def dovetailHoldExpire (s : Mach) (i : Nat) : Mach :=
  match s.noc.packets[i]? with
  | none => s
  | some k =>
    if dovetailHolds s k then
      let s := s.upToC (k.injected + 4000)
      nocEndPacket (nocTake s k.id) k
    else s

/-- R221: the packets under way to router a are at router b's local port, in order. -/
def nocRehome (s : Mach) (a b : Nat) : Mach :=
  (s.noc.packets.filter (fun k => k.dst == a)).foldl (fun t k =>
    let k' := { k with dst := b }
    let k' := { k' with place := List.replicate k'.path.length 0 ++ [k'.flits] }
    let t := (nocForget t k.id).updPacket k.id (fun _ => k')
    if k.delivered then t else t.setFifo k'.exitKey (t.nocFifo k'.exitKey ++ [k.id])) s

end Sys2Proof.Machine
end

