-- ==== Sys2Proof/Machine/EngMem.lean ====
section
/-!
DEFINITION. Memory as one engine sees it (R248, R330), writes at the serialising points, and the checks of an engine's
access (R241, R243, R514, R521).
-/
namespace Sys2Proof.Machine

/-! ### Local memory as one engine sees it -/

/-- Whether a store entry covers an engine address. -/
def StoreEntry.covers (t : StoreEntry) (a : Nat) : Bool := decide (t.addr ≤ a) && decide (a < t.addr + t.data.length)

/-- The byte a list of stores (oldest first) leaves at an address, if any of them covers it. -/
def newestByte (l : List StoreEntry) (a : Nat) : Option Byte :=
  match (l.reverse).find? (fun t => t.kind == 0 && t.covers a) with
  | some t => t.data[a - t.addr]?
  | none => none

/-- The stores of a cluster's port write queue. -/
def Mach.portq (s : Mach) (c : Nat) : List PortStore := mapGet (fun _ => ([] : List PortStore)) s.portQ c
/-- Replace them. -/
def Mach.setPortq (s : Mach) (c : Nat) (l : List PortStore) : Mach :=
  { s with portQ := mapSet (fun _ => ([] : List PortStore)) s.portQ c l }

/-- The byte a port write queue leaves at a DRAM address, if any entry covers it. -/
def portByte (l : List PortStore) (a : Nat) : Option Byte :=
  match (l.reverse).find? (fun t => decide (t.addr ≤ a) && decide (a < t.addr + t.data.length)) with
  | some t => t.data[a - t.addr]?
  | none => none

/-- R248, R330: a byte of normal memory as engine e's load sees it: its own latest store, then (DRAM) its cluster's port
write queue, then the memory. -/
def engByte (s : Mach) (e a : Nat) : Byte :=
  match newestByte (s.eng e).sb a with
  | some b => b
  | none =>
    match locate a with
    | .scratch o => mapGet memReset s.scratch (scrKey e o)
    | .csram o => mapGet memReset s.csram (clsKey (e / 4) o)
    | .dram o =>
      match portByte (s.portq (e / 4)) o with
      | some b => b
      | none => mapGet memReset s.dram o
    | _ => 0

/-- n bytes of normal memory as engine e sees them. -/
def engBytes (s : Mach) (e a n : Nat) : List Byte := (keysFrom a n).map (engByte s e)

/-- The address lies in normal memory, all n bytes in one range. -/
def normalRange (a n : Nat) : Bool :=
  match locate a, locate (a + n - 1) with
  | .scratch _, .scratch _ => true
  | .csram _, .csram _ => true
  | .dram _, .dram _ => true
  | _, _ => false

/-- A DRAM access cannot be answered: the controller is clamped or untrained, or the word is uncorrectable (R554,
R560). -/
def dramFails (s : Mach) (a n : Nat) : Bool :=
  match locate a with
  | .dram o => !s.dramReach o || s.dramPoison o n
  | _ => false

/-- The reservation space and key of an engine address (R253). -/
def resvKey (e a : Nat) : Nat × Nat :=
  match locate a with
  | .scratch o => (0, scrKey e o)
  | .csram o => (1, clsKey (e / 4) o)
  | .dram o => (2, o)
  | _ => (3, a)

/-- Perform a write of engine e at its serialising point; other agents' reservations on the granule are lost. Own scratch has no other
agent. -/
def performNormal (s : Mach) (e a : Nat) (bs : List Byte) : Mach :=
  match locate a with
  | .scratch o => { s with scratch := mapSetRange memReset s.scratch (scrKey e o) bs }
  | .csram o => csramWriteBy s e (clsKey (e / 4) o) bs
  | .dram o => if s.dramReach o then dramWriteBy s e o bs else s
  | _ => s

/-! ### Checks of one access -/

/-- Why a core access faults: vector and EADDR; `none` when it may go ahead. -/
def accessCheck (s : Mach) (e ea n : Nat) (need : Need) (atomicOp : Bool) : Mach × Option (Nat × Nat) :=
  let x := s.eng e
  if ea % n ≠ 0 then (s, some (0x06, ea))
  else
    let okRange := match locate ea with
      | .scratch _ => true
      | .csram _ => true
      | .dram _ => true
      | .mirror _ => !atomicOp && decide (4 ≤ n)
      | _ => false
    if !okRange then (s, some (0x07, ea))
    else
      let r := mpuCheck s e (x.level == 1) need ea n
      match r.2 with
      | some a => (r.1, some (0x07, a))
      | none => (s, none)

/-- Whether a device store waits in the store buffer: device accesses complete one after another (Table 09-2). -/
def Engine.devicePending (x : Engine) : Bool := x.sb.any (fun t => t.kind == 1)

/-- Retire to the next word. -/
def Engine.retire4 (x : Engine) : Engine := x.retire (x.arch.pc + 4)

/-- A DRAM word with an uncorrectable error was read (R554): logged with its offset and master. -/
def logPoison (s : Mach) (m off : Nat) : Mach :=
  ((s.logE { cause := 0x0E02, initiator := m, iaddr := 0x400000000 + off,
             detail := Config.packDetail [off, m] }).inc (JN_CNT 7)).raise JN_EVENT_ecc_uncorr

/-- R330: the oldest store of a cluster's port write queue is performed at the DRAM controller, or absorbed there. -/
def drainPort (s : Mach) (c : Nat) : Mach :=
  match s.portq c with
  | [] => s
  | w :: rest =>
    let s := s.setPortq c rest
    if s.dramReach w.addr then dramWriteBy s w.engine w.addr w.data
    else settle (storeFailed (nocAbsorb s (dramRouter w.addr) w.engine none) w.engine false true)

/-- The queued stores of a cluster up to the last one that touches DRAM bytes lo to hi, hi not included, are performed. -/
def drainSpan (s : Mach) (c lo hi : Nat) : Mach :=
  let hit (w : PortStore) : Bool := decide (w.addr < hi) && decide (lo < w.addr + w.data.length)
  forEach (keysFrom 0 ((s.portq c).reverse.dropWhile (fun w => !hit w)).length) (fun _ t => drainPort t c) s

/-- The queued stores to a granule, before an atomic on it (R340). -/
def drainGranule (s : Mach) (c off : Nat) : Mach := drainSpan s c (off / 64 * 64) (off / 64 * 64 + 64)

/-- The whole port write queue of a cluster is performed (R352). -/
def drainPortAll (s : Mach) (c : Nat) : Mach := forEach (keysFrom 0 (s.portq c).length) (fun _ t => drainPort t c) s

/-- An aligned access that Table 06-4 lets the engine's core instructions make, before protection. -/
def coreRange (ea : Nat) : Bool :=
  match locate ea with
  | .scratch _ => true
  | .csram _ => true
  | .dram _ => true
  | .mirror _ => true
  | _ => false

end Sys2Proof.Machine
end

