-- ==== Sys2Proof/Machine/Link.lean ====
section
/-!
DEFINITION. Ring links and frames (03_ring_links_and_frames.md): the checks of a frame, sequence numbers and duplicate
discard, the send queues, retransmission, and the states of a port.
-/
namespace Sys2Proof.Machine

/-! ### Access to the state -/

/-- Port states of RG_PORT_STATUS.state: down. -/
def psDown : Nat := 0
/-- Training. -/
def psTraining : Nat := 1
/-- Up. -/
def psUp : Nat := 2
/-- Disabled. -/
def psDisabled : Nat := 3

/-- A port is in state up (R81). -/
def Mach.portUp (s : Mach) (p : Nat) : Bool := s.f (RG_PORT_STATUS_state p) == psUp

/-- The module is standby: it forwards as a transit hop (R114, R573). -/
def Mach.standby (s : Mach) : Bool := s.f TW_STATUS_role == 2

/-- A station's entry is valid. -/
def Mach.stValid (s : Mach) (k : Nat) : Bool := k != 0 && k != 0x3FFF && s.b (ST_W0_valid k)

/-- The direct ring of a station; that of its coupler for a tier-2 station. -/
def Mach.stRing (s : Mach) (k : Nat) : Nat :=
  if s.f (ST_W0_tier k) = 1 then s.f (ST_W0_ring (s.f (ST_W0_parent k))) else s.f (ST_W0_ring k)

/-- The station on the direct ring that stands for a station: itself or its coupler. -/
def Mach.stDirect (s : Mach) (k : Nat) : Nat := if s.f (ST_W0_tier k) = 1 then s.f (ST_W0_parent k) else k

/-- The valid entries, in ascending order of number: those whose word 0 differs from reset in the valid bit. -/
def Mach.stations (s : Mach) : List Nat :=
  (s.regs.filter (fun p => decide (ST_W0 0 ≤ p.1) && decide (p.1 < ST_W0 0x3FFF) && (p.1 - ST_W0 0) % 0x80 == 0
      && fieldOf p.2 46 1 == 1)).map (fun p => (p.1 - ST_W0 0) / 0x80)

/-- The valid entries of a direct ring (tier 0). -/
def Mach.ringStations (s : Mach) (n : Nat) : List Nat :=
  s.stations.filter (fun k => s.f (ST_W0_tier k) == 0 && s.f (ST_W0_ring k) == n)

/-! ### Frame checks -/

/-- The class and len a type allows (Table 03-5, R95, Table 03-8). -/
def typeOk (f : Frame) : Bool :=
  match f.type with
  | 0x1 => f.cls == 0 && f.len == 32
  | 0x2 => f.cls == 1 && decide (4 ≤ f.len ∧ f.len ≤ 1024) && f.len % 4 == 0
  | 0x3 => f.cls == 1 && decide (4 ≤ f.len ∧ f.len ≤ 1024) && f.len % 4 == 0
  | 0x4 => decide (2 ≤ f.cls) && f.len == 0
  | 0x5 => decide (2 ≤ f.cls) &&
      (if bitAt f.flags 1 then f.len == 0 else decide (1 ≤ f.len ∧ f.len ≤ 1024))
  | 0x6 => (f.cls == 0 && decide (1 ≤ f.len ∧ f.len ≤ 32)) || (decide (2 ≤ f.cls) && decide (1 ≤ f.len ∧ f.len ≤ 1024))
  | 0x7 => f.cls != 1 && f.len == 0
  | 0x8 => (f.cls == 0 && decide (f.len ≤ 32)) || (f.cls == 2 && decide (f.len ≤ 256))
  | 0x9 => f.cls == 0 && f.len == 0
  | 0xA => f.cls == 2 &&
      (match f.word % 256 with
       | 1 => f.len == 0
       | 2 => f.len == 24
       | 3 => f.len == 8
       | 4 => f.len == 8
       | 5 => f.len == 24
       | _ => false)
  | 0xB => f.cls == 3 && decide (4 ≤ f.len ∧ f.len ≤ 1024) && f.len % 4 == 0
  | 0xC => f.cls == 2 && decide (f.len ≤ 1024)
  | 0xF => f.cls == 0 && f.len == 0
  | _ => false

/-- R98: a frame that is not a bad frame. -/
def frameOk (f : Frame) : Bool :=
  typeOk f && f.route != 3 && f.origin != 3 && f.payload.length == f.len

/-- A downbeat or a link frame is outside the link sequence (R107). -/
def Frame.sequenced (f : Frame) : Bool := f.type != 0x1 && f.type != 0xF

/-- A calibration downbeat (R686). -/
def Frame.isCal (f : Frame) : Bool := f.type == 0x1 && bitAt f.flags 0

/-! ### Sequence counters -/

/-- The key of the counter for a destination and class; 0x3FFF has one per ring (R100). -/
def seqKey (ring dest cls : Nat) : Nat := (if dest = 0x3FFF then 0x10000 + ring else dest) * 4 + cls

/-- The next sequence number for a destination and class. -/
def takeSeq (s : Mach) (ring dest cls : Nat) : Nat × Mach :=
  let k := seqKey ring dest cls
  let v := mapGet (fun _ => 0) s.ring.txSeq k
  (v, { s with ring := { s.ring with txSeq := mapSet (fun _ => 0) s.ring.txSeq k ((v + 1) % 65536) } })

/-! ### Duplicate discard (R103) -/

/-- Key of the discard state of a source, class and kind of destination. -/
def rxKey (src cls : Nat) (bc : Bool) : Nat := (src * 4 + cls) * 2 + b2n bc

/-- Answer of R103: keep, a duplicate, or too old. -/
inductive RxAns where
  | keep
  | dup
  | old
deriving DecidableEq, Repr

/-- R103 with W = 256 at the module. -/
def rxJudge (w : Option RxWin) (q port t : Nat) : RxAns × RxWin :=
  match w with
  | none => (.keep, ⟨q, [0], port, q, t, 1⟩)
  | some w =>
    let d := (q + 65536 - w.h) % 65536
    if d = 0 then (.dup, w)
    else if d < 32768 then
      (.keep, ⟨q, 0 :: ((w.seen.map (fun a => a + d)).filter (fun a => decide (a < 256))), port, q, t, satAt 256 (w.span + d)⟩)
    else
      let age := 65536 - d
      if 256 ≤ age then (.old, w)
      else if w.seen.contains age then (.dup, w)
      else (.keep, { w with seen := age :: w.seen, port := port, last := q, at_ := t, span := (if w.span < age + 1 then age + 1 else w.span) })

/-- The discard state for a frame (R103). -/
def rxState (s : Mach) (f : Frame) : Option RxWin :=
  (s.ring.rx.find? (fun x => x.1 == rxKey f.src f.cls (f.dest == 0x3FFF))).map (fun x => x.2)

/-- A frame at an east port whose copy at the ring's west port was kept in the same 10 ns interval: the east port's is the one that is
kept (R104). -/
def eastWins (s : Mach) (p : Nat) (f : Frame) : Bool :=
  match rxState s f with
  | some w => p % 2 == 0 && w.last == f.seq && w.port == p + 1 && w.at_ / 10 == s.now / 10
  | none => false

/-- Run R103 on a frame that entered port p. Of two copies in the same 10 ns interval the east port's is the one kept, so
the discarded copy is then counted at the west port (R104). -/
def rxDiscard (s : Mach) (p : Nat) (f : Frame) : Bool × Mach :=
  let k := rxKey f.src f.cls (f.dest == 0x3FFF)
  let a := rxJudge (rxState s f) f.seq p s.now
  match a.1 with
  | .keep => (true, { s with ring := { s.ring with rx := mapIns s.ring.rx k a.2 } })
  | .dup =>
    if eastWins s p f then
      (false, { s with ring := { s.ring with rx := mapIns s.ring.rx k { a.2 with port := p } } }.inc (RG_CNT (p + 1) (20 + f.cls)))
    else (false, s.inc (RG_CNT p (20 + f.cls)))
  | .old => (false, s.inc (RG_CNT p 24))

/-- R105: forget the discard state of a source. -/
def rxForget (s : Mach) (src : Nat) : Mach :=
  { s with ring := { s.ring with rx := s.ring.rx.filter (fun x => x.1 / 8 != src) } }

/-! ### Send queues -/

/-- A standby and a fenced module send no frame of their own (R573, R581). -/
def Mach.mute (s : Mach) : Bool := s.standby || s.b TW_STATUS_fenced

/-- Put a frame on a port's queue; a port that is not up takes none. -/
def queueOn (s : Mach) (p : Nat) (t : TxFrame) : Mach :=
  if s.portUp p && (t.transit || !s.mute) then
    let x := s.rport p
    s.setRport p { x with tx := x.tx ++ [t] }
  else s

/-- Low 32 bits of fabric time. -/
def Mach.time32 (s : Mach) : Nat := s.now % 2 ^ 32

/-- R101: send a frame of ring n as a pair on the ports that are up. -/
def sendPair (s : Mach) (n : Nat) (t : TxFrame) : Mach :=
  let q := takeSeq s n t.f.dest t.f.cls
  let f := { t.f with seq := q.1 }
  let s := queueOn q.2 (2 * n) { t with f := { f with route := 1 } }
  queueOn s (2 * n + 1) { t with f := { f with route := 2 } }

/-- Send a single copy with route 0b00 out of a port. -/
def sendSingle (s : Mach) (n p : Nat) (t : TxFrame) : Mach :=
  let q := takeSeq s n t.f.dest t.f.cls
  queueOn q.2 p { t with f := { t.f with seq := q.1, route := 0 } }

/-! ### The TC0 budget (R21, R24, R25, R475) -/

/-- A TC0 frame on port p has exceeded the budget: one event for each port in each beat (R25). -/
def budgetEvent (s : Mach) (p : Nat) : Mach :=
  let x := s.rport p
  if x.tc0Flag then s
  else
    let s := s.setRport p { x with tc0Flag := true }
    let s := (s.setF ⟨TX_BUDGET, 16 + p, 1⟩ 1).raise TX_EVENT_budget
    s.push (.event { id := 0xF150 + p, cond := p, source := unitSource 0x08, time := s.now, urgent := true })

/-- Count one TC0 frame on a port: whether it comes less than 200 ns after the one before, or the beat's module-wide count is
above 4,096. -/
def tc0OnPort (s : Mach) (p : Nat) : Bool × Mach :=
  let x := s.rport p
  let near := match x.tc0Last with
    | some t => decide (s.now < t + 200)
    | none => false
  let excess := near || decide (4096 < s.f TX_BUDGET_count)
  let s := s.setRport p { x with tc0Last := some s.now }
  (excess, if excess then budgetEvent s p else s)

/-- Count one TC0 frame module-wide. -/
def tc0Wide (s : Mach) : Mach := s.satF TX_BUDGET_count

/-- An engine's TC0 pair on a ring: each copy counts on its port, and an over-budget copy waits behind the others (R21). -/
def sendEngineTc0 (s : Mach) (n : Nat) (t : TxFrame) : Mach :=
  let q := takeSeq s n t.f.dest t.f.cls
  let s := tc0Wide q.2
  let one (s : Mach) (p r : Nat) : Mach :=
    if s.portUp p then
      let c := tc0OnPort s p
      queueOn c.2 p { t with f := { t.f with seq := q.1, route := r }, excess := c.1 }
    else s
  one (one s (2 * n) 1) (2 * n + 1) 2

/-! ### Breaks and routes -/

/-- The number of stations N of a ring (R124). -/
def ringN (s : Mach) (n : Nat) : Nat :=
  if (s.rst n).closedOnce then (s.rst n).closedN
  else if s.f (RG_RING_CFG_expected n) ≠ 0 then s.f (RG_RING_CFG_expected n)
  else (s.ringStations n).foldl (fun m k => if m < s.f (ST_W0_position k) then s.f (ST_W0_position k) else m) 0

/-- The failed segments of a ring: those marked, and those at a module port that is not up (R148). -/
def failedNow (s : Mach) (n : Nat) : List Nat :=
  let a := if s.portUp (2 * n) then [] else [1]
  let b := if s.portUp (2 * n + 1) then [] else [ringN s n + 1]
  ((s.rst n).failed ++ a ++ b).eraseDups

/-- The path from the east port to position p crosses none of these segments. -/
def eastClear (l : List Nat) (p : Nat) : Bool := l.all (fun j => decide (p < j))
/-- The path from the west port. -/
def westClear (l : List Nat) (p : Nat) : Bool := l.all (fun j => decide (j ≤ p))

/-- The direction that a station's own pref_dir and K values ask for: 0 east, 1 west (R155). -/
def prefNow (s : Mach) (k : Nat) : Nat :=
  match s.f (ST_W0_pref_dir k) with
  | 1 => 0
  | 2 => 1
  | _ =>
    if s.f (ST_W4_k_east k) < s.f (ST_W4_k_west k) then 0
    else if s.f (ST_W4_k_west k) < s.f (ST_W4_k_east k) then 1
    else b2n (Config.tie 1)

/-- The preferred direction in force: after a calibration that changes it, the old one until the beat edge (R153, R155). -/
def prefRoute (s : Mach) (k : Nat) : Nat :=
  match s.ring.prefOld.find? (fun x => x.1 == k) with
  | some x => x.2
  | none => prefNow s k

/-- The route of a station over a set of segments to avoid (R155): `none` when it cannot be reached. -/
def routeOver (s : Mach) (avoid : List Nat) (k : Nat) : Option Nat :=
  let p := s.f (ST_W0_position (s.stDirect k))
  let e := eastClear avoid p
  let w := westClear avoid p
  let r := prefRoute s k
  if r = 0 then (if e then some 0 else if w then some 1 else none)
  else (if w then some 1 else if e then some 0 else none)

/-- The segments that routes over a ring avoid: those of its reroute edges since it last closed (R155), and failed ones that wait for no
reroute. -/
def avoided (s : Mach) (n : Nat) : List Nat :=
  let x := s.rst n
  (x.avoid ++ (failedNow s n).filter (fun j => !x.detect.any (fun d => d.1 == j))).eraseDups

/-- The route in use. -/
def routeOf (s : Mach) (k : Nat) : Option Nat := routeOver s (avoided s (s.stRing k)) k

/-- The route once every break that waits for its reroute has had it (Table 04-9). -/
def routeNext (s : Mach) (k : Nat) : Option Nat :=
  let n := s.stRing k
  routeOver s ((s.rst n).avoid ++ failedNow s n).eraseDups k

/-- The route in use crosses a failed segment now. -/
def routeBroken (s : Mach) (k : Nat) : Bool :=
  let l := failedNow s (s.stRing k)
  let p := s.f (ST_W0_position (s.stDirect k))
  match routeOf s k with
  | some 0 => !eastClear l p
  | some _ => !westClear l p
  | none => true

/-- The frames that a ring's hold takes for a reroute (R151). -/
def holdLimit : Nat := 4096

/-- A TC2 or TC3 frame of the host or an engine to a station can be queued or held now (R151). -/
def canSendTo (s : Mach) (k : Nat) : Bool :=
  !routeBroken s k || (!(s.rst (s.stRing k)).detect.isEmpty && decide ((s.rst (s.stRing k)).held.length < holdLimit))

/-- Send a TC2 or TC3 frame to a station: a single copy on its route. While the route crosses a failed segment that waits for its
reroute, a frame of the host or an engine is held and counted; one of the module's own units waits without either (R151). -/
def sendToStation (s : Mach) (k : Nat) (t : TxFrame) : Mach :=
  let n := s.stRing k
  let q := takeSeq s n t.f.dest t.f.cls
  let t := { t with f := { t.f with seq := q.1, route := 0 } }
  let s := q.2
  if routeBroken s k then
    let x := s.rst n
    if t.internal then s.setRst n { x with own := x.own ++ [t] } else (s.setRst n { x with held := x.held ++ [t] }).inc (RG_RING_CNT n 13)
  else
    match routeOf s k with
    | some d => queueOn s (2 * n + d) t
    | none => s

/-- A TC2 or TC3 broadcast: one copy by the east port of a closed ring, else a pair (R101). -/
def sendBroadcast (s : Mach) (n : Nat) (t : TxFrame) : Mach :=
  if s.f (RG_RING_STATUS_state n) = 1 ∧ s.portUp (2 * n) then sendSingle s n (2 * n) t else sendPair s n t

/-! ### Starting a frame -/

/-- A frame of TC2 or TC3 may start: its station's budget of the beat is not used up (R138) and no route change waits
(R153). Neither holds a frame in transit (R114). -/
def mayStart (s : Mach) (t : TxFrame) : Bool :=
  let k := t.f.dest
  if t.f.cls < 2 ∨ k = 0x3FFF ∨ t.transit = true then true
  else
    let lim := 64 * (if t.f.cls = 2 then s.f (ST_W7_tc2_budget k) else s.f (ST_W7_tc3_budget k))
    let used := mapGet (fun _ => 0) s.ring.used (k * 4 + t.f.cls)
    (decide (lim = 0) || (decide (t.f.cls = 3) && t.f.type != 0xB) || decide (used + t.f.len ≤ lim)) &&
    (match s.ring.wait.find? (fun w => w.1 == k) with
     | some w => decide (w.2 ≤ s.now)
     | none => true)

/-- Count the bytes of a started frame against its station's budget (R138). -/
def countUsed (s : Mach) (t : TxFrame) : Mach :=
  let key := t.f.dest * 4 + t.f.cls
  if t.f.cls < 2 ∨ t.f.dest = 0x3FFF ∨ t.transit = true then s
  else { s with ring := { s.ring with
    used := mapSet (fun _ => 0) s.ring.used key (mapGet (fun _ => 0) s.ring.used key + t.f.len) } }

/-- Bytes held in a replay buffer. -/
def replayBytes (l : List Replay) : Nat := l.foldl (fun n r => n + r.t.f.bytes) 0

/-- The module's replay buffer per port direction (R113). -/
def replayLimit : Nat := 524288

/-- The replay buffer of a port has room for a frame, or the frame needs none (R113). -/
def replayRoom (x : PortSt) (t : TxFrame) : Bool := !t.f.sequenced || decide (replayBytes x.replay + t.f.bytes ≤ replayLimit)

/-- Mark the bridged request's piece as sent, with its frame's seq and port. -/
def markSent (s : Mach) (own : Option (Nat × Nat)) (p seq : Nat) : Mach :=
  match own with
  | none => s
  | some (b, i) =>
    let first := s.reqs.any (fun q => q.bseq == b && q.init == 0x40 && ((q.pieces[i]?).map (fun x => x.sentAt.isNone)).getD false)
    let s := if first then s.inc (AT_CNT 2) else s
    let upd (x : Piece) : Piece := if x.sentAt.isNone then { x with sentAt := some s.now, fseq := seq, port := p } else x
    { s with reqs := mapWhere (fun q => q.bseq == b) (fun q => { q with pieces := q.pieces.modify i upd }) s.reqs }

/-- A delay-request of the module's own. -/
def isDelayReq (t : TxFrame) : Bool := t.f.type == 0xA && t.f.word % 256 == 4 && !t.transit

/-- The frame as it leaves port p now: its launch slip or residence (R55, R116), the time stamp t1 of a delay-request (R57, R96), the
origin of a module that has taken over (R580), and the link tag (R107). -/
def stamped (s : Mach) (p : Nat) (t : TxFrame) : Frame :=
  let f := t.f
  let f := match t.nominal with
    | some n => { f with acc := (f.acc + (s.now - n)) % 65536 }
    | none => f
  let f := if isDelayReq t then { f with payload := beBytes 8 s.now } else f
  let f := if s.twin.origin2 && !t.transit then { f with origin := 2 } else f
  if f.sequenced then { f with lseq := (s.rport p).txNext, retry := 0 } else { f with lseq := 0, retry := 0xFF }

/-- The first bit of a probe or delay-request of the module's own leaves port p: its exchange counts from now (R57, R129, R131). -/
def noteExchange (s : Mach) (p : Nat) (t : TxFrame) : Mach :=
  if isDelayReq t then
    let mine (a : Adopt) : Bool := a.sent && [2, 8, 9, 11].contains a.step && (if a.step = 2 ∧ a.idx ≠ 0 then a.idx else a.stn) == t.f.dest
    { s with ring := { s.ring with adopts := mapWhere mine (fun a => { a with sentAt := s.now }) s.ring.adopts } }
  else if t.f.type = 0xA ∧ t.f.word % 256 = 1 ∧ t.transit = false ∧ (s.rst (p / 2)).run.want = 1 then
    s.setRst (p / 2) { s.rst (p / 2) with run := { (s.rst (p / 2)).run with sentAt := s.now } }
  else s

/-- What is counted as a frame's first bit leaves (R55, R73, Table 03-12): each copy of a pair on its port, and not again when the link
sends it again (DESIGN CHOICE, log 73). -/
def countSent (s : Mach) (p : Nat) (t : TxFrame) : Mach :=
  let s := (s.inc (RG_CNT p t.f.cls)).add (RG_CNT p 8) t.f.bytes
  let s := match t.nominal with
    | some n => if n + 1000 < s.now ∧ t.transit = false ∧ t.f.type = 0x1 then s.incF BT_DB_SLIP_CNT_count else s
    | none => s
  let s := match t.timed with
    | some l => if l < s.now then s.incF BT_LATE_LAUNCH_CNT_count else s
    | none => s
  match t.ingress with
  | some i =>
    let k := satAt 15 ((s.now - i) / 100)
    let s := s.inc (TX_CNT 2)
    if s.f (TX_HIST_count k) = 2 ^ 32 - 1 then s.raise TX_EVENT_hist_sat else s.incF (TX_HIST_count k)
  | none => s

/-- Start a frame on port p and send its first hi bytes: it takes its link sequence number and enters the replay buffer (R107, R111). -/
def startUpTo (s : Mach) (p : Nat) (t : TxFrame) (hi : Nat) : Mach :=
  let f := stamped s p t
  let s := (noteExchange (countUsed (countSent (markSent s t.own p f.seq) p t) t) p t).emit (.burst p (fragment f 0 hi 0))
  let x := s.rport p
  if f.sequenced then
    s.setRport p { x with txNext := (x.txNext + 1) % 65536, replay := x.replay ++ [⟨f.lseq, 0, s.now, { t with f := f, nominal := none }⟩] }
  else s

/-- Start a frame on port p and send it whole. -/
def startFrame (s : Mach) (p : Nat) (t : TxFrame) : Mach := startUpTo s p t t.f.bytes

/-- Remember the frames sent to stations (the last 65,536 of a ring) with seq, source class and bridge number (R403). -/
def noteSent (s : Mach) (t : TxFrame) : Mach :=
  match t.own with
  | some (b, _) =>
    let i := match s.reqs.find? (fun q => q.bseq == b) with
      | some q => q.init
      | none => 0xFF
    { s with ring := { s.ring with txHist := ((t.f.dest * 4 + t.f.cls, t.f.seq, b, i) :: s.ring.txHist).take 65536 } }
  | none => s

/-- A start held back by a full replay buffer (R113, counter 29). -/
def heldBack (s : Mach) (p : Nat) : Mach := (s.inc (RG_CNT p 29)).setF (RG_PORT_STATUS_replay_full p) 1

/-- Start a waiting TC0 frame, or leave it in the queue while the replay buffer has no room for it (R113). -/
def startOrKeep (p : Nat) (s : Mach) (t : TxFrame) : Mach :=
  let x := s.rport p
  if replayRoom x t then noteSent (startFrame s p t) t else heldBack (s.setRport p { x with tx := x.tx ++ [t] }) p

/-- Start all TC0 frames waiting on a port, in order. -/
def startTc0 (s : Mach) (p : Nat) : Mach :=
  let x := s.rport p
  let z := x.tx.filter (fun t => t.f.cls == 0 && !t.excess) ++ x.tx.filter (fun t => t.f.cls == 0 && t.excess)
  z.foldl (startOrKeep p) (s.setRport p { x with tx := x.tx.filter (fun t => t.f.cls != 0) })

/-- The first frame of a port's queue that can start: TC0 before the others, then by class (R118). The order among TC1 to
TC3 is a DESIGN CHOICE: the lower class number first. -/
def nextFrame (s : Mach) (p : Nat) : Option (TxFrame × List TxFrame) :=
  let x := s.rport p
  let ok (c : Nat) (v : Bool) (t : TxFrame) : Bool := t.f.cls == c && t.excess == v && mayStart s t && replayRoom x t
  [(0, false), (0, true), (1, false), (2, false), (3, false), (1, true)].findSome? (fun k => takeFirst (ok k.1 k.2) x.tx)

/-- The link frame that port p sends now (R108). Before anything has been received on the link its acknowledgement is 0xFFFF, and its
echo and turnaround are 0 (DESIGN CHOICE, log 74). -/
def linkFrame (s : Mach) (p : Nat) : Frame :=
  let x := s.rport p
  { type := 0xF, cls := 0, flags := (if x.skip.isSome then 2 else 0) + b2n x.nakDue, dest := 0x3FFF, src := 0,
    origin := (if s.twin.origin2 then 2 else 0), seq := (x.rxNext + 65535) % 65536, launch := s.time32,
    word := (match x.peer with
             | some (l, _) => l
             | none => 0),
    acc := x.skip.getD 0,
    aux := (match x.peer with
            | some (_, t) => (s.now - t) % 2 ^ 32
            | none => 0), retry := 0xFF }

/-- Send a link frame on port p (R108, R110), after the TC0 frames that wait (R122). -/
def sendLink (s : Mach) (p : Nat) : Mach :=
  let s := startTc0 s p
  let f := linkFrame s p
  let s := if (s.rport p).nakDue then s.inc (RG_CNT p 18) else s
  let s := (s.add (RG_CNT p 8) 32).emit (.burst p (wholeBurst f))
  let x := s.rport p
  s.setRport p { x with nakDue := false, ackDue := 0, skip := none, stamps := (f.launch :: x.stamps).take 1024 }

/-- A link frame waits: with nak or a skip number, or after 256 accepted frames (R109, R110, R112). -/
def linkDue (x : PortSt) : Bool := x.nakDue || x.skip.isSome || decide (256 ≤ x.ackDue)

/-- What may pass a TC1 to TC3 frame goes out: the TC0 frames that wait, then a link frame that waits (R86, R118, R122). -/
def passWaiting (s : Mach) (p : Nat) : Mach := if linkDue (s.rport p) then sendLink s p else startTc0 s p

/-- A frame of TC1 to TC3 is cut at the 64-byte boundary k when a byte of it remains (R85, R86). -/
def cutAt (f : Frame) (k : Nat) : Bool := f.cls != 0 && decide (1 ≤ k) && decide (64 * k < f.bytes)

/-- The rest of a cut frame goes out as its final fragment (R84, R87). -/
def endCut (s : Mach) (p : Nat) (f : Frame) (sent frag : Nat) : Mach :=
  ((s.setRport p { s.rport p with cut := none }).setF (RG_PORT_STATUS_cut_open p) 0).emit (.burst p (fragment f sent f.bytes frag))

/-- FRAME_TRANSMIT: port p starts its next frame, or resumes the one that is cut after what waits to pass it (R86, R87). `cut` names the
boundary at which a TC0 frame or link frame is waiting, if any. -/
def transmit (s : Mach) (p : Nat) (cut : Option Nat) : Mach :=
  if !s.portUp p then s
  else
    match (s.rport p).cut with
    | some (f, sent, frag) =>
      let s := passWaiting s p
      match cut with
      | some k =>
        if sent < 64 * k ∧ cutAt f k = true ∧ frag ≤ 15 then
          (s.setRport p { s.rport p with cut := some (f, 64 * k, frag + 1) }).emit (.burst p (fragment f sent (64 * k) frag))
        else endCut s p f sent frag
      | none => endCut s p f sent frag
    | none =>
      let tc0 := match nextFrame s p with
        | some (t, _) => t.f.cls == 0
        | none => false
      let s := if linkDue (s.rport p) && !tc0 then sendLink s p else s
      match nextFrame s p with
      | none => if (s.rport p).tx.any (fun t => mayStart s t && !replayRoom (s.rport p) t) then heldBack s p else s
      | some (t, rest) =>
        let s := s.setRport p { s.rport p with tx := rest }
        match cut with
        | some k =>
          if cutAt t.f k then
            let f := stamped s p t
            let s := noteSent (startUpTo s p t (64 * k)) t
            let s := s.setRport p { s.rport p with cut := some (f, 64 * k, 1) }
            passWaiting ((s.setF (RG_PORT_STATUS_cut_open p) 1).inc (RG_CNT p 14)) p
          else noteSent (startFrame s p t) t
        | none => noteSent (startFrame s p t) t

/-! ### Acknowledgement and retransmission -/

/-- How far a link sequence number lies ahead of another. -/
def seqAhead (a b : Nat) : Nat := (a + 65536 - b) % 65536

/-- The held frames that a cumulative acknowledgement covers, and the rest. -/
def ackSplit (l : List Replay) (ack : Nat) : List Replay × List Replay :=
  (l.filter (fun r => decide (seqAhead ack r.lseq < 32768)), l.filter (fun r => !decide (seqAhead ack r.lseq < 32768)))

/-- The frames at the front that have been sent with retry count 3 (R112), and the rest. -/
def spent : List Replay → List Replay × List Replay
  | [] => ([], [])
  | r :: t => if 3 ≤ r.retry then (r :: (spent t).1, (spent t).2) else ([], r :: t)

/-- The first n held frames have been sent once more. -/
def retried (n t : Nat) (l : List Replay) : List Replay :=
  (l.take n).map (fun r => { r with retry := r.retry + 1, sentAt := t }) ++ l.drop n

/-- One held frame goes out again, whole, with its link tag's retry count (R107, R111). A frame in transit keeps the residence it had
when it was first sent (DESIGN CHOICE, log 74). -/
def sendAgain (p : Nat) (s : Mach) (r : Replay) : Mach :=
  (((s.inc (RG_CNT p r.t.f.cls)).add (RG_CNT p 8) r.t.f.bytes).inc (RG_CNT p 15)).emit
    (.burst p (wholeBurst { r.t.f with lseq := r.lseq, retry := r.retry }))

/-- The skip number of a port whose front frames were dropped: the next sequenced frame that it will send (R108, R112). -/
def skipNumber (x : PortSt) : Nat :=
  match x.replay with
  | r :: _ => r.lseq
  | [] => x.txNext

/-- R111, R112: drop the held frames at the front that have been sent with retry count 3, and then send a skip link frame; resend the
others in order, after the TC0 frames that wait (R118). While a frame is cut the retransmission waits for its end (R87). The dropped
frames are the second result. -/
def resend (s : Mach) (p : Nat) : Mach × List TxFrame :=
  let x := s.rport p
  if x.cut.isSome then (s.setRport p { x with resendDue := true }, [])
  else
    let d := spent x.replay
    let s := s.setRport p { x with replay := d.2, dropRun := x.dropRun + d.1.length, resendDue := false }
    let s := startTc0 (s.add (RG_CNT p 16) d.1.length) p
    let s := if d.1.isEmpty then s
      else sendLink ((s.setRport p { s.rport p with skip := some (skipNumber (s.rport p)) }).raise (RG_PORT_EVENT_retry_drop p)) p
    let n := d.2.length
    let s := s.setRport p { s.rport p with replay := retried n s.now (s.rport p).replay }
    let s := ((s.rport p).replay.take n).foldl (sendAgain p) s
    (s.setF (RG_PORT_STATUS_replay p) (b2n (!d.2.isEmpty)), d.1.map (fun r => r.t))

/-- The acknowledged frames leave the replay buffer. -/
def linkAck (s : Mach) (p ack : Nat) : Mach × List TxFrame :=
  let x := s.rport p
  let d := ackSplit x.replay ack
  let s := s.setRport p { x with replay := d.2, dropRun := (if d.1.isEmpty then x.dropRun else 0) }
  let s := if replayBytes d.2 + 1056 ≤ replayLimit then s.setF (RG_PORT_STATUS_replay_full p) 0 else s
  let s := if d.2.all (fun r => r.retry == 0) then s.setF (RG_PORT_STATUS_replay p) 0 else s
  (s, d.1.map (fun r => r.t))

end Sys2Proof.Machine
end

