-- ==== Sys2Proof/Machine/Bridge.lean ====
section
/-!
DEFINITION. The bridge (11_transaction_bridging_and_errors.md): acceptance, sending the pieces of a request, resolution
of its parts, and how each path reports (Table 11-1, Table 11-2).
-/
namespace Sys2Proof.Machine

/-! ### Cutting (R302, R371, R378) -/

/-- Cut a run at each 1,024-byte boundary of the offset; the count is fuel. -/
def cut1024 : Nat → Nat → List Byte → Nat → List Piece
  | 0, _, _, _ => []
  | k + 1, fa, data, len =>
    if len = 0 then []
    else
      let room := 1024 - fa % 1024
      let n := if len < room then len else room
      { fa := fa, len := n, data := data.take n } :: cut1024 k (fa + n) (data.drop n) (len - n)

/-- Cut a run into the word and byte cycles of the Uhlux bus (R378). -/
def cutCycles : Nat → Nat → List Byte → Nat → List Piece
  | 0, _, _, _ => []
  | k + 1, fa, data, len =>
    if len = 0 then []
    else
      let n := if fa % 2 = 0 ∧ 2 ≤ len then 2 else 1
      { fa := fa, len := n, data := data.take n } :: cutCycles k (fa + n) (data.drop n) (len - n)

/-- The pieces of one run of an engine's access. -/
def cutRun (fa len : Nat) (data : List Byte) : List Piece :=
  if faSpace fa = 2 then cutCycles (len + 1) fa data len else cut1024 (len + 1) fa data len

/-! ### Finding requests -/

/-- Requests in the posted send queue (R386): posted, with a piece that has not started. -/
def postedFill (s : Mach) : Nat :=
  (s.reqs.filter (fun q => q.posted && q.pieces.any (fun p => p.sentAt.isNone && !p.done))).length

/-- Host reads open. -/
def hostReadsOpen (s : Mach) : Nat :=
  (s.reqs.filter (fun q => q.init == 0x40 && !q.write && q.orphan.isNone)).length

/-- BR_STATUS is kept current. -/
def brStatus (s : Mach) : Mach :=
  (s.setF BR_STATUS_posted_fill (satAt 1024 (postedFill s))).setF BR_STATUS_host_reads (hostReadsOpen s)

/-! ### Reporting -/

/-- The error-log entry of a request (Table 11-5). -/
def reqLog (q : Req) (cause code detail : Nat) : LogEntry :=
  { tAcc := q.tAcc, bseq := q.bseq, iaddr := q.iaddr, faddr := some q.faddr, initiator := q.init, cause := cause,
    att := q.att, flags := b2n q.write + 2 * b2n q.posted, code := code,
    station := (if faSpace q.faddr = 2 then 0 else faStation q.faddr) + q.cls * 2 ^ 14,
    fseq := (match q.pieces.find? (fun p => p.code != 0) with
             | some p => p.fseq
             | none => 0),
    detail := detail }

/-- The cause of Table 11-6 for a failed request. -/
def reqCause (q : Req) (code : Nat) : Nat :=
  match q.kind with
  | .mirror _ => 0x050B
  | _ =>
    if code < 0x10 then 0x0501
    else if code = 0x11 then 0x0507
    else if code = 0x15 then (if q.posted then 0x050C else 0x0504)
    else if q.posted then (if code = 0x12 then 0x0505 else 0x0502)
    else if code = 0x12 then 0x0505 else 0x0504

/-- T_stn (Table 11-3). -/
def tStn (s : Mach) : Nat :=
  let p := 3 * (s.f BT_BEAT_PERIOD_period_10ns * 10)
  if p < 2000000 then 2000000 else p

/-- The detail of a failed request (Table 11-6). -/
def reqDetail (s : Mach) (q : Req) (code : Nat) : Nat :=
  match q.kind with
  | .mirror m => m
  | _ =>
    if code < 0x10 then code
    else if code = 0x11 then s.f (ST_W1_state (faStation q.faddr))
    else if code = 0x15 then (if q.posted then 5 else 4000)
    else if code = 0x12 then
      Config.packDetail [faCard ((q.pieces.find? (fun p => p.code != 0)).elim q.faddr (fun p => p.fa)),
        (q.pieces.filter (fun p => p.done && p.code == 0)).length]
    else if q.posted then
      (match q.pieces.find? (fun p => p.code != 0) with
       | some p => p.port
       | none => 0xFF)
    else if code = 0x13 then 100000 else tStn s

/-- One write reported by both its write-ack and event 0xFFE0: the second report folds into the entry of the first
(Table 11-10). -/
def logOnce (s : Mach) (e : LogEntry) : Mach :=
  match s.log.find? (fun x => x.2.bseq == e.bseq && bitAt x.2.flags 0 && (x.2.cause == 0x0503 || (x.2.cause == 0x0501 && e.cause == 0x0503))) with
  | some x => logRepeat s x.1
  | none => s.logE e

/-- Log a failed request; the port has logged a non-posted Uhlux one (R452), and those to a station that does not run fold once per station in each beat (R402). -/
def logReq (s : Mach) (q : Req) (code : Nat) : Mach :=
  let e := reqLog q (reqCause q code) code (reqDetail s q code)
  if code = 0x12 ∧ q.posted = false ∧ faSpace q.faddr = 2 then s
  else if code = 0x11 ∧ q.write = true then s.logFold (0x05070000 + faStation q.faddr) e
  else if code = 0x15 ∧ q.posted = true then absorbLog s 5 e
  else if q.write then logOnce s e
  else s.logE e

/-- R401: a posted write has failed. -/
def postedFail (s : Mach) (q : Req) (code : Nat) (dead : Bool) : Mach :=
  let s := logReq s q code
  let s := (s.add (BR_PERR_CNT q.init) (1 + q.merged)).add (BR_CNT 2) (1 + q.merged)
  let s := s.raise BR_EVENT_posted_err
  if q.init < 64 ∧ q.counted = true then storeFailed s q.init true dead
  else if q.init < 64 then fabricErrorDue s q.init else s

/-- The bytes a host read returns: each host byte from the piece that holds its fabric offset (R369); all-ones where
protection denied it. -/
def hostBytes (q : Req) : List Byte :=
  (keysFrom 0 q.hostMask.length).map (fun i =>
    if q.deny.getD i false then 0xFF
    else
      let u := 2 ^ q.swap
      let a := q.iaddr + i
      let off := a - a % u + (u - 1 - a % u)
      let fa := q.faddr - q.faddr % 2 ^ 20 + off % 2 ^ 20
      match q.pieces.find? (fun p => decide (p.fa ≤ fa) && decide (fa < p.fa + p.len)) with
      | some p => if q.hostMask.getD i false then p.got.getD (fa - p.fa) 0 else 0
      | none => 0)

/-- Completions cut at 64-byte boundaries (R380); the count is fuel. -/
def sendCompletions : Nat → Mach → Nat → Nat → List Byte → Bool → Mach
  | 0, s, _, _, _, _ => s
  | k + 1, s, tag, a, data, ep =>
    if data.isEmpty then s
    else
      let room := 64 - a % 64
      sendCompletions k (s.emit (.completion tag 0 (data.take room) ep)) tag (a + room) (data.drop room) ep

/-- Completion status of PCI Express: 0 successful, 1 UR, 4 CA. -/
def statusCA : Nat := 4
/-- UR. -/
def statusUR : Nat := 1

/-- R395: a host read that ended with a code. -/
def hostReadEnd (s : Mach) (q : Req) (tag code : Nat) : Mach :=
  if code = 0 then sendCompletions (q.hostMask.length + 1) s tag q.iaddr (hostBytes q) false
  else (((logReq s q code).inc (BR_CNT 0)).inc (AT_CNT 6)).raise BR_EVENT_nonposted_err |>.emit (.completion tag statusCA [] false)

/-- The result of a CWP slot (R406). -/
def cwpResult (s : Mach) (k code bseq : Nat) : Mach :=
  let s := (s.setF (BR_CWP_STATUS_code k) code).setF (BR_CWP_STATUS_bseq k) bseq
  let s := (s.setF (BR_CWP_PEEK_code k) code).setF (BR_CWP_PEEK_bseq k) bseq
  s.setF (BR_CWP_PEEK_busy k) 0

/-- A non-posted request that failed is logged and counted. -/
def nonPostedFail (s : Mach) (q : Req) (code : Nat) : Mach :=
  if code = 0 then s else (logReq s q code).raise BR_EVENT_nonposted_err

/-- Put a mirror's header word into its record: code, generation, beat (Table 11-8). -/
def mirrorHeader (s : Mach) (m code gen beat : Nat) : Mach :=
  s.dramWrite (s.f (BR_MDST_rec m) * 64) (leBytes 1 code ++ leBytes 3 gen ++ leBytes 4 beat)

/-- The end of a mirror's access (R411 to R413). -/
def mirrorEnd (s : Mach) (q : Req) (m code : Nat) : Mach :=
  let s := s.setF (BR_MSTAT_code m) code
  let s := if code = 0 then s else (logReq s q code).raise BR_EVENT_mirror_err
  if s.f (BR_MCFG_dir m) = 0 then
    let base := s.f (BR_MDST_rec m) * 64
    let gen := s.dramNat (base + 1) 3
    if !s.dramReach base then s
    else
      let s := if code = 0 then
          let u := 2 ^ s.f (BR_MCFG_swap m)
          let d := reqData q
          s.dramWrite (base + 8) ((keysFrom 0 d.length).map (fun i => d.getD (i - i % u + (u - 1 - i % u)) 0))
        else s
      mirrorHeader s m code ((gen + 2) % 2 ^ 24) q.beat
  else s

/-- Bytes of a request that were carried out. -/
def reqDone (q : Req) : Nat := (q.pieces.filter (fun p => p.done && p.code == 0)).foldl (fun n p => n + p.len) 0

/-- Write a list of bytes at an engine address of normal memory, as the descriptor and copy units and DELTA do: behind the cluster's queued
stores to the same bytes (Table 09-2). -/
def writeLocal (s : Mach) (e a : Nat) (bs : List Byte) : Mach :=
  match locate a with
  | .dram o => performNormal (drainSpan s (e / 4) o (o + bs.length)) e a bs
  | _ => performNormal s e a bs

/-- Bytes of a GATH that have come go to local memory: the byte at fabric offset o of the descriptor lies at the place that the swap unit
gives it (R276). -/
def gatherPut (s : Mach) (e loc o u : Nat) (bs : List Byte) : Mach :=
  if u = 1 then writeLocal s e (loc + o) bs
  else (keysFrom 0 bs.length).foldl (fun t i =>
    let k := o + i
    writeLocal t e (loc + (k - k % u + (u - 1 - k % u))) [bs.getD i 0]) s

/-- A request of descriptor k of list id has ended: its bytes are in local memory. The next set of a GATH in Uhlux space follows (R426);
else the descriptor has ended, and code and done are written back (R304, R305). A posted one that was done with at its acceptance is written
back again when it fails; once the list has retired nothing is written. -/
def gsEnd (s : Mach) (q : Req) (id k code : Nat) : Mach :=
  let x := s.eng q.init
  match x.gs with
  | none => s
  | some g =>
    match g.descs[k]? with
    | none => s
    | some d =>
      let s := if g.gather ∧ g.id = id then
          q.pieces.foldl (fun t p => if p.code = 0 ∧ p.done = true
            then gatherPut t q.init d.loc (p.fa - d.fab) g.swap p.got else t) s
        else s
      let n := (if d.finished then 0 else d.done) + reqDone q
      if g.id ≠ id ∨ (d.finished ∧ code = 0) then s
      else if code = 0 ∧ g.gather = true ∧ faSpace d.fab = 2 ∧ n < d.len then
        s.updEng q.init (fun y => { y with gs := some { g with descs := g.descs.set k { d with done := n, sent := 0 } } })
      else
        let s := writeLocal s q.init (d.daddr + 28) (leBytes 4 (code + n * 256))
        s.updEng q.init (fun y => { y with gs := some { g with descs := g.descs.set k { d with done := n, code := code, finished := true } } })

/-- The outcome of a request for its initiator (Table 11-1). `dead` marks a write absorbed because its target is dead. -/
def reqEnd (s : Mach) (q : Req) (code : Nat) (dead : Bool) : Mach :=
  let s := s.dropReq q.bseq
  let s := match q.orphan with
    | some cause =>
      if code = 0 ∧ q.write = false then orphanPut s (reqOrphan q cause (reqData q)) else s
    | none =>
      match q.kind with
      | .hostRead tag => hostReadEnd s q tag code
      | .hostWrite => if code = 0 then s else postedFail s q code dead
      | .cwp k => cwpResult (nonPostedFail s q code) k code q.bseq
      | .fld r => (nonPostedFail s q code).updEng q.init (fun x => { x with inbox := x.inbox ++ [(r, code, reqData q)] })
      | .fstn r => (nonPostedFail s q code).updEng q.init (fun x => { x with inbox := x.inbox ++ [(r, code, [])] })
      | .fst => if code = 0 then s else postedFail s q code dead
      | .gs l k => gsEnd (if code = 0 then s else if q.posted then postedFail s q code dead else nonPostedFail s q code) q l k code
      | .mirror m => mirrorEnd s q m code
  brStatus s

/-- The code of a request whose pieces are all done: the first that is not 0. -/
def reqCode (q : Req) : Nat :=
  match q.pieces.find? (fun p => p.code != 0) with
  | some p => p.code
  | none => 0

/-- A piece has ended with a code; the request ends with its last piece. -/
def pieceEnd (s : Mach) (b i code : Nat) (data : List Byte) (dead : Bool) : Mach :=
  let s := s.updReq b (fun q => { q with pieces := q.pieces.modify i (fun p => { p with done := true, code := code, got := data }) })
  match s.req b with
  | none => s
  | some q => if q.pieces.all (fun p => p.done) then reqEnd s q (reqCode q) dead else s

/-- End a whole request with a code: pieces not done take it. -/
def reqFail (s : Mach) (b code : Nat) (dead : Bool) : Mach :=
  match s.req b with
  | none => s
  | some q =>
    reqEnd s { q with pieces := q.pieces.map (fun p => if p.done then p else { p with done := true, code := code }) } code dead

/-! ### Sending -/

/-- A station takes TC2 and TC3 requests in states configured, running and held (Table 04-1), TC0 frames when running or held, and TC1
frames, which are image-out, when running (R165). -/
def stationTakes (s : Mach) (k cls : Nat) : Bool :=
  if k = 0x3FFF then true
  else s.stValid k && (let st := s.f (ST_W1_state k); st == 3 || (st == 4 && cls != 1) || (st == 2 && decide (2 ≤ cls)))

/-- The frame of one piece (R372, R283, R390). -/
def pieceFrame (s : Mach) (q : Req) (p : Piece) : Frame :=
  let lt := match q.launch with
    | some l => l
    | none => q.stamp.getD s.time32
  let sp := faSpace p.fa % 2
  if q.cls = 1 then
    { type := 0x3, cls := 1, flags := 0, dest := faStation p.fa, launch := lt, word := 2 ^ 31 + faOff p.fa, len := p.len,
      aux := (q.beat + 1) % 2 ^ 32, payload := p.data }
  else if q.write then
    { type := 0x6, cls := q.cls, flags := 2 * b2n (q.ack && q.cls != 0) + sp, dest := faStation p.fa, launch := lt,
      word := 2 ^ 31 + faOff p.fa, len := p.len, payload := p.data }
  else
    { type := 0x4, cls := q.cls, flags := sp, dest := faStation p.fa, launch := lt, word := faOff p.fa, len := 0,
      aux := p.len }

/-- The fabric time that a launch time stands for; none for one more than 2 s away in either direction (R71). -/
def expandLaunch (s : Mach) (lt : Nat) : Option Nat :=
  let d := signed 32 (lt + 2 ^ 32 - s.time32)
  if 2000000000 < d ∨ d < -2000000000 then none else some (twos 64 (Int.ofNat s.now + d))

/-- Frames of engines' GATH and SCAT lists outstanding in a cluster (R302). -/
def gsOutstanding (s : Mach) (c : Nat) : Nat :=
  (s.reqs.filter (fun q => decide (q.init < 64) && q.init / 4 == c &&
    (match q.kind with
     | .gs _ _ => true
     | _ => false))).foldl (fun n q => n + (q.pieces.filter (fun p => p.queued && !p.done)).length) 0

/-- The descriptor unit may send one more frame. -/
def gsRoom (s : Mach) (q : Req) : Bool :=
  match q.kind with
  | .gs _ _ => decide (gsOutstanding s (q.init / 4) < 32)
  | _ => true

/-- A TC0 or TC1 frame of an engine: a pair, or in single-direction mode one copy on the station's route (R101, R156). -/
def sendCyclic (s : Mach) (n : Nat) (t : TxFrame) : Mach :=
  if t.f.cls = 1 ∧ s.b (RG_RING_CFG_single_dir n) then
    match routeOf s t.f.dest with
    | some d => sendSingle s n (2 * n + d) t
    | none => s
  else if t.f.cls = 0 then sendEngineTc0 s n t
  else sendPair s n t

/-- The rings a frame to a station goes on: its own, or every ring for 0x3FFF. -/
def destRings (s : Mach) (k : Nat) : List Nat := if k = 0x3FFF then [0, 1, 2, 3] else [s.stRing k]

/-- A ring has a module port that is up. -/
def ringAlive (s : Mach) (n : Nat) : Bool := s.portUp (2 * n) || s.portUp (2 * n + 1)

/-- An earlier host write to the same destination has not been sent. -/
def earlierUnsent (s : Mach) (q : Req) : Bool :=
  s.reqs.any (fun w => w.write && w.init == 0x40 && decide (w.bseq < q.bseq) &&
    (if faSpace q.faddr = 2 then decide (faSpace w.faddr = 2) && faPort w.faddr == faPort q.faddr
     else decide (faSpace w.faddr ≠ 2) && faStation w.faddr == faStation q.faddr) &&
    w.pieces.any (fun p => p.sentAt.isNone && !p.done))

/-- A host read or CWP write waits for earlier host writes to its station in another class (R348, R405); in its own class the
queue keeps the order. -/
def hostGate (s : Mach) (q : Req) : Bool := q.init == 0x40 && !q.posted && earlierUnsent { s with reqs := s.reqs.filter (fun w => w.cls != q.cls) } q

/-- A status mirror's request (R411). -/
def Req.ofMirror (q : Req) : Bool :=
  match q.kind with
  | .mirror _ => true
  | _ => false

/-- An earlier request of the same initiator to the same station in the same class has a piece that is not queued yet (R290, R347). -/
def earlierWaits (s : Mach) (q : Req) (k : Nat) : Bool :=
  s.reqs.any (fun w => decide (w.bseq < q.bseq) && w.init == q.init && w.cls == q.cls &&
    w.pieces.any (fun p => !p.queued && !p.done && faSpace p.fa != 2 && faStation p.fa == k))

/-- Queue one piece of a request to a station. One that the station's state no longer allows ends with code 0x11 (R391); for a station that
has become absent the request ends at its timeout. A status mirror waits for a reroute before it sends (R151). -/
def pushPiece (s : Mach) (b i : Nat) : Mach :=
  match s.req b with
  | none => s
  | some q =>
    match q.pieces[i]? with
    | none => s
    | some p =>
      let k := faStation p.fa
      if p.queued || p.done || q.held || !s.diesJoined || hostGate s q || earlierWaits s q k then s
      else
        let t : TxFrame := { f := pieceFrame s q p, timed := q.launch.bind (expandLaunch s), own := some (b, i), internal := q.ofMirror }
        let mark (u : Mach) : Mach := u.updReq b (fun q => { q with pieces := q.pieces.modify i (fun p => { p with queued := true }) })
        if !stationTakes s k q.cls then (if s.stValid k && s.f (ST_W1_state k) == 0 then s else pieceEnd s b i 0x11 [] true)
        else if q.cls < 2 then
          if (destRings s k).any (ringAlive s) then
            mark ((destRings s k).foldl (fun u n => if ringAlive u n then sendCyclic u n t else u) s)
          else pieceEnd s b i 0x10 [] true
        else if k = 0x3FFF then mark ((destRings s k).foldl (fun u n => if ringAlive u n then sendBroadcast u n t else u) s)
        else if (if q.ofMirror then !routeBroken s k else canSendTo s k) && gsRoom s q then mark (sendToStation s k t) else s

/-- Queue the pieces of a request in ascending order, as far as there is room. -/
def pushPieces (s : Mach) (b : Nat) : Mach :=
  match s.req b with
  | none => s
  | some q => forEach (keysFrom 0 q.pieces.length) (fun i t => pushPiece t b i) s

/-- Queue what waited for room, oldest request first. -/
def pushWaiting (s : Mach) : Mach := (s.reqs.map (fun q => q.bseq)).foldl pushPieces s

/-- A frame of TC1 to TC3 that has not started, to a station in whose state no such frame goes out (Table 04-1): a discovered station
takes the adoption's own, any other the enumerate frames alone. -/
def barredFrame (s : Mach) (k : Nat) (t : TxFrame) : Bool :=
  t.f.dest == k && t.f.cls != 0 && !t.transit &&
    (if s.f (ST_W1_state k) = 1 then !t.internal || t.own.isSome || t.f.cls == 1 else t.f.type != 0xA)

/-- Withdraw the frames to a station that its state does not allow, from the ports and from the hold of its ring. -/
def withdraw (s : Mach) (k : Nat) : Mach × List TxFrame := takeFrames s (barredFrame s k)

/-- Withdraw them; the requests that they carry end with code 0x11, and so do those to the station that wait in the bridge (R16, R391). -/
def withdrawEnd (s : Mach) (k : Nat) : Mach :=
  let r := withdraw s k
  pushWaiting (r.2.foldl (fun t x =>
    match x.own with
    | some (b, i) => pieceEnd t b i 0x11 [] true
    | none => t) r.1)

/-! ### Uhlux ports -/

/-- The port is enabled and not clamped (R449, R560); a standby, a fenced module, and one in a takeover keep it as with enable 0
(R573, R580, R581). -/
def uxEnabled (s : Mach) (p : Nat) : Bool :=
  s.b (UX_CFG_enable p) && !bitAt (s.f CT_CLAMP_uhlux) p && !s.standby && !s.b TW_STATUS_fenced && !s.twin.progress

/-- R452: a port failure is logged by the port's cause, but for a posted write, which Table 11-6 logs. -/
def uxLog (s : Mach) (q : Req) (cause detail : Nat) : Mach := if q.posted then s else s.logE (reqLog q cause 0x12 detail)

/-- R423: no cycle is issued to the module's own range or to a slot that is disabled or absent. -/
def uxRefused (s : Mach) (fa : Nat) : Bool :=
  let p := faPort fa
  let c := faCard fa
  !uxEnabled s p || decide (0x800000 ≤ c) || !bitAt (s.f (UX_SLOT_en p)) (c / 0x80000)
    || bitAt (s.f (UX_SLOT_absent p)) (c / 0x80000)

/-! ### Acceptance -/

/-- A request goes to its ring or Uhlux port; a station that does not run is answered by the module (R391), a disabled or absent Uhlux slot
likewise (R423). -/
def routeReq (s : Mach) (q : Req) : Mach :=
  if faSpace q.faddr = 2 then
    if uxRefused s q.faddr then
      reqFail (uxLog s q 0x0D05 (faCard q.faddr)) q.bseq 0x12 true
    else
      let x := s.uxp (faPort q.faddr)
      s.setUxp (faPort q.faddr) { x with queue := x.queue ++ [q.bseq], waitSince := (if x.queue.isEmpty then s.now else x.waitSince) }
  else if stationTakes s (faStation q.faddr) q.cls then pushPieces s q.bseq
  else reqFail (s.inc (BR_CNT 3)) q.bseq 0x11 true

/-- A request takes the next bridge number (R385). -/
def takeBseq (s : Mach) (q : Req) : Mach :=
  brStatus { s.inc BR_SEQ with reqs := s.reqs ++ [{ q with bseq := s.n BR_SEQ, tAcc := s.now }] }

/-- R384, R385: accept a request. The dovetail port absorbs it when it is isolated (R497), and holds it while the dovetail link is down
(R499). -/
def accept (s : Mach) (q : Req) : Mach :=
  let q := { q with bseq := s.n BR_SEQ, tAcc := s.now, held := !s.diesJoined }
  let s := takeBseq s q
  if s.port 5 = 2 then reqFail s q.bseq 0x15 true
  else if q.held then s
  else routeReq s q

/-- What the dovetail port held goes on when the link is up again (R499). -/
def releaseHeld (s : Mach) : Mach :=
  pushWaiting ((s.reqs.filter (fun q => q.held)).foldl
    (fun t q => routeReq (t.updReq q.bseq (fun x => { x with held := false })) { q with held := false }) s)

/-- The dovetail port has held request b for 4 µs (R499, Table 11-3). -/
def holdEnds (s : Mach) (b : Nat) : Mach :=
  match s.req b with
  | none => s
  | some q => if q.held then reqFail (s.upTo (q.tAcc + 4000)) b 0x15 true else s

/-- The bridge number the last accepted request has. -/
def lastBseq (s : Mach) : Nat := s.n BR_SEQ - 1

/-- R386: room in the posted send queue. -/
def postedRoom (s : Mach) : Bool := decide (postedFill s < 1024)

/-- Pieces of TC0 and TC1 stores are resolved once no copy waits on a port (Table 11-2). -/
def resolveSent (s : Mach) : Mach :=
  let waits (b : Nat) : Bool := (keysFrom 0 8).any (fun p => (s.rport p).tx.any (fun t => (t.own.map (fun o => o.1)) == some b))
  (s.reqs.filter (fun q => decide (q.cls < 2) && q.pieces.all (fun p => p.queued))).foldl
    (fun t q => if waits q.bseq then t else reqEnd t { q with pieces := q.pieces.map (fun p => { p with done := true }) } 0 false) s

/-- Link-level acknowledgement resolves the pieces that ask for no write-ack (Table 11-2). -/
def resolveAcked (s : Mach) (l : List TxFrame) : Mach :=
  l.foldl (fun t f =>
    match f.own with
    | some (b, i) =>
      match t.req b with
      | some q => if q.write && !q.ack && decide (2 ≤ q.cls) then pieceEnd t b i 0 [] false else t
      | none => t
    | none => t) s

/-- Frames that a port had sent when it went down, unacknowledged: a write that asks for no write-ack has failed, as nothing else will tell
its fate (Table 11-2, DEDUCED, log 79); the others end at the reroute edge (R152), by their answer, or at their timeout. -/
def resolveLost (s : Mach) (l : List TxFrame) : Mach :=
  l.foldl (fun t f =>
    match f.own with
    | some (b, i) =>
      match t.req b with
      | some q => if q.write && !q.ack && decide (2 ≤ q.cls) then pieceEnd t b i 0x10 [] true else t
      | none => t
    | none => t) s

/-- Frames dropped after their retransmissions fail the writes they carry (Table 11-2); reads wait for their timeout. -/
def resolveDropped (s : Mach) (l : List TxFrame) : Mach :=
  l.foldl (fun t f =>
    match f.own with
    | some (b, i) =>
      match t.req b with
      | some q => if q.write && decide (2 ≤ q.cls) then pieceEnd t b i 0x10 [] true else t
      | none => t
    | none => t) s

/-- The outstanding piece that a frame of a station answers: its class, number and station match (R342). -/
def findPiece (s : Mach) (write : Bool) (stn cls seq : Nat) : Option (Nat × Nat) :=
  s.reqs.findSome? (fun q =>
    if q.write == write && q.cls == cls then
      match q.pieces.findIdx? (fun p => p.sentAt.isSome && !p.done && p.fseq == seq && faStation p.fa == stn && faSpace p.fa != 2) with
      | some i => some (q.bseq, i)
      | none => none
    else none)

/-- submit a fabric store that leaves an engine's store buffer (R286, R390): posted, with a write-ack in TC2 and TC3.
None while the posted queue is full (R386). -/
def submitFst (s : Mach) (e : Nat) (t : StoreEntry) : Option Mach :=
  let fa := t.addr - 0x800000000000
  if postedRoom s then
    some (accept s { bseq := 0, init := e, kind := .fst, write := true, posted := true, ack := decide (2 ≤ t.cls) && faStation fa != 0x3FFF,
                     cls := t.cls, faddr := fa, iaddr := t.addr, tAcc := 0, launch := t.launch, stamp := some (s.hTime % 2 ^ 32), beat := t.beat,
                     pieces := cutRun fa t.data.length t.data })
  else none

end Sys2Proof.Machine
end

