-- ==== Sys2Proof/Machine/Image.lean ====
section
/-!
DEFINITION. Where the process image, the configuration store and the journal lie in module DRAM (R528 to R530, Table
16-2), and the times of the beat phases (Table 02-6).
-/
namespace Sys2Proof.Machine

/-- One MiB. -/
def mib : Nat := 0x100000

/-- Base of the image region. -/
def imgBase (s : Mach) : Nat := s.f JN_IMG_CFG_img_base * mib
/-- DRAM offset of the status record of bank k: 0 IN0, 1 IN1, 2 OUT0, 3 OUT1 (R529). -/
def bankRec (s : Mach) (k : Nat) : Nat := imgBase s + k * 0x1000
/-- DRAM offset of bank k. -/
def bankBase (s : Mach) (k : Nat) : Nat := imgBase s + mib + k * (s.f JN_IMG_CFG_bank_mib * mib)
/-- The input bank of beat b (R530). -/
def inBank (b : Nat) : Nat := b % 2
/-- The output bank of beat b. -/
def outBank (b : Nat) : Nat := 2 + b % 2
/-- DRAM offset of a station's image-in in the bank of beat b. -/
def stIn (s : Mach) (k b : Nat) : Nat := bankBase s (inBank b) + s.f (ST_W6_in_off k) * 64
/-- DRAM offset of a station's image-out. -/
def stOut (s : Mach) (k b : Nat) : Nat := bankBase s (outBank b) + s.f (ST_W6_out_off k) * 64

/-- Bytes of a bank in the no-journal mode: 240 KiB (R552). -/
def smallBank : Nat := 0x3C000

/-- The module is in its no-journal mode (R552). -/
def Mach.noJournal (s : Mach) : Bool := s.b JN_STATUS_nojrn

/-- Where a DRAM offset of the image region lies in the cluster SRAM of the no-journal mode: records from 0xF_0000, banks of
240 KiB from 0 (R552). -/
def smallKey (s : Mach) (a : Nat) : Nat :=
  let o := a - imgBase s
  let z := s.f JN_IMG_CFG_bank_mib * mib
  clsKey (s.f JN_DEGRADED_cluster)
    (if o < mib then 0xF0000 + o % 0x4000 else (o - mib) / z * smallBank + (o - mib) % z % smallBank)

/-- Image memory answers: cluster SRAM in the no-journal mode, else DRAM. -/
def imgReach (s : Mach) (a : Nat) : Bool := s.noJournal || s.dramReach a
/-- The engine address of a DRAM offset of the image region: DRAM, or the cluster SRAM's window in the no-journal mode. -/
def imgAddr (s : Mach) (a : Nat) : Nat := if s.noJournal then 0x43000000 + smallKey s a else 0x400000000 + a
/-- Bytes of the image region. -/
def imgBytes (s : Mach) (a n : Nat) : List Byte :=
  if s.noJournal then mapRange memReset s.csram (smallKey s a) n else s.dramRead a n
/-- Read bytes of the image region as the image unit, all-ones where its region set denies them (R508, R520). -/
def imgRead (s : Mach) (a n : Nat) : List Byte :=
  if mpuOpen s 0x51 then imgBytes s a n else mpuMask s 0x51 true needR (imgAddr s a) (imgBytes s a n)
/-- Write bytes of the image region as master m. -/
def imgWriteBy (s : Mach) (m a : Nat) (bs : List Byte) : Mach :=
  if s.noJournal then csramWriteBy s m (smallKey s a) bs else dramWriteBy s m a bs
/-- Write bytes of the image region as the image unit; a write with a denied byte is dropped (R521). -/
def imgWrite (s : Mach) (a : Nat) (bs : List Byte) : Mach :=
  let c := unitCheck s 0x51 needW (imgAddr s a) bs.length
  if c.2 then imgWriteBy c.1 0x51 a bs else c.1
/-- An image range holds an uncorrectable word. -/
def imgPoison (s : Mach) (a n : Nat) : Bool := !s.noJournal && s.dramPoison a n

/-- Beat of a bank's record. -/
def recBeat (s : Mach) (k : Nat) : Nat := leNat (imgRead s (bankRec s k) 4)
/-- Flags of a bank's record. -/
def recFlags (s : Mach) (k : Nat) : Nat := leNat (imgRead s (bankRec s k + 4) 4)
/-- Write the beat and flags of a record. -/
def setRec (s : Mach) (k beat flags : Nat) : Mach := imgWrite s (bankRec s k) (leBytes 4 beat ++ leBytes 4 flags)
/-- Set the flags alone. -/
def setRecFlags (s : Mach) (k flags : Nat) : Mach := imgWrite s (bankRec s k + 4) (leBytes 4 flags)
/-- Write the strike time. -/
def setRecStrike (s : Mach) (k t : Nat) : Mach := imgWrite s (bankRec s k + 8) (leBytes 8 t)
/-- A station's bit in a record's bitmap. -/
def recBit (s : Mach) (k stn : Nat) : Bool := bitAt (leNat (imgRead s (bankRec s k + 2048 + stn / 8) 1)) (stn % 8)
/-- Write the bitmap from a list of stations, and their count. -/
def setRecBits (s : Mach) (k : Nat) (l : List Nat) : Mach :=
  let byte (i : Nat) : Byte :=
    BitVec.ofNat 8 ((keysFrom 0 8).foldl (fun n j => n + (if l.contains (i * 8 + j) then 2 ^ j else 0)) 0)
  let s := imgWrite s (bankRec s k + 16) (leBytes 4 l.length)
  imgWrite s (bankRec s k + 2048) ((keysFrom 0 2048).map byte)

/-- The beat period in ns. -/
def period (s : Mach) : Nat := s.f BT_BEAT_PERIOD_period_10ns * 10
/-- The lead in ns. -/
def lead (s : Mach) : Nat := s.f BT_LEAD_lead_10ns * 10

/-- The offset of a beat phase from its strike (Table 02-6). -/
def phaseOff (s : Mach) (ph : Nat) : Nat :=
  match ph with
  | 1 => s.f BT_PHASE_INPUT_offset_10ns * 10
  | 2 => s.f BT_PHASE_COMPUTE_offset_10ns * 10
  | 3 => s.f BT_PHASE_OUTPUT_offset_10ns * 10
  | 4 => s.f SK_DECIDE_offset_10ns * 10
  | 5 => period s - lead s
  | _ => 0

/-- The number of the current beat. -/
def Mach.beatNum (s : Mach) : Nat := s.n BT_BEAT_NUM

end Sys2Proof.Machine
end

