-- ==== Sys2Proof/Machine/Fp.lean ====
section
/-!
DEFINITION. IEEE 754-2019 binary32 and binary64 as R233 to R239 use them: values are decoded to exact integers times
a power of two, the operation is exact, and one rounding gives the result and the flags.
-/
namespace Sys2Proof.Machine

/-- A binary format: precision and exponent width. -/
structure FpFmt where
  p : Nat
  ew : Nat
deriving DecidableEq, Repr

/-- binary32. -/
def fmt32 : FpFmt := ⟨24, 8⟩
/-- binary64. -/
def fmt64 : FpFmt := ⟨53, 11⟩

/-- A decoded operand: value of a finite number is (-1)^sign × m × 2^e. -/
inductive FpVal where
  | nan (signalling : Bool)
  | inf (sign : Bool)
  | fin (sign : Bool) (m : Nat) (e : Int)
deriving DecidableEq, Repr

/-- The exponent bias. -/
def FpFmt.bias (f : FpFmt) : Nat := 2 ^ (f.ew - 1) - 1
/-- The width of the format. -/
def FpFmt.width (f : FpFmt) : Nat := f.p + f.ew

/-- Decode a bit pattern. -/
def fpDecode (f : FpFmt) (x : Nat) : FpVal :=
  let frac := x % 2 ^ (f.p - 1)
  let ex := (x / 2 ^ (f.p - 1)) % 2 ^ f.ew
  let sg := bitAt x (f.width - 1)
  if ex = 2 ^ f.ew - 1 then
    if frac = 0 then .inf sg else .nan (!(bitAt frac (f.p - 2)))
  else if ex = 0 then .fin sg frac (2 - Int.ofNat f.bias - Int.ofNat f.p)
  else .fin sg (frac + 2 ^ (f.p - 1)) (1 + Int.ofNat ex - Int.ofNat f.bias - Int.ofNat f.p)

/-- The sticky flags of FCSR[7:3], as their register bits. -/
def flNV : Nat := 0x80
/-- Divide by zero. -/
def flDZ : Nat := 0x40
/-- Overflow. -/
def flOF : Nat := 0x20
/-- Underflow. -/
def flUF : Nat := 0x10
/-- Inexact. -/
def flNX : Nat := 0x08

/-- The canonical quiet NaN (R235). -/
def fpNan (f : FpFmt) : Nat := (2 ^ f.ew - 1) * 2 ^ (f.p - 1) + 2 ^ (f.p - 2)
/-- An infinity. -/
def fpInf (f : FpFmt) (sg : Bool) : Nat := b2n sg * 2 ^ (f.width - 1) + (2 ^ f.ew - 1) * 2 ^ (f.p - 1)
/-- A zero. -/
def fpZero (f : FpFmt) (sg : Bool) : Nat := b2n sg * 2 ^ (f.width - 1)
/-- The greatest finite number. -/
def fpMax (f : FpFmt) (sg : Bool) : Nat := fpInf f sg - 1

/-- FCSR[2:0]: values 5 to 7 act as 0 (R233). -/
def roundMode (fcsr : Nat) : Nat := if fcsr % 8 < 5 then fcsr % 8 else 0

/-- Whether rounding goes up in magnitude: mode, sign, odd, comparison of the discarded part with one half
(0 none, 1 below, 2 equal, 3 above). -/
def roundUp (rm : Nat) (sg odd : Bool) (part : Nat) : Bool :=
  match rm with
  | 1 => false
  | 2 => !sg && decide (part ≠ 0)
  | 3 => sg && decide (part ≠ 0)
  | 4 => decide (2 ≤ part)
  | _ => decide (part = 3) || (decide (part = 2) && odd)

/-- Divide m by 2^k: quotient and the class of the remainder (with sticky bits below it). -/
def shiftOut (m k : Nat) (sticky : Bool) : Nat × Nat :=
  let q := m / 2 ^ k
  let r := m % 2 ^ k
  let part :=
    if k = 0 then (if sticky then 1 else 0)
    else if 2 * r < 2 ^ k then (if r = 0 ∧ sticky = false then 0 else 1)
    else if 2 * r = 2 ^ k then (if sticky then 3 else 2)
    else 3
  (q, part)

/-- Round (-1)^sg × m × 2^e (m > 0; sticky: a little more) to a format: bits and flags. -/
def fpRound (f : FpFmt) (rm : Nat) (sg : Bool) (m : Nat) (e : Int) (sticky : Bool) : Nat × Nat :=
  let top : Int := Int.ofNat (Nat.log2 m) + e
  let emin : Int := 1 - Int.ofNat f.bias
  let p1 : Int := Int.ofNat f.p - 1
  let q : Int := if top - p1 < emin - p1 then emin - p1 else top - p1
  let sh := q - e
  let r := if sh ≤ 0 then (m * 2 ^ (-sh).toNat, if sticky then 1 else 0) else shiftOut m sh.toNat sticky
  let up := roundUp rm sg (decide (r.1 % 2 = 1)) r.2
  let m1 := if up then r.1 + 1 else r.1
  let c := decide (2 ^ f.p ≤ m1)
  let m2 := if c then m1 / 2 else m1
  let q2 := if c then q + 1 else q
  let inexact := decide (r.2 ≠ 0)
  -- tiny before rounding; the two ways IEEE allows differ only where an unbounded exponent would round up to 2^emin
  let qu := top - p1 - e
  let ru := if qu ≤ 0 then (m * 2 ^ (-qu).toNat, if sticky then 1 else 0) else shiftOut m qu.toNat sticky
  let mu := if roundUp rm sg (decide (ru.1 % 2 = 1)) ru.2 then ru.1 + 1 else ru.1
  let tiny :=
    if emin ≤ top then false
    else if top = emin - 1 ∧ mu = 2 ^ f.p then Config.tinyBeforeRounding
    else true
  if decide (2 ^ (f.p - 1) ≤ m2) && decide (Int.ofNat (2 ^ f.ew - 2) < q2 + p1 + Int.ofNat f.bias) then
    let big := rm = 0 ∨ rm = 4 ∨ (rm = 2 ∧ sg = false) ∨ (rm = 3 ∧ sg = true)
    (if big then fpInf f sg else fpMax f sg, flOF + flNX)
  else
    let ex := if m2 < 2 ^ (f.p - 1) then 0 else (q2 + p1 + Int.ofNat f.bias).toNat
    let fr := m2 % 2 ^ (f.p - 1)
    (b2n sg * 2 ^ (f.width - 1) + ex * 2 ^ (f.p - 1) + fr,
     (if inexact then flNX else 0) + (if inexact && tiny then flUF else 0))

/-- The signed integer of a sign and magnitude. -/
def sgnInt (sg : Bool) (m : Nat) : Int := if sg then -Int.ofNat m else Int.ofNat m

/-- Round an exact integer times a power of two; an exact zero has the sign given for it. -/
def fpRoundInt (f : FpFmt) (rm : Nat) (zeroSign : Bool) (v : Int) (e : Int) : Nat × Nat :=
  if v = 0 then (fpZero f zeroSign, 0) else fpRound f rm (decide (v < 0)) v.natAbs e false

/-- Whether a value is a signalling NaN. -/
def FpVal.snan : FpVal → Bool
  | .nan s => s
  | _ => false
/-- Whether a value is any NaN. -/
def FpVal.isNan : FpVal → Bool
  | .nan _ => true
  | _ => false

/-- The canonical NaN, with NV when the condition holds. -/
def nanResult (f : FpFmt) (nv : Bool) : Nat × Nat := (fpNan f, if nv then flNV else 0)

/-- Sum of two finite values, exact, then one rounding. -/
def finAdd (f : FpFmt) (rm : Nat) (s1 : Bool) (m1 : Nat) (e1 : Int) (s2 : Bool) (m2 : Nat) (e2 : Int) : Nat × Nat :=
  let e := if e1 < e2 then e1 else e2
  let v := sgnInt s1 (m1 * 2 ^ (e1 - e).toNat) + sgnInt s2 (m2 * 2 ^ (e2 - e).toNat)
  let zs := if s1 = s2 then s1 else decide (rm = 3)
  fpRoundInt f rm zs v e

/-- Addition of decoded values. -/
def fpAddV (f : FpFmt) (rm : Nat) (x y : FpVal) : Nat × Nat :=
  match x, y with
  | .nan a, .nan b => nanResult f (a || b)
  | .nan a, _ => nanResult f a
  | _, .nan b => nanResult f b
  | .inf a, .inf b => if a = b then (fpInf f a, 0) else nanResult f true
  | .inf a, _ => (fpInf f a, 0)
  | _, .inf b => (fpInf f b, 0)
  | .fin s1 m1 e1, .fin s2 m2 e2 => finAdd f rm s1 m1 e1 s2 m2 e2

/-- The negation of a decoded value. -/
def FpVal.neg : FpVal → FpVal
  | .nan s => .nan s
  | .inf s => .inf (!s)
  | .fin s m e => .fin (!s) m e

/-- FADD. -/
def fpAdd (f : FpFmt) (rm x y : Nat) : Nat × Nat := fpAddV f rm (fpDecode f x) (fpDecode f y)
/-- FSUB. -/
def fpSub (f : FpFmt) (rm x y : Nat) : Nat × Nat := fpAddV f rm (fpDecode f x) (fpDecode f y).neg

/-- FMUL. -/
def fpMul (f : FpFmt) (rm x y : Nat) : Nat × Nat :=
  match fpDecode f x, fpDecode f y with
  | .nan a, .nan b => nanResult f (a || b)
  | .nan a, _ => nanResult f a
  | _, .nan b => nanResult f b
  | .inf a, .inf b => (fpInf f (a != b), 0)
  | .inf a, .fin b m _ => if m = 0 then nanResult f true else (fpInf f (a != b), 0)
  | .fin a m _, .inf b => if m = 0 then nanResult f true else (fpInf f (a != b), 0)
  | .fin s1 m1 e1, .fin s2 m2 e2 => fpRoundInt f rm (s1 != s2) (sgnInt (s1 != s2) (m1 * m2)) (e1 + e2)

/-- FDIV. -/
def fpDiv (f : FpFmt) (rm x y : Nat) : Nat × Nat :=
  match fpDecode f x, fpDecode f y with
  | .nan a, .nan b => nanResult f (a || b)
  | .nan a, _ => nanResult f a
  | _, .nan b => nanResult f b
  | .inf _, .inf _ => nanResult f true
  | .inf a, .fin b _ _ => (fpInf f (a != b), 0)
  | .fin a _ _, .inf b => (fpZero f (a != b), 0)
  | .fin s1 m1 e1, .fin s2 m2 e2 =>
    let sg := s1 != s2
    if m2 = 0 then (if m1 = 0 then nanResult f true else (fpInf f sg, flDZ))
    else if m1 = 0 then (fpZero f sg, 0)
    else
      let k := 2 * f.p + 4
      let n := m1 * 2 ^ k
      fpRound f rm sg (n / m2) (e1 - e2 - Int.ofNat k) (decide (n % m2 ≠ 0))

/-- FSQRT. -/
def fpSqrt (f : FpFmt) (rm x : Nat) : Nat × Nat :=
  match fpDecode f x with
  | .nan a => nanResult f a
  | .inf sg => if sg then nanResult f true else (fpInf f false, 0)
  | .fin sg m e =>
    if m = 0 then (fpZero f sg, 0)
    else if sg then nanResult f true
    else
      let k := 2 * f.p + 4 + (if e % 2 = 0 then 0 else 1)
      let n := m * 2 ^ k
      let r := sqrtLoop 300 n (2 ^ (Nat.log2 n / 2 + 1))
      fpRound f rm false r ((e - Int.ofNat k) / 2) (decide (r * r ≠ n))

/-- d + a × b with one rounding (FMAC). Whether 0 × ∞ with a quiet NaN addend raises NV is the implementation's
choice in IEEE 754-2019. -/
def fpFma (f : FpFmt) (rm a b d : Nat) : Nat × Nat :=
  let x := fpDecode f a
  let y := fpDecode f b
  let z := fpDecode f d
  let badMul : Bool :=
    match x, y with
    | .inf _, .fin _ m _ => decide (m = 0)
    | .fin _ m _, .inf _ => decide (m = 0)
    | _, _ => false
  if x.isNan || y.isNan then nanResult f (x.snan || y.snan || z.snan)
  else if badMul then
    if z.isNan then nanResult f (z.snan || Config.fmaInvalidOnQuietNan) else nanResult f true
  else
    match x, y with
    | .fin s1 m1 e1, .fin s2 m2 e2 => fpAddV f rm (.fin (s1 != s2) (m1 * m2) (e1 + e2)) z
    | .inf s1, .inf s2 => fpAddV f rm (.inf (s1 != s2)) z
    | .inf s1, .fin s2 _ _ => fpAddV f rm (.inf (s1 != s2)) z
    | .fin s1 _ _, .inf s2 => fpAddV f rm (.inf (s1 != s2)) z
    | _, _ => nanResult f false

/-- Order of two numbers that are not NaN, as exact comparison: less, and equal. -/
def fpLtEq (x y : FpVal) : Bool × Bool :=
  match x, y with
  | .inf a, .inf b => (a && !b, a == b)
  | .inf a, .fin _ _ _ => (a, false)
  | .fin _ _ _, .inf b => (!b, false)
  | .fin s1 m1 e1, .fin s2 m2 e2 =>
    let e := if e1 < e2 then e1 else e2
    let u := sgnInt s1 (m1 * 2 ^ (e1 - e).toNat)
    let v := sgnInt s2 (m2 * 2 ^ (e2 - e).toNat)
    (decide (u < v), decide (u = v))
  | _, _ => (false, false)

/-- FEQ, quiet: result and flags. -/
def fpEq (f : FpFmt) (x y : Nat) : Nat × Nat :=
  let a := fpDecode f x
  let b := fpDecode f y
  if a.isNan || b.isNan then (0, if a.snan || b.snan then flNV else 0) else (b2n (fpLtEq a b).2, 0)
/-- FLT, signalling. -/
def fpLt (f : FpFmt) (x y : Nat) : Nat × Nat :=
  let a := fpDecode f x
  let b := fpDecode f y
  if a.isNan || b.isNan then (0, flNV) else (b2n (fpLtEq a b).1, 0)
/-- FLE, signalling. -/
def fpLe (f : FpFmt) (x y : Nat) : Nat × Nat :=
  let a := fpDecode f x
  let b := fpDecode f y
  if a.isNan || b.isNan then (0, flNV) else (b2n ((fpLtEq a b).1 || (fpLtEq a b).2), 0)

/-- minimumNumber (less = true) or maximumNumber: the number when exactly one operand is a NaN; -0 below +0. -/
def fpMinMax (f : FpFmt) (less : Bool) (x y : Nat) : Nat × Nat :=
  let a := fpDecode f x
  let b := fpDecode f y
  let nv := if a.snan || b.snan then flNV else 0
  if a.isNan && b.isNan then (fpNan f, nv)
  else if a.isNan then (y, nv)
  else if b.isNan then (x, nv)
  else
    let c := fpLtEq a b
    let xFirst := c.1 || (c.2 && bitAt x (f.width - 1))
    (if xFirst == less then x else y, 0)

/-- Sign injection: magnitude of x, sign sg. -/
def fpSign (f : FpFmt) (x : Nat) (sg : Bool) : Nat := x % 2 ^ (f.width - 1) + b2n sg * 2 ^ (f.width - 1)

/-- Round a decoded number to an integer: the integer, and whether it was inexact. -/
def fpToInt (rm : Nat) (sg : Bool) (m : Nat) (e : Int) : Int × Bool :=
  if 0 ≤ e then (sgnInt sg (m * 2 ^ e.toNat), false)
  else
    let r := shiftOut m (-e).toNat false
    let q := if roundUp rm sg (decide (r.1 % 2 = 1)) r.2 then r.1 + 1 else r.1
    (sgnInt sg q, decide (r.2 ≠ 0))

/-- R239: conversion of a decoded value to an integer type of w bits: the integer and the flags. -/
def fpConvInt (rm : Nat) (x : FpVal) (w : Nat) (isSigned : Bool) : Int × Nat :=
  let hi : Int := if isSigned then Int.ofNat (2 ^ (w - 1)) - 1 else Int.ofNat (2 ^ w) - 1
  let lo : Int := if isSigned then -Int.ofNat (2 ^ (w - 1)) else 0
  match x with
  | .nan _ => (hi, flNV)
  | .inf sg => (if sg then lo else hi, flNV)
  | .fin sg m e =>
    let r := fpToInt rm sg m e
    if r.1 < lo then (lo, flNV) else if hi < r.1 then (hi, flNV) else (r.1, if r.2 then flNX else 0)

/-- An integer to a format. -/
def fpFromInt (f : FpFmt) (rm : Nat) (v : Int) : Nat × Nat := fpRoundInt f rm false v 0

/-- One format to another. -/
def fpConv (src dst : FpFmt) (rm x : Nat) : Nat × Nat :=
  match fpDecode src x with
  | .nan s => nanResult dst s
  | .inf sg => (fpInf dst sg, 0)
  | .fin sg m e => if m = 0 then (fpZero dst sg, 0) else fpRound dst rm sg m e false

/-- Table 07-8: the one-hot class. -/
def fpClass (f : FpFmt) (x : Nat) : Nat :=
  let sub := decide ((x / 2 ^ (f.p - 1)) % 2 ^ f.ew = 0)
  match fpDecode f x with
  | .nan s => if s then 2 ^ 8 else 2 ^ 9
  | .inf s => if s then 2 ^ 0 else 2 ^ 7
  | .fin s m _ =>
    if m = 0 then (if s then 2 ^ 3 else 2 ^ 4)
    else if sub then (if s then 2 ^ 2 else 2 ^ 5)
    else (if s then 2 ^ 1 else 2 ^ 6)

end Sys2Proof.Machine
end

