-- ==== Sys2Proof/Machine/Encode.lean ====
section
/-!
DEFINITION. Instruction words (R224 to R227, R270 to R273): the fields of formats A, I, B, J, F and T, the word of each instruction, and
which instruction a word stands for. A word that no table defines, or with a field that is not used and not 0, stands for none.
-/
namespace Sys2Proof.Machine

/-- Format A (Table 07-1). -/
def fmtA (op d a b fn : Nat) : Nat := op * 2 ^ 26 + d * 2 ^ 21 + a * 2 ^ 16 + b * 2 ^ 11 + fn
/-- Format I. -/
def fmtI (op d a imm : Nat) : Nat := op * 2 ^ 26 + d * 2 ^ 21 + a * 2 ^ 16 + imm
/-- Format B. -/
def fmtB (op a b off : Nat) : Nat := op * 2 ^ 26 + a * 2 ^ 21 + b * 2 ^ 16 + off
/-- Format J. -/
def fmtJ (op off : Nat) : Nat := op * 2 ^ 26 + off
/-- Format F (Table 08-1). -/
def fmtF (op d a tc sz mode off8 : Nat) : Nat :=
  op * 2 ^ 26 + d * 2 ^ 21 + a * 2 ^ 16 + tc * 2 ^ 14 + sz * 2 ^ 11 + mode * 2 ^ 8 + off8
/-- Format T. -/
def fmtT (op s ph t18 : Nat) : Nat := op * 2 ^ 26 + s * 2 ^ 21 + ph * 2 ^ 18 + t18

/-- The word of an engine's instruction, by Tables 07-2 to 07-14 and 08-2 to 08-18; none for a command that is no instruction. -/
def instrWord : Instr → Option Nat
  | .add _ w d a b => some (fmtA 0x01 d a b (b2n w * 64))
  | .sub _ w d a b => some (fmtA 0x01 d a b (0x01 + b2n w * 64))
  | .and _ d a b => some (fmtA 0x01 d a b 0x02)
  | .or _ d a b => some (fmtA 0x01 d a b 0x03)
  | .xor _ d a b => some (fmtA 0x01 d a b 0x04)
  | .andn _ d a b => some (fmtA 0x01 d a b 0x05)
  | .orn _ d a b => some (fmtA 0x01 d a b 0x06)
  | .sll _ w d a b => some (fmtA 0x01 d a b (0x07 + b2n w * 64))
  | .srl _ w d a b => some (fmtA 0x01 d a b (0x08 + b2n w * 64))
  | .sra _ w d a b => some (fmtA 0x01 d a b (0x09 + b2n w * 64))
  | .rol _ w d a b => some (fmtA 0x01 d a b (0x0A + b2n w * 64))
  | .ror _ w d a b => some (fmtA 0x01 d a b (0x0B + b2n w * 64))
  | .slt _ d a b => some (fmtA 0x01 d a b 0x0C)
  | .sltu _ d a b => some (fmtA 0x01 d a b 0x0D)
  | .min _ d a b => some (fmtA 0x01 d a b 0x0E)
  | .max _ d a b => some (fmtA 0x01 d a b 0x0F)
  | .minu _ d a b => some (fmtA 0x01 d a b 0x10)
  | .maxu _ d a b => some (fmtA 0x01 d a b 0x11)
  | .clz _ w d a => some (fmtA 0x01 d a 0 (0x12 + b2n w * 64))
  | .ctz _ w d a => some (fmtA 0x01 d a 0 (0x13 + b2n w * 64))
  | .popc _ w d a => some (fmtA 0x01 d a 0 (0x14 + b2n w * 64))
  | .bswap _ w d a => some (fmtA 0x01 d a 0 (0x15 + b2n w * 64))
  | .sextb _ d a => some (fmtA 0x01 d a 0 0x16)
  | .sexth _ d a => some (fmtA 0x01 d a 0 0x17)
  | .addi _ d a imm => some (fmtI 0x08 d a imm.toNat)
  | .andi _ d a imm => some (fmtI 0x09 d a imm.toNat)
  | .ori _ d a imm => some (fmtI 0x0A d a imm.toNat)
  | .xori _ d a imm => some (fmtI 0x0B d a imm.toNat)
  | .slti _ d a imm => some (fmtI 0x0C d a imm.toNat)
  | .sltiu _ d a imm => some (fmtI 0x0D d a imm.toNat)
  | .shi _ d a imm => some (fmtI 0x0E d a imm.toNat)
  | .lsh _ d a imm => some (fmtI 0x0F d a imm.toNat)
  | .mul _ w d a b => some (fmtA 0x02 d a b (b2n w * 64))
  | .mulh _ d a b => some (fmtA 0x02 d a b 0x01)
  | .mulhu _ d a b => some (fmtA 0x02 d a b 0x02)
  | .mulhsu _ d a b => some (fmtA 0x02 d a b 0x03)
  | .div _ w d a b => some (fmtA 0x02 d a b (0x04 + b2n w * 64))
  | .divu _ w d a b => some (fmtA 0x02 d a b (0x05 + b2n w * 64))
  | .rem _ w d a b => some (fmtA 0x02 d a b (0x06 + b2n w * 64))
  | .remu _ w d a b => some (fmtA 0x02 d a b (0x07 + b2n w * 64))
  | .fadd _ dbl d a b => some (fmtA (0x03 + b2n dbl) d a b 0)
  | .fsub _ dbl d a b => some (fmtA (0x03 + b2n dbl) d a b 0x01)
  | .fmul _ dbl d a b => some (fmtA (0x03 + b2n dbl) d a b 0x02)
  | .fdiv _ dbl d a b => some (fmtA (0x03 + b2n dbl) d a b 0x03)
  | .fsqrt _ dbl d a => some (fmtA (0x03 + b2n dbl) d a 0 0x04)
  | .fmin _ dbl d a b => some (fmtA (0x03 + b2n dbl) d a b 0x05)
  | .fmax _ dbl d a b => some (fmtA (0x03 + b2n dbl) d a b 0x06)
  | .fmac _ dbl d a b => some (fmtA (0x03 + b2n dbl) d a b 0x07)
  | .fsgnj _ dbl d a b => some (fmtA (0x03 + b2n dbl) d a b 0x08)
  | .fsgnjn _ dbl d a b => some (fmtA (0x03 + b2n dbl) d a b 0x09)
  | .fsgnjx _ dbl d a b => some (fmtA (0x03 + b2n dbl) d a b 0x0A)
  | .feq _ dbl d a b => some (fmtA (0x03 + b2n dbl) d a b 0x0B)
  | .flt _ dbl d a b => some (fmtA (0x03 + b2n dbl) d a b 0x0C)
  | .fle _ dbl d a b => some (fmtA (0x03 + b2n dbl) d a b 0x0D)
  | .fcvtSD _ d a => some (fmtA 0x05 d a 0 0)
  | .fcvtDS _ d a => some (fmtA 0x05 d a 0 0x01)
  | .fcvtWS _ rz d a => some (fmtA 0x05 d a 0 (0x02 + b2n rz * 64))
  | .fcvtWuS _ rz d a => some (fmtA 0x05 d a 0 (0x03 + b2n rz * 64))
  | .fcvtLS _ rz d a => some (fmtA 0x05 d a 0 (0x04 + b2n rz * 64))
  | .fcvtLuS _ rz d a => some (fmtA 0x05 d a 0 (0x05 + b2n rz * 64))
  | .fcvtWD _ rz d a => some (fmtA 0x05 d a 0 (0x06 + b2n rz * 64))
  | .fcvtWuD _ rz d a => some (fmtA 0x05 d a 0 (0x07 + b2n rz * 64))
  | .fcvtLD _ rz d a => some (fmtA 0x05 d a 0 (0x08 + b2n rz * 64))
  | .fcvtLuD _ rz d a => some (fmtA 0x05 d a 0 (0x09 + b2n rz * 64))
  | .fcvtSW _ d a => some (fmtA 0x05 d a 0 0x0A)
  | .fcvtSWu _ d a => some (fmtA 0x05 d a 0 0x0B)
  | .fcvtSL _ d a => some (fmtA 0x05 d a 0 0x0C)
  | .fcvtSLu _ d a => some (fmtA 0x05 d a 0 0x0D)
  | .fcvtDW _ d a => some (fmtA 0x05 d a 0 0x0E)
  | .fcvtDWu _ d a => some (fmtA 0x05 d a 0 0x0F)
  | .fcvtDL _ d a => some (fmtA 0x05 d a 0 0x10)
  | .fcvtDLu _ d a => some (fmtA 0x05 d a 0 0x11)
  | .fclassS _ d a => some (fmtA 0x05 d a 0 0x12)
  | .fclassD _ d a => some (fmtA 0x05 d a 0 0x13)
  | .lb _ d a imm => some (fmtI 0x10 d a imm.toNat)
  | .lbu _ d a imm => some (fmtI 0x11 d a imm.toNat)
  | .lh _ d a imm => some (fmtI 0x12 d a imm.toNat)
  | .lhu _ d a imm => some (fmtI 0x13 d a imm.toNat)
  | .lw _ d a imm => some (fmtI 0x14 d a imm.toNat)
  | .lwu _ d a imm => some (fmtI 0x15 d a imm.toNat)
  | .ld _ d a imm => some (fmtI 0x16 d a imm.toNat)
  | .ldp _ d a imm => some (fmtI 0x17 d a imm.toNat)
  | .sb _ d a imm => some (fmtI 0x18 d a imm.toNat)
  | .sh _ d a imm => some (fmtI 0x19 d a imm.toNat)
  | .sw _ d a imm => some (fmtI 0x1A d a imm.toNat)
  | .sd _ d a imm => some (fmtI 0x1B d a imm.toNat)
  | .stp _ d a imm => some (fmtI 0x1C d a imm.toNat)
  | .lr _ d a w => some (fmtA 0x1D d a 0 (b2n w * 64))
  | .sc _ d b a w => some (fmtA 0x1D d a b (0x01 + b2n w * 64))
  | .amoswap _ d b a w => some (fmtA 0x1D d a b (0x02 + b2n w * 64))
  | .amoadd _ d b a w => some (fmtA 0x1D d a b (0x03 + b2n w * 64))
  | .amoand _ d b a w => some (fmtA 0x1D d a b (0x04 + b2n w * 64))
  | .amoor _ d b a w => some (fmtA 0x1D d a b (0x05 + b2n w * 64))
  | .amoxor _ d b a w => some (fmtA 0x1D d a b (0x06 + b2n w * 64))
  | .amomin _ d b a w => some (fmtA 0x1D d a b (0x07 + b2n w * 64))
  | .amomax _ d b a w => some (fmtA 0x1D d a b (0x08 + b2n w * 64))
  | .amominu _ d b a w => some (fmtA 0x1D d a b (0x09 + b2n w * 64))
  | .amomaxu _ d b a w => some (fmtA 0x1D d a b (0x0A + b2n w * 64))
  | .cas _ d b a w => some (fmtA 0x1D d a b (0x0B + b2n w * 64))
  | .beq _ a b off => some (fmtB 0x20 a b off.toNat)
  | .bne _ a b off => some (fmtB 0x21 a b off.toNat)
  | .blt _ a b off => some (fmtB 0x22 a b off.toNat)
  | .bge _ a b off => some (fmtB 0x23 a b off.toNat)
  | .bltu _ a b off => some (fmtB 0x24 a b off.toNat)
  | .bgeu _ a b off => some (fmtB 0x25 a b off.toNat)
  | .j _ off => some (fmtJ 0x26 off.toNat)
  | .jal _ off => some (fmtJ 0x27 off.toNat)
  | .jalr _ d a imm => some (fmtI 0x07 d a imm.toNat)
  | .barD _ d => some (fmtA 0x3F d 0 0 0x01)
  | .barA _ d => some (fmtA 0x3F d 0 0 0x02)
  | .barS _ d => some (fmtA 0x3F d 0 0 0x03)
  | .srd _ d sr => some (fmtA 0x3F d 0 sr 0x08)
  | .swr _ sr a => some (fmtA 0x3F 0 a sr 0x09)
  | .brk _ => some (fmtA 0x3F 0 0 0 0x10)
  | .eret _ => some (fmtA 0x3F 0 0 0 0x11)
  | .yield _ => some (fmtA 0x3F 0 0 0 0x12)
  | .halt _ => some (fmtA 0x3F 0 0 0 0x13)
  | .trap _ imm => some (fmtI 0x1F 0 0 imm.toNat)
  | .fld _ d a cls sz sw tm off => some (fmtF 0x28 d a cls sz (sw + b2n tm * 4) off.toNat)
  | .fst _ d a cls sz sw tm off => some (fmtF 0x29 d a cls sz (sw + b2n tm * 4) off.toNat)
  | .fstn _ d a cls sz sw tm off => some (fmtF 0x2A d a cls sz (sw + b2n tm * 4) off.toNat)
  | .gath _ d a cls sw tm n => some (fmtF 0x2C d a cls 0 (sw + b2n tm * 4) n.toNat)
  | .scat _ d a cls sw tm n => some (fmtF 0x2D d a cls 0 (sw + b2n tm * 4) n.toNat)
  | .imgcp _ d a outImg toImage => some (fmtF 0x2E d a 0 0 (b2n outImg + b2n toImage * 2) 0)
  | .ltset _ r ph t => some (fmtT 0x30 r ph t.toNat)
  | .waitph _ r ph t => some (fmtT 0x32 r ph t.toNat)
  | .ltabs _ r => some (fmtT 0x31 r 0 0)
  | .waitt _ r => some (fmtT 0x33 r 0 0)
  | .delta _ d a sz be cnt mode => some (fmtF 0x34 d a (b2n be) sz (mode + b2n cnt * 4) 0)
  | .japp _ d a => some (fmtF 0x35 d a 0 0 0 0)
  | .scale _ d a k sz rev sg s32 => some (fmtF 0x36 d a 0 sz (b2n rev + b2n sg * 2 + b2n s32 * 4) k.toNat)
  | .crc _ d a n mode => some (fmtF 0x37 d a 0 0 mode n.toNat)
  | .evpost _ d a target urgent => some (fmtF 0x38 d a (b2n urgent) 0 target 0)
  | .evwait _ d a t => some (fmtF 0x39 d a 0 0 0 t.toNat)
  | _ => none

/-- Opcode 0x01 by fn[5:0]. -/
def word01 (e : Fin 64) (w : Nat) : Option Instr :=
  let f (lo n : Nat) : Nat := w / 2 ^ lo % 2 ^ n
  let b (lo : Nat) : Bool := f lo 1 == 1
  let when (p : Bool) (i : Instr) : Option Instr := if p then some i else none
  match f 0 6 with
  | 0x00 => when (f 7 4 == 0) (.add e (b 6) (Fin.ofNat 32 (f 21 5)) (Fin.ofNat 32 (f 16 5)) (Fin.ofNat 32 (f 11 5)))
  | 0x01 => when (f 7 4 == 0) (.sub e (b 6) (Fin.ofNat 32 (f 21 5)) (Fin.ofNat 32 (f 16 5)) (Fin.ofNat 32 (f 11 5)))
  | 0x02 => when (f 6 5 == 0) (.and e (Fin.ofNat 32 (f 21 5)) (Fin.ofNat 32 (f 16 5)) (Fin.ofNat 32 (f 11 5)))
  | 0x03 => when (f 6 5 == 0) (.or e (Fin.ofNat 32 (f 21 5)) (Fin.ofNat 32 (f 16 5)) (Fin.ofNat 32 (f 11 5)))
  | 0x04 => when (f 6 5 == 0) (.xor e (Fin.ofNat 32 (f 21 5)) (Fin.ofNat 32 (f 16 5)) (Fin.ofNat 32 (f 11 5)))
  | 0x05 => when (f 6 5 == 0) (.andn e (Fin.ofNat 32 (f 21 5)) (Fin.ofNat 32 (f 16 5)) (Fin.ofNat 32 (f 11 5)))
  | 0x06 => when (f 6 5 == 0) (.orn e (Fin.ofNat 32 (f 21 5)) (Fin.ofNat 32 (f 16 5)) (Fin.ofNat 32 (f 11 5)))
  | 0x07 => when (f 7 4 == 0) (.sll e (b 6) (Fin.ofNat 32 (f 21 5)) (Fin.ofNat 32 (f 16 5)) (Fin.ofNat 32 (f 11 5)))
  | 0x08 => when (f 7 4 == 0) (.srl e (b 6) (Fin.ofNat 32 (f 21 5)) (Fin.ofNat 32 (f 16 5)) (Fin.ofNat 32 (f 11 5)))
  | 0x09 => when (f 7 4 == 0) (.sra e (b 6) (Fin.ofNat 32 (f 21 5)) (Fin.ofNat 32 (f 16 5)) (Fin.ofNat 32 (f 11 5)))
  | 0x0A => when (f 7 4 == 0) (.rol e (b 6) (Fin.ofNat 32 (f 21 5)) (Fin.ofNat 32 (f 16 5)) (Fin.ofNat 32 (f 11 5)))
  | 0x0B => when (f 7 4 == 0) (.ror e (b 6) (Fin.ofNat 32 (f 21 5)) (Fin.ofNat 32 (f 16 5)) (Fin.ofNat 32 (f 11 5)))
  | 0x0C => when (f 6 5 == 0) (.slt e (Fin.ofNat 32 (f 21 5)) (Fin.ofNat 32 (f 16 5)) (Fin.ofNat 32 (f 11 5)))
  | 0x0D => when (f 6 5 == 0) (.sltu e (Fin.ofNat 32 (f 21 5)) (Fin.ofNat 32 (f 16 5)) (Fin.ofNat 32 (f 11 5)))
  | 0x0E => when (f 6 5 == 0) (.min e (Fin.ofNat 32 (f 21 5)) (Fin.ofNat 32 (f 16 5)) (Fin.ofNat 32 (f 11 5)))
  | 0x0F => when (f 6 5 == 0) (.max e (Fin.ofNat 32 (f 21 5)) (Fin.ofNat 32 (f 16 5)) (Fin.ofNat 32 (f 11 5)))
  | 0x10 => when (f 6 5 == 0) (.minu e (Fin.ofNat 32 (f 21 5)) (Fin.ofNat 32 (f 16 5)) (Fin.ofNat 32 (f 11 5)))
  | 0x11 => when (f 6 5 == 0) (.maxu e (Fin.ofNat 32 (f 21 5)) (Fin.ofNat 32 (f 16 5)) (Fin.ofNat 32 (f 11 5)))
  | 0x12 => when (f 7 9 == 0) (.clz e (b 6) (Fin.ofNat 32 (f 21 5)) (Fin.ofNat 32 (f 16 5)))
  | 0x13 => when (f 7 9 == 0) (.ctz e (b 6) (Fin.ofNat 32 (f 21 5)) (Fin.ofNat 32 (f 16 5)))
  | 0x14 => when (f 7 9 == 0) (.popc e (b 6) (Fin.ofNat 32 (f 21 5)) (Fin.ofNat 32 (f 16 5)))
  | 0x15 => when (f 7 9 == 0) (.bswap e (b 6) (Fin.ofNat 32 (f 21 5)) (Fin.ofNat 32 (f 16 5)))
  | 0x16 => when (f 6 10 == 0) (.sextb e (Fin.ofNat 32 (f 21 5)) (Fin.ofNat 32 (f 16 5)))
  | 0x17 => when (f 6 10 == 0) (.sexth e (Fin.ofNat 32 (f 21 5)) (Fin.ofNat 32 (f 16 5)))
  | _ => none

/-- Opcode 0x02 by fn[5:0]. -/
def word02 (e : Fin 64) (w : Nat) : Option Instr :=
  let f (lo n : Nat) : Nat := w / 2 ^ lo % 2 ^ n
  let b (lo : Nat) : Bool := f lo 1 == 1
  let when (p : Bool) (i : Instr) : Option Instr := if p then some i else none
  match f 0 6 with
  | 0x00 => when (f 7 4 == 0) (.mul e (b 6) (Fin.ofNat 32 (f 21 5)) (Fin.ofNat 32 (f 16 5)) (Fin.ofNat 32 (f 11 5)))
  | 0x01 => when (f 6 5 == 0) (.mulh e (Fin.ofNat 32 (f 21 5)) (Fin.ofNat 32 (f 16 5)) (Fin.ofNat 32 (f 11 5)))
  | 0x02 => when (f 6 5 == 0) (.mulhu e (Fin.ofNat 32 (f 21 5)) (Fin.ofNat 32 (f 16 5)) (Fin.ofNat 32 (f 11 5)))
  | 0x03 => when (f 6 5 == 0) (.mulhsu e (Fin.ofNat 32 (f 21 5)) (Fin.ofNat 32 (f 16 5)) (Fin.ofNat 32 (f 11 5)))
  | 0x04 => when (f 7 4 == 0) (.div e (b 6) (Fin.ofNat 32 (f 21 5)) (Fin.ofNat 32 (f 16 5)) (Fin.ofNat 32 (f 11 5)))
  | 0x05 => when (f 7 4 == 0) (.divu e (b 6) (Fin.ofNat 32 (f 21 5)) (Fin.ofNat 32 (f 16 5)) (Fin.ofNat 32 (f 11 5)))
  | 0x06 => when (f 7 4 == 0) (.rem e (b 6) (Fin.ofNat 32 (f 21 5)) (Fin.ofNat 32 (f 16 5)) (Fin.ofNat 32 (f 11 5)))
  | 0x07 => when (f 7 4 == 0) (.remu e (b 6) (Fin.ofNat 32 (f 21 5)) (Fin.ofNat 32 (f 16 5)) (Fin.ofNat 32 (f 11 5)))
  | _ => none

/-- Opcodes 0x03 and 0x04 by fn[5:0]. -/
def word03 (e : Fin 64) (w : Nat) : Option Instr :=
  let f (lo n : Nat) : Nat := w / 2 ^ lo % 2 ^ n
  let when (p : Bool) (i : Instr) : Option Instr := if p then some i else none
  match f 0 6 with
  | 0x00 => when (f 6 5 == 0) (.fadd e (f 26 6 == 4) (Fin.ofNat 32 (f 21 5)) (Fin.ofNat 32 (f 16 5)) (Fin.ofNat 32 (f 11 5)))
  | 0x01 => when (f 6 5 == 0) (.fsub e (f 26 6 == 4) (Fin.ofNat 32 (f 21 5)) (Fin.ofNat 32 (f 16 5)) (Fin.ofNat 32 (f 11 5)))
  | 0x02 => when (f 6 5 == 0) (.fmul e (f 26 6 == 4) (Fin.ofNat 32 (f 21 5)) (Fin.ofNat 32 (f 16 5)) (Fin.ofNat 32 (f 11 5)))
  | 0x03 => when (f 6 5 == 0) (.fdiv e (f 26 6 == 4) (Fin.ofNat 32 (f 21 5)) (Fin.ofNat 32 (f 16 5)) (Fin.ofNat 32 (f 11 5)))
  | 0x04 => when (f 6 10 == 0) (.fsqrt e (f 26 6 == 4) (Fin.ofNat 32 (f 21 5)) (Fin.ofNat 32 (f 16 5)))
  | 0x05 => when (f 6 5 == 0) (.fmin e (f 26 6 == 4) (Fin.ofNat 32 (f 21 5)) (Fin.ofNat 32 (f 16 5)) (Fin.ofNat 32 (f 11 5)))
  | 0x06 => when (f 6 5 == 0) (.fmax e (f 26 6 == 4) (Fin.ofNat 32 (f 21 5)) (Fin.ofNat 32 (f 16 5)) (Fin.ofNat 32 (f 11 5)))
  | 0x07 => when (f 6 5 == 0) (.fmac e (f 26 6 == 4) (Fin.ofNat 32 (f 21 5)) (Fin.ofNat 32 (f 16 5)) (Fin.ofNat 32 (f 11 5)))
  | 0x08 => when (f 6 5 == 0) (.fsgnj e (f 26 6 == 4) (Fin.ofNat 32 (f 21 5)) (Fin.ofNat 32 (f 16 5)) (Fin.ofNat 32 (f 11 5)))
  | 0x09 => when (f 6 5 == 0) (.fsgnjn e (f 26 6 == 4) (Fin.ofNat 32 (f 21 5)) (Fin.ofNat 32 (f 16 5)) (Fin.ofNat 32 (f 11 5)))
  | 0x0A => when (f 6 5 == 0) (.fsgnjx e (f 26 6 == 4) (Fin.ofNat 32 (f 21 5)) (Fin.ofNat 32 (f 16 5)) (Fin.ofNat 32 (f 11 5)))
  | 0x0B => when (f 6 5 == 0) (.feq e (f 26 6 == 4) (Fin.ofNat 32 (f 21 5)) (Fin.ofNat 32 (f 16 5)) (Fin.ofNat 32 (f 11 5)))
  | 0x0C => when (f 6 5 == 0) (.flt e (f 26 6 == 4) (Fin.ofNat 32 (f 21 5)) (Fin.ofNat 32 (f 16 5)) (Fin.ofNat 32 (f 11 5)))
  | 0x0D => when (f 6 5 == 0) (.fle e (f 26 6 == 4) (Fin.ofNat 32 (f 21 5)) (Fin.ofNat 32 (f 16 5)) (Fin.ofNat 32 (f 11 5)))
  | _ => none

/-- Opcode 0x05 by fn[5:0]. -/
def word05 (e : Fin 64) (w : Nat) : Option Instr :=
  let f (lo n : Nat) : Nat := w / 2 ^ lo % 2 ^ n
  let b (lo : Nat) : Bool := f lo 1 == 1
  let when (p : Bool) (i : Instr) : Option Instr := if p then some i else none
  match f 0 6 with
  | 0x00 => when (f 6 10 == 0) (.fcvtSD e (Fin.ofNat 32 (f 21 5)) (Fin.ofNat 32 (f 16 5)))
  | 0x01 => when (f 6 10 == 0) (.fcvtDS e (Fin.ofNat 32 (f 21 5)) (Fin.ofNat 32 (f 16 5)))
  | 0x02 => when (f 7 9 == 0) (.fcvtWS e (b 6) (Fin.ofNat 32 (f 21 5)) (Fin.ofNat 32 (f 16 5)))
  | 0x03 => when (f 7 9 == 0) (.fcvtWuS e (b 6) (Fin.ofNat 32 (f 21 5)) (Fin.ofNat 32 (f 16 5)))
  | 0x04 => when (f 7 9 == 0) (.fcvtLS e (b 6) (Fin.ofNat 32 (f 21 5)) (Fin.ofNat 32 (f 16 5)))
  | 0x05 => when (f 7 9 == 0) (.fcvtLuS e (b 6) (Fin.ofNat 32 (f 21 5)) (Fin.ofNat 32 (f 16 5)))
  | 0x06 => when (f 7 9 == 0) (.fcvtWD e (b 6) (Fin.ofNat 32 (f 21 5)) (Fin.ofNat 32 (f 16 5)))
  | 0x07 => when (f 7 9 == 0) (.fcvtWuD e (b 6) (Fin.ofNat 32 (f 21 5)) (Fin.ofNat 32 (f 16 5)))
  | 0x08 => when (f 7 9 == 0) (.fcvtLD e (b 6) (Fin.ofNat 32 (f 21 5)) (Fin.ofNat 32 (f 16 5)))
  | 0x09 => when (f 7 9 == 0) (.fcvtLuD e (b 6) (Fin.ofNat 32 (f 21 5)) (Fin.ofNat 32 (f 16 5)))
  | 0x0A => when (f 6 10 == 0) (.fcvtSW e (Fin.ofNat 32 (f 21 5)) (Fin.ofNat 32 (f 16 5)))
  | 0x0B => when (f 6 10 == 0) (.fcvtSWu e (Fin.ofNat 32 (f 21 5)) (Fin.ofNat 32 (f 16 5)))
  | 0x0C => when (f 6 10 == 0) (.fcvtSL e (Fin.ofNat 32 (f 21 5)) (Fin.ofNat 32 (f 16 5)))
  | 0x0D => when (f 6 10 == 0) (.fcvtSLu e (Fin.ofNat 32 (f 21 5)) (Fin.ofNat 32 (f 16 5)))
  | 0x0E => when (f 6 10 == 0) (.fcvtDW e (Fin.ofNat 32 (f 21 5)) (Fin.ofNat 32 (f 16 5)))
  | 0x0F => when (f 6 10 == 0) (.fcvtDWu e (Fin.ofNat 32 (f 21 5)) (Fin.ofNat 32 (f 16 5)))
  | 0x10 => when (f 6 10 == 0) (.fcvtDL e (Fin.ofNat 32 (f 21 5)) (Fin.ofNat 32 (f 16 5)))
  | 0x11 => when (f 6 10 == 0) (.fcvtDLu e (Fin.ofNat 32 (f 21 5)) (Fin.ofNat 32 (f 16 5)))
  | 0x12 => when (f 6 10 == 0) (.fclassS e (Fin.ofNat 32 (f 21 5)) (Fin.ofNat 32 (f 16 5)))
  | 0x13 => when (f 6 10 == 0) (.fclassD e (Fin.ofNat 32 (f 21 5)) (Fin.ofNat 32 (f 16 5)))
  | _ => none

/-- Opcode 0x1D by fn[5:0]. -/
def word1D (e : Fin 64) (w : Nat) : Option Instr :=
  let f (lo n : Nat) : Nat := w / 2 ^ lo % 2 ^ n
  let b (lo : Nat) : Bool := f lo 1 == 1
  let when (p : Bool) (i : Instr) : Option Instr := if p then some i else none
  match f 0 6 with
  | 0x00 => when (f 7 9 == 0) (.lr e (Fin.ofNat 32 (f 21 5)) (Fin.ofNat 32 (f 16 5)) (b 6))
  | 0x01 => when (f 7 4 == 0) (.sc e (Fin.ofNat 32 (f 21 5)) (Fin.ofNat 32 (f 11 5)) (Fin.ofNat 32 (f 16 5)) (b 6))
  | 0x02 => when (f 7 4 == 0) (.amoswap e (Fin.ofNat 32 (f 21 5)) (Fin.ofNat 32 (f 11 5)) (Fin.ofNat 32 (f 16 5)) (b 6))
  | 0x03 => when (f 7 4 == 0) (.amoadd e (Fin.ofNat 32 (f 21 5)) (Fin.ofNat 32 (f 11 5)) (Fin.ofNat 32 (f 16 5)) (b 6))
  | 0x04 => when (f 7 4 == 0) (.amoand e (Fin.ofNat 32 (f 21 5)) (Fin.ofNat 32 (f 11 5)) (Fin.ofNat 32 (f 16 5)) (b 6))
  | 0x05 => when (f 7 4 == 0) (.amoor e (Fin.ofNat 32 (f 21 5)) (Fin.ofNat 32 (f 11 5)) (Fin.ofNat 32 (f 16 5)) (b 6))
  | 0x06 => when (f 7 4 == 0) (.amoxor e (Fin.ofNat 32 (f 21 5)) (Fin.ofNat 32 (f 11 5)) (Fin.ofNat 32 (f 16 5)) (b 6))
  | 0x07 => when (f 7 4 == 0) (.amomin e (Fin.ofNat 32 (f 21 5)) (Fin.ofNat 32 (f 11 5)) (Fin.ofNat 32 (f 16 5)) (b 6))
  | 0x08 => when (f 7 4 == 0) (.amomax e (Fin.ofNat 32 (f 21 5)) (Fin.ofNat 32 (f 11 5)) (Fin.ofNat 32 (f 16 5)) (b 6))
  | 0x09 => when (f 7 4 == 0) (.amominu e (Fin.ofNat 32 (f 21 5)) (Fin.ofNat 32 (f 11 5)) (Fin.ofNat 32 (f 16 5)) (b 6))
  | 0x0A => when (f 7 4 == 0) (.amomaxu e (Fin.ofNat 32 (f 21 5)) (Fin.ofNat 32 (f 11 5)) (Fin.ofNat 32 (f 16 5)) (b 6))
  | 0x0B => when (f 7 4 == 0) (.cas e (Fin.ofNat 32 (f 21 5)) (Fin.ofNat 32 (f 11 5)) (Fin.ofNat 32 (f 16 5)) (b 6))
  | _ => none

/-- Opcode 0x3F by fn[5:0]. -/
def word3F (e : Fin 64) (w : Nat) : Option Instr :=
  let f (lo n : Nat) : Nat := w / 2 ^ lo % 2 ^ n
  let when (p : Bool) (i : Instr) : Option Instr := if p then some i else none
  match f 0 6 with
  | 0x01 => when (f 6 15 == 0) (.barD e (Fin.ofNat 32 (f 21 5)))
  | 0x02 => when (f 6 15 == 0) (.barA e (Fin.ofNat 32 (f 21 5)))
  | 0x03 => when (f 6 15 == 0) (.barS e (Fin.ofNat 32 (f 21 5)))
  | 0x08 => when (f 6 5 == 0 && f 16 5 == 0) (.srd e (Fin.ofNat 32 (f 21 5)) (Fin.ofNat 32 (f 11 5)))
  | 0x09 => when (f 6 5 == 0 && f 21 5 == 0) (.swr e (Fin.ofNat 32 (f 11 5)) (Fin.ofNat 32 (f 16 5)))
  | 0x10 => when (f 6 20 == 0) (.brk e)
  | 0x11 => when (f 6 20 == 0) (.eret e)
  | 0x12 => when (f 6 20 == 0) (.yield e)
  | 0x13 => when (f 6 20 == 0) (.halt e)
  | _ => none

/-- The instruction of engine e that a word stands for (R224 to R227, R273); none for an illegal word. -/
def decodeWord (e : Fin 64) (w : Nat) : Option Instr :=
  let f (lo n : Nat) : Nat := w / 2 ^ lo % 2 ^ n
  let b (lo : Nat) : Bool := f lo 1 == 1
  let when (p : Bool) (i : Instr) : Option Instr := if p then some i else none
  match f 26 6 with
  | 0x01 => word01 e w
  | 0x02 => word02 e w
  | 0x03 => word03 e w
  | 0x04 => word03 e w
  | 0x05 => word05 e w
  | 0x07 => some (.jalr e (Fin.ofNat 32 (f 21 5)) (Fin.ofNat 32 (f 16 5)) (BitVec.ofNat 16 w))
  | 0x08 => some (.addi e (Fin.ofNat 32 (f 21 5)) (Fin.ofNat 32 (f 16 5)) (BitVec.ofNat 16 w))
  | 0x09 => some (.andi e (Fin.ofNat 32 (f 21 5)) (Fin.ofNat 32 (f 16 5)) (BitVec.ofNat 16 w))
  | 0x0A => some (.ori e (Fin.ofNat 32 (f 21 5)) (Fin.ofNat 32 (f 16 5)) (BitVec.ofNat 16 w))
  | 0x0B => some (.xori e (Fin.ofNat 32 (f 21 5)) (Fin.ofNat 32 (f 16 5)) (BitVec.ofNat 16 w))
  | 0x0C => some (.slti e (Fin.ofNat 32 (f 21 5)) (Fin.ofNat 32 (f 16 5)) (BitVec.ofNat 16 w))
  | 0x0D => some (.sltiu e (Fin.ofNat 32 (f 21 5)) (Fin.ofNat 32 (f 16 5)) (BitVec.ofNat 16 w))
  | 0x0E => some (.shi e (Fin.ofNat 32 (f 21 5)) (Fin.ofNat 32 (f 16 5)) (BitVec.ofNat 16 w))
  | 0x0F => some (.lsh e (Fin.ofNat 32 (f 21 5)) (Fin.ofNat 32 (f 16 5)) (BitVec.ofNat 16 w))
  | 0x10 => some (.lb e (Fin.ofNat 32 (f 21 5)) (Fin.ofNat 32 (f 16 5)) (BitVec.ofNat 16 w))
  | 0x11 => some (.lbu e (Fin.ofNat 32 (f 21 5)) (Fin.ofNat 32 (f 16 5)) (BitVec.ofNat 16 w))
  | 0x12 => some (.lh e (Fin.ofNat 32 (f 21 5)) (Fin.ofNat 32 (f 16 5)) (BitVec.ofNat 16 w))
  | 0x13 => some (.lhu e (Fin.ofNat 32 (f 21 5)) (Fin.ofNat 32 (f 16 5)) (BitVec.ofNat 16 w))
  | 0x14 => some (.lw e (Fin.ofNat 32 (f 21 5)) (Fin.ofNat 32 (f 16 5)) (BitVec.ofNat 16 w))
  | 0x15 => some (.lwu e (Fin.ofNat 32 (f 21 5)) (Fin.ofNat 32 (f 16 5)) (BitVec.ofNat 16 w))
  | 0x16 => some (.ld e (Fin.ofNat 32 (f 21 5)) (Fin.ofNat 32 (f 16 5)) (BitVec.ofNat 16 w))
  | 0x17 => some (.ldp e (Fin.ofNat 32 (f 21 5)) (Fin.ofNat 32 (f 16 5)) (BitVec.ofNat 16 w))
  | 0x18 => some (.sb e (Fin.ofNat 32 (f 21 5)) (Fin.ofNat 32 (f 16 5)) (BitVec.ofNat 16 w))
  | 0x19 => some (.sh e (Fin.ofNat 32 (f 21 5)) (Fin.ofNat 32 (f 16 5)) (BitVec.ofNat 16 w))
  | 0x1A => some (.sw e (Fin.ofNat 32 (f 21 5)) (Fin.ofNat 32 (f 16 5)) (BitVec.ofNat 16 w))
  | 0x1B => some (.sd e (Fin.ofNat 32 (f 21 5)) (Fin.ofNat 32 (f 16 5)) (BitVec.ofNat 16 w))
  | 0x1C => some (.stp e (Fin.ofNat 32 (f 21 5)) (Fin.ofNat 32 (f 16 5)) (BitVec.ofNat 16 w))
  | 0x1D => word1D e w
  | 0x1F => when (f 16 10 == 0) (.trap e (BitVec.ofNat 16 w))
  | 0x20 => some (.beq e (Fin.ofNat 32 (f 21 5)) (Fin.ofNat 32 (f 16 5)) (BitVec.ofNat 16 w))
  | 0x21 => some (.bne e (Fin.ofNat 32 (f 21 5)) (Fin.ofNat 32 (f 16 5)) (BitVec.ofNat 16 w))
  | 0x22 => some (.blt e (Fin.ofNat 32 (f 21 5)) (Fin.ofNat 32 (f 16 5)) (BitVec.ofNat 16 w))
  | 0x23 => some (.bge e (Fin.ofNat 32 (f 21 5)) (Fin.ofNat 32 (f 16 5)) (BitVec.ofNat 16 w))
  | 0x24 => some (.bltu e (Fin.ofNat 32 (f 21 5)) (Fin.ofNat 32 (f 16 5)) (BitVec.ofNat 16 w))
  | 0x25 => some (.bgeu e (Fin.ofNat 32 (f 21 5)) (Fin.ofNat 32 (f 16 5)) (BitVec.ofNat 16 w))
  | 0x26 => some (.j e (BitVec.ofNat 26 w))
  | 0x27 => some (.jal e (BitVec.ofNat 26 w))
  | 0x28 => some (.fld e (Fin.ofNat 32 (f 21 5)) (Fin.ofNat 32 (f 16 5)) (Fin.ofNat 4 (f 14 2)) (Fin.ofNat 8 (f 11 3)) (Fin.ofNat 4 (f 8 2)) (b 10) (BitVec.ofNat 8 w))
  | 0x29 => some (.fst e (Fin.ofNat 32 (f 21 5)) (Fin.ofNat 32 (f 16 5)) (Fin.ofNat 4 (f 14 2)) (Fin.ofNat 8 (f 11 3)) (Fin.ofNat 4 (f 8 2)) (b 10) (BitVec.ofNat 8 w))
  | 0x2A => some (.fstn e (Fin.ofNat 32 (f 21 5)) (Fin.ofNat 32 (f 16 5)) (Fin.ofNat 4 (f 14 2)) (Fin.ofNat 8 (f 11 3)) (Fin.ofNat 4 (f 8 2)) (b 10) (BitVec.ofNat 8 w))
  | 0x2C => when (f 11 3 == 0) (.gath e (Fin.ofNat 32 (f 21 5)) (Fin.ofNat 32 (f 16 5)) (Fin.ofNat 4 (f 14 2)) (Fin.ofNat 4 (f 8 2)) (b 10) (BitVec.ofNat 8 w))
  | 0x2D => when (f 11 3 == 0) (.scat e (Fin.ofNat 32 (f 21 5)) (Fin.ofNat 32 (f 16 5)) (Fin.ofNat 4 (f 14 2)) (Fin.ofNat 4 (f 8 2)) (b 10) (BitVec.ofNat 8 w))
  | 0x2E => when (f 0 8 == 0 && f 10 6 == 0) (.imgcp e (Fin.ofNat 32 (f 21 5)) (Fin.ofNat 32 (f 16 5)) (b 8) (b 9))
  | 0x30 => some (.ltset e (Fin.ofNat 32 (f 21 5)) (Fin.ofNat 8 (f 18 3)) (BitVec.ofNat 18 w))
  | 0x31 => when (f 0 21 == 0) (.ltabs e (Fin.ofNat 32 (f 21 5)))
  | 0x32 => some (.waitph e (Fin.ofNat 32 (f 21 5)) (Fin.ofNat 8 (f 18 3)) (BitVec.ofNat 18 w))
  | 0x33 => when (f 0 21 == 0) (.waitt e (Fin.ofNat 32 (f 21 5)))
  | 0x34 => when (f 0 8 == 0 && f 15 1 == 0) (.delta e (Fin.ofNat 32 (f 21 5)) (Fin.ofNat 32 (f 16 5)) (Fin.ofNat 8 (f 11 3)) (b 14) (b 10) (Fin.ofNat 4 (f 8 2)))
  | 0x35 => when (f 0 16 == 0) (.japp e (Fin.ofNat 32 (f 21 5)) (Fin.ofNat 32 (f 16 5)))
  | 0x36 => when (f 14 2 == 0) (.scale e (Fin.ofNat 32 (f 21 5)) (Fin.ofNat 32 (f 16 5)) (BitVec.ofNat 8 w) (Fin.ofNat 8 (f 11 3)) (b 8) (b 9) (b 10))
  | 0x37 => when (f 11 5 == 0) (.crc e (Fin.ofNat 32 (f 21 5)) (Fin.ofNat 32 (f 16 5)) (BitVec.ofNat 8 w) (Fin.ofNat 8 (f 8 3)))
  | 0x38 => when (f 0 8 == 0 && f 10 4 == 0 && f 15 1 == 0) (.evpost e (Fin.ofNat 32 (f 21 5)) (Fin.ofNat 32 (f 16 5)) (Fin.ofNat 4 (f 8 2)) (b 14))
  | 0x39 => when (f 8 8 == 0) (.evwait e (Fin.ofNat 32 (f 21 5)) (Fin.ofNat 32 (f 16 5)) (BitVec.ofNat 8 w))
  | 0x3F => word3F e w
  | _ => none

/-! ### What an engine fetches -/

/-- The word at an engine's pc in its instruction SRAM (R191, R224). -/
def fetchWord (s : Mach) (e : Nat) : Nat := leNat (mapRange memReset s.isram (isrKey e (s.eng e).arch.pc) 4)

/-- The instruction is the one at the pc of engine e. -/
def fetches (s : Mach) (e : Nat) (i : Instr) : Bool := instrWord i == some (fetchWord s e)

end Sys2Proof.Machine
end

