-- ==== Sys2Proof/Machine/IsaAlu.lean ====
section
/-!
DEFINITION. Integer operations of the core instruction set (Table 07-3, Table 07-4, Table 07-5): a value function for
each, and one shared step that issues, writes d and retires.
-/
namespace Sys2Proof.Machine

/-- A meaning that changes the module and nothing else. -/
def onM (h : Mach → Mach) (s : State) : Host.Outcome State Fault Refusal := .next { s with m := h s.m }

/-- An engine's instruction: it acts when it is the one that the engine fetches at its pc (R224); otherwise nothing happens. -/
def onI (i : Instr) (e : Nat) (h : Mach → Mach) : State → Host.Outcome State Fault Refusal :=
  onM (fun s => if fetches s e i then h s else s)

/-- Engine e issues an instruction that reads `srcs`, computes v, writes d and retires (R228). An engine that cannot
issue it now waits (R214, R223). -/
def regStep (e d : Nat) (srcs : List Nat) (v : Engine → U64) (s : Mach) : Mach :=
  let x := s.eng e
  if x.canIssue (d :: srcs) then retireEng s e (x.retireD d (v x)) else stall s e

/-- The low 32 bits, sign-extended. -/
def w32 (v : BitVec 32) : U64 := v.signExtend 64

/-- The w form of a 64-bit and a 32-bit operation (fn[6], R228). -/
def wForm (w : Bool) (f : U64 → U64 → U64) (g : BitVec 32 → BitVec 32 → BitVec 32) (a b : U64) : U64 :=
  if w then w32 (g (a.setWidth 32) (b.setWidth 32)) else f a b

/-- A truth value as 0 or 1. -/
def flag64 (p : Bool) : U64 := if p then 1 else 0

/-- ADD. -/
def aluAdd (w : Bool) : U64 → U64 → U64 := wForm w (· + ·) (· + ·)
/-- SUB. -/
def aluSub (w : Bool) : U64 → U64 → U64 := wForm w (· - ·) (· - ·)
/-- AND. -/
def aluAnd (a b : U64) : U64 := a &&& b
/-- OR. -/
def aluOr (a b : U64) : U64 := a ||| b
/-- XOR. -/
def aluXor (a b : U64) : U64 := a ^^^ b
/-- ANDN. -/
def aluAndn (a b : U64) : U64 := a &&& ~~~b
/-- ORN. -/
def aluOrn (a b : U64) : U64 := a ||| ~~~b
/-- SLL. -/
def aluSll (w : Bool) : U64 → U64 → U64 :=
  wForm w (fun a b => a <<< (b.toNat % 64)) (fun a b => a <<< (b.toNat % 32))
/-- SRL. -/
def aluSrl (w : Bool) : U64 → U64 → U64 :=
  wForm w (fun a b => a >>> (b.toNat % 64)) (fun a b => a >>> (b.toNat % 32))
/-- SRA. -/
def aluSra (w : Bool) : U64 → U64 → U64 :=
  wForm w (fun a b => a.sshiftRight (b.toNat % 64)) (fun a b => a.sshiftRight (b.toNat % 32))
/-- ROL. -/
def aluRol (w : Bool) : U64 → U64 → U64 :=
  wForm w (fun a b => a.rotateLeft (b.toNat % 64)) (fun a b => a.rotateLeft (b.toNat % 32))
/-- ROR. -/
def aluRor (w : Bool) : U64 → U64 → U64 :=
  wForm w (fun a b => a.rotateRight (b.toNat % 64)) (fun a b => a.rotateRight (b.toNat % 32))
/-- SLT. -/
def aluSlt (a b : U64) : U64 := flag64 (a.slt b)
/-- SLTU. -/
def aluSltu (a b : U64) : U64 := flag64 (a.ult b)
/-- MIN. -/
def aluMin (a b : U64) : U64 := if b.slt a then b else a
/-- MAX. -/
def aluMax (a b : U64) : U64 := if a.slt b then b else a
/-- MINU. -/
def aluMinu (a b : U64) : U64 := if b.ult a then b else a
/-- MAXU. -/
def aluMaxu (a b : U64) : U64 := if a.ult b then b else a

/-- Leading zeros of the low w bits of a number. -/
def clzNat (w x : Nat) : Nat := if x = 0 then w else w - 1 - Nat.log2 x
/-- Trailing zeros, looking at w bits from bit i. -/
def ctzLoop : Nat → Nat → Nat
  | 0, _ => 0
  | w + 1, x => if x % 2 = 1 then 0 else 1 + ctzLoop w (x / 2)
/-- One bits among the low w bits. -/
def popLoop : Nat → Nat → Nat
  | 0, _ => 0
  | w + 1, x => x % 2 + popLoop w (x / 2)

/-- The operand width of a w or full form, and the operand at that width. -/
def wWidth (w : Bool) : Nat := if w then 32 else 64
/-- The operand at the width of the form. -/
def wNat (w : Bool) (a : U64) : Nat := a.toNat % 2 ^ wWidth w
/-- CLZ. -/
def aluClz (w : Bool) (a : U64) : U64 := BitVec.ofNat 64 (clzNat (wWidth w) (wNat w a))
/-- CTZ. -/
def aluCtz (w : Bool) (a : U64) : U64 := BitVec.ofNat 64 (ctzLoop (wWidth w) (wNat w a))
/-- POPC. -/
def aluPopc (w : Bool) (a : U64) : U64 := BitVec.ofNat 64 (popLoop (wWidth w) (wNat w a))
/-- BSWAP: the 8 bytes reversed; w: the low 4, the 32-bit result sign-extended (R228). -/
def aluBswap (w : Bool) (a : U64) : U64 :=
  if w then w32 (BitVec.ofNat 32 (beNat (leBytes 4 a.toNat))) else BitVec.ofNat 64 (beNat (leBytes 8 a.toNat))
/-- SEXTB. -/
def aluSextb (a : U64) : U64 := sext64 8 a.toNat
/-- SEXTH. -/
def aluSexth (a : U64) : U64 := sext64 16 a.toNat

/-- ADD: d = a + b, modulo 2^64 or, in the w form, 32 bits sign-extended (Table 07-3). -/
def execAdd (e : Fin 64) (w : Bool) (d a b : Fin 32) : State → Host.Outcome State Fault Refusal :=
  onI (.add e w d a b) e (regStep e d [a, b] (fun x => aluAdd w (x.get a) (x.get b)))
/-- SUB: d = a − b (Table 07-3). -/
def execSub (e : Fin 64) (w : Bool) (d a b : Fin 32) : State → Host.Outcome State Fault Refusal :=
  onI (.sub e w d a b) e (regStep e d [a, b] (fun x => aluSub w (x.get a) (x.get b)))
/-- AND: d = a AND b (Table 07-3). -/
def execAnd (e : Fin 64) (d a b : Fin 32) : State → Host.Outcome State Fault Refusal :=
  onI (.and e d a b) e (regStep e d [a, b] (fun x => aluAnd (x.get a) (x.get b)))
/-- OR: d = a OR b (Table 07-3). -/
def execOr (e : Fin 64) (d a b : Fin 32) : State → Host.Outcome State Fault Refusal :=
  onI (.or e d a b) e (regStep e d [a, b] (fun x => aluOr (x.get a) (x.get b)))
/-- XOR: d = a XOR b (Table 07-3). -/
def execXor (e : Fin 64) (d a b : Fin 32) : State → Host.Outcome State Fault Refusal :=
  onI (.xor e d a b) e (regStep e d [a, b] (fun x => aluXor (x.get a) (x.get b)))
/-- ANDN: d = a AND NOT b (Table 07-3). -/
def execAndn (e : Fin 64) (d a b : Fin 32) : State → Host.Outcome State Fault Refusal :=
  onI (.andn e d a b) e (regStep e d [a, b] (fun x => aluAndn (x.get a) (x.get b)))
/-- ORN: d = a OR NOT b (Table 07-3). -/
def execOrn (e : Fin 64) (d a b : Fin 32) : State → Host.Outcome State Fault Refusal :=
  onI (.orn e d a b) e (regStep e d [a, b] (fun x => aluOrn (x.get a) (x.get b)))
/-- SLL: left shift by b[5:0] (w: b[4:0]) (Table 07-3). -/
def execSll (e : Fin 64) (w : Bool) (d a b : Fin 32) : State → Host.Outcome State Fault Refusal :=
  onI (.sll e w d a b) e (regStep e d [a, b] (fun x => aluSll w (x.get a) (x.get b)))
/-- SRL: logical right shift (Table 07-3). -/
def execSrl (e : Fin 64) (w : Bool) (d a b : Fin 32) : State → Host.Outcome State Fault Refusal :=
  onI (.srl e w d a b) e (regStep e d [a, b] (fun x => aluSrl w (x.get a) (x.get b)))
/-- SRA: arithmetic right shift (Table 07-3). -/
def execSra (e : Fin 64) (w : Bool) (d a b : Fin 32) : State → Host.Outcome State Fault Refusal :=
  onI (.sra e w d a b) e (regStep e d [a, b] (fun x => aluSra w (x.get a) (x.get b)))
/-- ROL: rotate left (Table 07-3). -/
def execRol (e : Fin 64) (w : Bool) (d a b : Fin 32) : State → Host.Outcome State Fault Refusal :=
  onI (.rol e w d a b) e (regStep e d [a, b] (fun x => aluRol w (x.get a) (x.get b)))
/-- ROR: rotate right (Table 07-3). -/
def execRor (e : Fin 64) (w : Bool) (d a b : Fin 32) : State → Host.Outcome State Fault Refusal :=
  onI (.ror e w d a b) e (regStep e d [a, b] (fun x => aluRor w (x.get a) (x.get b)))
/-- SLT: d = 1 if a < b signed (Table 07-3). -/
def execSlt (e : Fin 64) (d a b : Fin 32) : State → Host.Outcome State Fault Refusal :=
  onI (.slt e d a b) e (regStep e d [a, b] (fun x => aluSlt (x.get a) (x.get b)))
/-- SLTU: d = 1 if a < b unsigned (Table 07-3). -/
def execSltu (e : Fin 64) (d a b : Fin 32) : State → Host.Outcome State Fault Refusal :=
  onI (.sltu e d a b) e (regStep e d [a, b] (fun x => aluSltu (x.get a) (x.get b)))
/-- MIN: signed minimum (Table 07-3). -/
def execMin (e : Fin 64) (d a b : Fin 32) : State → Host.Outcome State Fault Refusal :=
  onI (.min e d a b) e (regStep e d [a, b] (fun x => aluMin (x.get a) (x.get b)))
/-- MAX: signed maximum (Table 07-3). -/
def execMax (e : Fin 64) (d a b : Fin 32) : State → Host.Outcome State Fault Refusal :=
  onI (.max e d a b) e (regStep e d [a, b] (fun x => aluMax (x.get a) (x.get b)))
/-- MINU: unsigned minimum (Table 07-3). -/
def execMinu (e : Fin 64) (d a b : Fin 32) : State → Host.Outcome State Fault Refusal :=
  onI (.minu e d a b) e (regStep e d [a, b] (fun x => aluMinu (x.get a) (x.get b)))
/-- MAXU: unsigned maximum (Table 07-3). -/
def execMaxu (e : Fin 64) (d a b : Fin 32) : State → Host.Outcome State Fault Refusal :=
  onI (.maxu e d a b) e (regStep e d [a, b] (fun x => aluMaxu (x.get a) (x.get b)))
/-- CLZ: leading zeros; 64 (w: 32) for 0 (Table 07-3). -/
def execClz (e : Fin 64) (w : Bool) (d a : Fin 32) : State → Host.Outcome State Fault Refusal :=
  onI (.clz e w d a) e (regStep e d [a] (fun x => aluClz w (x.get a)))
/-- CTZ: trailing zeros; 64 (w: 32) for 0 (Table 07-3). -/
def execCtz (e : Fin 64) (w : Bool) (d a : Fin 32) : State → Host.Outcome State Fault Refusal :=
  onI (.ctz e w d a) e (regStep e d [a] (fun x => aluCtz w (x.get a)))
/-- POPC: one bits (Table 07-3). -/
def execPopc (e : Fin 64) (w : Bool) (d a : Fin 32) : State → Host.Outcome State Fault Refusal :=
  onI (.popc e w d a) e (regStep e d [a] (fun x => aluPopc w (x.get a)))
/-- BSWAP: bytes reversed (Table 07-3). -/
def execBswap (e : Fin 64) (w : Bool) (d a : Fin 32) : State → Host.Outcome State Fault Refusal :=
  onI (.bswap e w d a) e (regStep e d [a] (fun x => aluBswap w (x.get a)))
/-- SEXTB: low byte sign-extended (Table 07-3). -/
def execSextb (e : Fin 64) (d a : Fin 32) : State → Host.Outcome State Fault Refusal :=
  onI (.sextb e d a) e (regStep e d [a] (fun x => aluSextb (x.get a)))
/-- SEXTH: low halfword sign-extended (Table 07-3). -/
def execSexth (e : Fin 64) (d a : Fin 32) : State → Host.Outcome State Fault Refusal :=
  onI (.sexth e d a) e (regStep e d [a] (fun x => aluSexth (x.get a)))
/-- ADDI: d = a + sext(imm16) (Table 07-4). -/
def execAddi (e : Fin 64) (d a : Fin 32) (i : BitVec 16) : State → Host.Outcome State Fault Refusal :=
  onI (.addi e d a i) e (regStep e d [a] (fun x => x.get a + i.signExtend 64))
/-- ANDI: d = a AND zext(imm16) (Table 07-4). -/
def execAndi (e : Fin 64) (d a : Fin 32) (i : BitVec 16) : State → Host.Outcome State Fault Refusal :=
  onI (.andi e d a i) e (regStep e d [a] (fun x => x.get a &&& i.setWidth 64))
/-- ORI: d = a OR zext(imm16) (Table 07-4). -/
def execOri (e : Fin 64) (d a : Fin 32) (i : BitVec 16) : State → Host.Outcome State Fault Refusal :=
  onI (.ori e d a i) e (regStep e d [a] (fun x => x.get a ||| i.setWidth 64))
/-- XORI: d = a XOR zext(imm16) (Table 07-4). -/
def execXori (e : Fin 64) (d a : Fin 32) (i : BitVec 16) : State → Host.Outcome State Fault Refusal :=
  onI (.xori e d a i) e (regStep e d [a] (fun x => x.get a ^^^ i.setWidth 64))
/-- SLTI: d = 1 if a < sext(imm16) signed (Table 07-4). -/
def execSlti (e : Fin 64) (d a : Fin 32) (i : BitVec 16) : State → Host.Outcome State Fault Refusal :=
  onI (.slti e d a i) e (regStep e d [a] (fun x => aluSlt (x.get a) (i.signExtend 64)))
/-- SLTIU: d = 1 if a < zext(imm16) unsigned (Table 07-4). -/
def execSltiu (e : Fin 64) (d a : Fin 32) (i : BitVec 16) : State → Host.Outcome State Fault Refusal :=
  onI (.sltiu e d a i) e (regStep e d [a] (fun x => aluSltu (x.get a) (i.setWidth 64)))
/-- LSH: d = (a << 16) OR zext(imm16) (Table 07-4). -/
def execLsh (e : Fin 64) (d a : Fin 32) (i : BitVec 16) : State → Host.Outcome State Fault Refusal :=
  onI (.lsh e d a i) e (regStep e d [a] (fun x => (x.get a <<< 16) ||| i.setWidth 64))
/-- SHI's operation on its immediate: [8] w, [7:6] kind, [5:0] amount (Table 07-4). -/
def aluShi (i : BitVec 16) (a : U64) : U64 :=
  let w := i.getLsbD 8
  let n := BitVec.ofNat 64 (i.toNat % 64)
  match (i.toNat / 64) % 4 with
  | 0 => aluSll w a n
  | 1 => aluSrl w a n
  | 2 => aluSra w a n
  | _ => aluRor w a n
/-- SHI encodings that R226 makes illegal: imm16[15:9] not 0, or amount bit 5 with w. -/
def shiIllegal (i : BitVec 16) : Bool := decide (512 ≤ i.toNat) || (i.getLsbD 8 && i.getLsbD 5)
/-- SHI: shift or rotate by an immediate amount; an illegal immediate raises vector 0x03 (R226). -/
def execShi (e : Fin 64) (d a : Fin 32) (i : BitVec 16) : State → Host.Outcome State Fault Refusal :=
  onI (.shi e d a i) e (fun s =>
    if shiIllegal i then
      (if (s.eng e).canIssue [] then settle (preciseException s e 0x03 0) else s)
    else regStep e d [a] (fun x => aluShi i (x.get a)) s)

/-! ### Multiply and divide (Table 07-5) -/

/-- MUL. -/
def mulLow (w : Bool) : U64 → U64 → U64 := wForm w (· * ·) (· * ·)
/-- The high 64 bits of an exact product. -/
def high64 (p : Int) : U64 := BitVec.ofInt 64 (p / 2 ^ 64)
/-- The quotient or remainder of a divide at the form's width; the operands as integers. -/
def divForm (w : Bool) (r : Int) : U64 := if w then w32 (BitVec.ofInt 32 r) else BitVec.ofInt 64 r
/-- A signed operand at the width of the form. -/
def opSigned (w : Bool) (a : U64) : Int := signed (wWidth w) a.toNat
/-- An unsigned operand at the width of the form. -/
def opUnsigned (w : Bool) (a : U64) : Int := Int.ofNat (wNat w a)

/-- MUL: low 64 (w: 32) bits of the product. -/
def execMul (e : Fin 64) (w : Bool) (d a b : Fin 32) : State → Host.Outcome State Fault Refusal :=
  onI (.mul e w d a b) e (regStep e d [a, b] (fun x => mulLow w (x.get a) (x.get b)))
/-- MULH: high 64 bits, both signed. -/
def execMulh (e : Fin 64) (d a b : Fin 32) : State → Host.Outcome State Fault Refusal :=
  onI (.mulh e d a b) e (regStep e d [a, b] (fun x => high64 ((x.get a).toInt * (x.get b).toInt)))
/-- MULHU: high 64 bits, both unsigned. -/
def execMulhu (e : Fin 64) (d a b : Fin 32) : State → Host.Outcome State Fault Refusal :=
  onI (.mulhu e d a b) e (regStep e d [a, b] (fun x => high64 (Int.ofNat ((x.get a).toNat * (x.get b).toNat))))
/-- MULHSU: high 64 bits, signed a, unsigned b. -/
def execMulhsu (e : Fin 64) (d a b : Fin 32) : State → Host.Outcome State Fault Refusal :=
  onI (.mulhsu e d a b) e (regStep e d [a, b] (fun x => high64 ((x.get a).toInt * Int.ofNat (x.get b).toNat)))

/-- A divide or remainder: a zero divisor raises the arithmetic exception and writes nothing (R231). -/
def divStep (e d a b : Nat) (w : Bool) (op : U64 → U64 → U64) (s : Mach) : Mach :=
  let x := s.eng e
  if x.canIssue [d, a, b] then
    if wNat w (x.get b) = 0 then settle (preciseException s e 0x09 0)
    else retireEng s e (x.retireD d (op (x.get a) (x.get b)))
  else stall s e

/-- DIV: signed quotient, rounded toward zero (R230, R231). -/
def execDiv (e : Fin 64) (w : Bool) (d a b : Fin 32) : State → Host.Outcome State Fault Refusal :=
  onI (.div e w d a b) e (divStep e d a b w (fun p q => divForm w ((opSigned w p).tdiv (opSigned w q))))
/-- DIVU: unsigned quotient (R230, R231). -/
def execDivu (e : Fin 64) (w : Bool) (d a b : Fin 32) : State → Host.Outcome State Fault Refusal :=
  onI (.divu e w d a b) e (divStep e d a b w (fun p q => divForm w (opUnsigned w p / opUnsigned w q)))
/-- REM: signed remainder, sign of a (R230, R231). -/
def execRem (e : Fin 64) (w : Bool) (d a b : Fin 32) : State → Host.Outcome State Fault Refusal :=
  onI (.rem e w d a b) e (divStep e d a b w (fun p q => divForm w ((opSigned w p).tmod (opSigned w q))))
/-- REMU: unsigned remainder (R230, R231). -/
def execRemu (e : Fin 64) (w : Bool) (d a b : Fin 32) : State → Host.Outcome State Fault Refusal :=
  onI (.remu e w d a b) e (divStep e d a b w (fun p q => divForm w (opUnsigned w p % opUnsigned w q)))

end Sys2Proof.Machine
end

