-- ==== Sys2Proof/Machine/IsaFp.lean ====
section
/-!
DEFINITION. Floating-point instructions (Table 07-6, Table 07-7): operands by width, results by R234, sticky flags of
FCSR by R236.
-/
namespace Sys2Proof.Machine

/-- The format of an FP32 or FP64 instruction. -/
def dblFmt (dbl : Bool) : FpFmt := if dbl then fmt64 else fmt32
/-- The operand bits of a format (R234). -/
def fpBits (dbl : Bool) (v : U64) : Nat := if dbl then v.toNat else v.toNat % 2 ^ 32

/-- Or flags into FCSR. -/
def orFlags (fcsr fl : Nat) : Nat := (BitVec.ofNat 8 fcsr ||| BitVec.ofNat 8 fl).toNat

/-- Engine e issues an instruction whose result comes with flags. -/
def flagStep (e d : Nat) (srcs : List Nat) (v : Engine → Nat × Nat) (s : Mach) : Mach :=
  let x := s.eng e
  if x.canIssue (d :: srcs) then
    let r := v x
    let y := x.retireD d (BitVec.ofNat 64 r.1)
    retireEng s e { y with arch := { y.arch with fcsr := orFlags y.arch.fcsr r.2 } }
  else stall s e

/-- A two-operand arithmetic operation of a format. -/
def fpStep (e d a b : Nat) (dbl : Bool) (op : FpFmt → Nat → Nat → Nat → Nat × Nat) (s : Mach) : Mach :=
  flagStep e d [a, b]
    (fun x => op (dblFmt dbl) (roundMode x.arch.fcsr) (fpBits dbl (x.get a)) (fpBits dbl (x.get b))) s

/-- FADD: a + b (Table 07-6). -/
def execFadd (e : Fin 64) (dbl : Bool) (d a b : Fin 32) : State → Host.Outcome State Fault Refusal :=
  onI (.fadd e dbl d a b) e (fpStep e d a b dbl fpAdd)
/-- FSUB: a − b (Table 07-6). -/
def execFsub (e : Fin 64) (dbl : Bool) (d a b : Fin 32) : State → Host.Outcome State Fault Refusal :=
  onI (.fsub e dbl d a b) e (fpStep e d a b dbl fpSub)
/-- FMUL: a × b (Table 07-6). -/
def execFmul (e : Fin 64) (dbl : Bool) (d a b : Fin 32) : State → Host.Outcome State Fault Refusal :=
  onI (.fmul e dbl d a b) e (fpStep e d a b dbl fpMul)
/-- FDIV: a ÷ b (Table 07-6). -/
def execFdiv (e : Fin 64) (dbl : Bool) (d a b : Fin 32) : State → Host.Outcome State Fault Refusal :=
  onI (.fdiv e dbl d a b) e (fpStep e d a b dbl fpDiv)
/-- FMIN: minimumNumber (Table 07-6). -/
def execFmin (e : Fin 64) (dbl : Bool) (d a b : Fin 32) : State → Host.Outcome State Fault Refusal :=
  onI (.fmin e dbl d a b) e (fpStep e d a b dbl (fun f _ p q => fpMinMax f true p q))
/-- FMAX: maximumNumber (Table 07-6). -/
def execFmax (e : Fin 64) (dbl : Bool) (d a b : Fin 32) : State → Host.Outcome State Fault Refusal :=
  onI (.fmax e dbl d a b) e (fpStep e d a b dbl (fun f _ p q => fpMinMax f false p q))
/-- FSGNJ: magnitude of a, sign of b (Table 07-6). -/
def execFsgnj (e : Fin 64) (dbl : Bool) (d a b : Fin 32) : State → Host.Outcome State Fault Refusal :=
  onI (.fsgnj e dbl d a b) e (fpStep e d a b dbl (fun f _ p q => (fpSign f p (bitAt q (f.width - 1)), 0)))
/-- FSGNJN: magnitude of a, inverted sign of b (Table 07-6). -/
def execFsgnjn (e : Fin 64) (dbl : Bool) (d a b : Fin 32) : State → Host.Outcome State Fault Refusal :=
  onI (.fsgnjn e dbl d a b) e (fpStep e d a b dbl (fun f _ p q => (fpSign f p (!bitAt q (f.width - 1)), 0)))
/-- FSGNJX: magnitude of a, sign a XOR sign b (Table 07-6). -/
def execFsgnjx (e : Fin 64) (dbl : Bool) (d a b : Fin 32) : State → Host.Outcome State Fault Refusal :=
  onI (.fsgnjx e dbl d a b) e (fpStep e d a b dbl (fun f _ p q => (fpSign f p (bitAt p (f.width - 1) != bitAt q (f.width - 1)), 0)))
/-- FEQ: 1 if a = b, quiet (Table 07-6). -/
def execFeq (e : Fin 64) (dbl : Bool) (d a b : Fin 32) : State → Host.Outcome State Fault Refusal :=
  onI (.feq e dbl d a b) e (fpStep e d a b dbl (fun f _ p q => fpEq f p q))
/-- FLT: 1 if a < b, signalling (Table 07-6). -/
def execFlt (e : Fin 64) (dbl : Bool) (d a b : Fin 32) : State → Host.Outcome State Fault Refusal :=
  onI (.flt e dbl d a b) e (fpStep e d a b dbl (fun f _ p q => fpLt f p q))
/-- FLE: 1 if a ≤ b, signalling (Table 07-6). -/
def execFle (e : Fin 64) (dbl : Bool) (d a b : Fin 32) : State → Host.Outcome State Fault Refusal :=
  onI (.fle e dbl d a b) e (fpStep e d a b dbl (fun f _ p q => fpLe f p q))
/-- FSQRT: squareRoot(a) (Table 07-6). -/
def execFsqrt (e : Fin 64) (dbl : Bool) (d a : Fin 32) : State → Host.Outcome State Fault Refusal :=
  onI (.fsqrt e dbl d a) e (flagStep e d [a] (fun x => fpSqrt (dblFmt dbl) (roundMode x.arch.fcsr) (fpBits dbl (x.get a))))
/-- FMAC: d + a × b with one rounding (Table 07-6). -/
def execFmac (e : Fin 64) (dbl : Bool) (d a b : Fin 32) : State → Host.Outcome State Fault Refusal :=
  onI (.fmac e dbl d a b) e (flagStep e d [a, b] (fun x => fpFma (dblFmt dbl) (roundMode x.arch.fcsr)
    (fpBits dbl (x.get a)) (fpBits dbl (x.get b)) (fpBits dbl (x.get d))))

/-- The integer result of a conversion as a register value: 32-bit results are sign-extended (R239). -/
def intResult (w : Nat) (r : Int × Nat) : Nat × Nat := ((sext64 w (twos w r.1)).toNat, r.2)

/-- Floating-point to integer: rz rounds toward zero whatever FCSR holds (R238). -/
def toIntStep (e d a : Nat) (rz dbl : Bool) (w : Nat) (sg : Bool) (s : Mach) : Mach :=
  flagStep e d [a] (fun x => intResult w
    (fpConvInt (if rz then 1 else roundMode x.arch.fcsr) (fpDecode (dblFmt dbl) (fpBits dbl (x.get a))) w sg)) s

/-- Integer to floating-point. -/
def fromIntStep (e d a : Nat) (dbl : Bool) (w : Nat) (sg : Bool) (s : Mach) : Mach :=
  flagStep e d [a] (fun x => fpFromInt (dblFmt dbl) (roundMode x.arch.fcsr)
    (if sg then signed w (x.get a).toNat else Int.ofNat ((x.get a).toNat % 2 ^ w))) s

/-- FCVT.S.D: binary64 to binary32. -/
def execFcvtSD (e : Fin 64) (d a : Fin 32) : State → Host.Outcome State Fault Refusal :=
  onI (.fcvtSD e d a) e (flagStep e d [a] (fun x => fpConv fmt64 fmt32 (roundMode x.arch.fcsr) (x.get a).toNat))
/-- FCVT.D.S: binary32 to binary64. -/
def execFcvtDS (e : Fin 64) (d a : Fin 32) : State → Host.Outcome State Fault Refusal :=
  onI (.fcvtDS e d a) e (flagStep e d [a] (fun x => fpConv fmt32 fmt64 (roundMode x.arch.fcsr) (fpBits false (x.get a))))
/-- FCVT.W.S (Table 07-7, R239). -/
def execFcvtWS (e : Fin 64) (rz : Bool) (d a : Fin 32) : State → Host.Outcome State Fault Refusal :=
  onI (.fcvtWS e rz d a) e (toIntStep e d a rz false 32 true)
/-- FCVT.S.W (Table 07-7). -/
def execFcvtSW (e : Fin 64) (d a : Fin 32) : State → Host.Outcome State Fault Refusal :=
  onI (.fcvtSW e d a) e (fromIntStep e d a false 32 true)
/-- FCVT.W.D (Table 07-7, R239). -/
def execFcvtWD (e : Fin 64) (rz : Bool) (d a : Fin 32) : State → Host.Outcome State Fault Refusal :=
  onI (.fcvtWD e rz d a) e (toIntStep e d a rz true 32 true)
/-- FCVT.D.W (Table 07-7). -/
def execFcvtDW (e : Fin 64) (d a : Fin 32) : State → Host.Outcome State Fault Refusal :=
  onI (.fcvtDW e d a) e (fromIntStep e d a true 32 true)
/-- FCVT.WU.S (Table 07-7, R239). -/
def execFcvtWuS (e : Fin 64) (rz : Bool) (d a : Fin 32) : State → Host.Outcome State Fault Refusal :=
  onI (.fcvtWuS e rz d a) e (toIntStep e d a rz false 32 false)
/-- FCVT.S.WU (Table 07-7). -/
def execFcvtSWu (e : Fin 64) (d a : Fin 32) : State → Host.Outcome State Fault Refusal :=
  onI (.fcvtSWu e d a) e (fromIntStep e d a false 32 false)
/-- FCVT.WU.D (Table 07-7, R239). -/
def execFcvtWuD (e : Fin 64) (rz : Bool) (d a : Fin 32) : State → Host.Outcome State Fault Refusal :=
  onI (.fcvtWuD e rz d a) e (toIntStep e d a rz true 32 false)
/-- FCVT.D.WU (Table 07-7). -/
def execFcvtDWu (e : Fin 64) (d a : Fin 32) : State → Host.Outcome State Fault Refusal :=
  onI (.fcvtDWu e d a) e (fromIntStep e d a true 32 false)
/-- FCVT.L.S (Table 07-7, R239). -/
def execFcvtLS (e : Fin 64) (rz : Bool) (d a : Fin 32) : State → Host.Outcome State Fault Refusal :=
  onI (.fcvtLS e rz d a) e (toIntStep e d a rz false 64 true)
/-- FCVT.S.L (Table 07-7). -/
def execFcvtSL (e : Fin 64) (d a : Fin 32) : State → Host.Outcome State Fault Refusal :=
  onI (.fcvtSL e d a) e (fromIntStep e d a false 64 true)
/-- FCVT.L.D (Table 07-7, R239). -/
def execFcvtLD (e : Fin 64) (rz : Bool) (d a : Fin 32) : State → Host.Outcome State Fault Refusal :=
  onI (.fcvtLD e rz d a) e (toIntStep e d a rz true 64 true)
/-- FCVT.D.L (Table 07-7). -/
def execFcvtDL (e : Fin 64) (d a : Fin 32) : State → Host.Outcome State Fault Refusal :=
  onI (.fcvtDL e d a) e (fromIntStep e d a true 64 true)
/-- FCVT.LU.S (Table 07-7, R239). -/
def execFcvtLuS (e : Fin 64) (rz : Bool) (d a : Fin 32) : State → Host.Outcome State Fault Refusal :=
  onI (.fcvtLuS e rz d a) e (toIntStep e d a rz false 64 false)
/-- FCVT.S.LU (Table 07-7). -/
def execFcvtSLu (e : Fin 64) (d a : Fin 32) : State → Host.Outcome State Fault Refusal :=
  onI (.fcvtSLu e d a) e (fromIntStep e d a false 64 false)
/-- FCVT.LU.D (Table 07-7, R239). -/
def execFcvtLuD (e : Fin 64) (rz : Bool) (d a : Fin 32) : State → Host.Outcome State Fault Refusal :=
  onI (.fcvtLuD e rz d a) e (toIntStep e d a rz true 64 false)
/-- FCVT.D.LU (Table 07-7). -/
def execFcvtDLu (e : Fin 64) (d a : Fin 32) : State → Host.Outcome State Fault Refusal :=
  onI (.fcvtDLu e d a) e (fromIntStep e d a true 64 false)
/-- FCLASS.S: one-hot class (Table 07-8). -/
def execFclassS (e : Fin 64) (d a : Fin 32) : State → Host.Outcome State Fault Refusal :=
  onI (.fclassS e d a) e (flagStep e d [a] (fun x => (fpClass (dblFmt false) (fpBits false (x.get a)), 0)))
/-- FCLASS.D: one-hot class (Table 07-8). -/
def execFclassD (e : Fin 64) (d a : Fin 32) : State → Host.Outcome State Fault Refusal :=
  onI (.fclassD e d a) e (flagStep e d [a] (fun x => (fpClass (dblFmt true) (fpBits true (x.get a)), 0)))

end Sys2Proof.Machine
end

