-- ==== Sys2Proof/Machine/IsaCtl.lean ====
section
/-!
DEFINITION. Branches, jumps (Table 07-11, R255, R256), the fetch and decode exceptions, and the system instructions
that touch no memory (Table 07-14).
-/
namespace Sys2Proof.Machine

/-- R256: a taken branch or jump with an illegal target raises the instruction fetch fault itself, before it writes
its link register; otherwise it retires to the target. -/
def goTo (s : Mach) (e : Nat) (target : Int) (link : Option (Nat × U64)) : Mach :=
  let x := s.eng e
  if target % 4 ≠ 0 ∨ target < 0 ∨ 0x10000 ≤ target then
    settle (preciseException s e 0x02 (twos 48 target))
  else
    let y := match link with
      | some (d, v) => x.put d v
      | none => x
    retireEng s e (y.retire target.toNat)

/-- The target pc + 4 × sext(off) of an offset of w bits. -/
def relTarget (x : Engine) (off : Int) : Int := Int.ofNat x.arch.pc + 4 * off

/-- A conditional branch. -/
def branchStep (e a b : Nat) (off : BitVec 16) (c : U64 → U64 → Bool) (s : Mach) : Mach :=
  let x := s.eng e
  if x.canIssue [a, b] then
    if c (x.get a) (x.get b) then goTo s e (relTarget x off.toInt) none
    else retireEng s e (x.retire (x.arch.pc + 4))
  else stall s e

/-- BEQ: branch if a = b. -/
def execBeq (e : Fin 64) (a b : Fin 32) (off : BitVec 16) : State → Host.Outcome State Fault Refusal :=
  onI (.beq e a b off) e (branchStep e a b off (fun p q => p == q))
/-- BNE: branch if a ≠ b. -/
def execBne (e : Fin 64) (a b : Fin 32) (off : BitVec 16) : State → Host.Outcome State Fault Refusal :=
  onI (.bne e a b off) e (branchStep e a b off (fun p q => p != q))
/-- BLT: branch if a < b signed. -/
def execBlt (e : Fin 64) (a b : Fin 32) (off : BitVec 16) : State → Host.Outcome State Fault Refusal :=
  onI (.blt e a b off) e (branchStep e a b off (fun p q => p.slt q))
/-- BGE: branch if a ≥ b signed. -/
def execBge (e : Fin 64) (a b : Fin 32) (off : BitVec 16) : State → Host.Outcome State Fault Refusal :=
  onI (.bge e a b off) e (branchStep e a b off (fun p q => !(p.slt q)))
/-- BLTU: branch if a < b unsigned. -/
def execBltu (e : Fin 64) (a b : Fin 32) (off : BitVec 16) : State → Host.Outcome State Fault Refusal :=
  onI (.bltu e a b off) e (branchStep e a b off (fun p q => p.ult q))
/-- BGEU: branch if a ≥ b unsigned. -/
def execBgeu (e : Fin 64) (a b : Fin 32) (off : BitVec 16) : State → Host.Outcome State Fault Refusal :=
  onI (.bgeu e a b off) e (branchStep e a b off (fun p q => !(p.ult q)))
/-- J: pc = pc + 4 × sext(off26). -/
def execJ (e : Fin 64) (off : BitVec 26) : State → Host.Outcome State Fault Refusal :=
  onI (.j e off) e (fun s => if (s.eng e).canIssue [] then goTo s e (relTarget (s.eng e) off.toInt) none else stall s e)
/-- JAL: g31 = pc + 4, then as J. -/
def execJal (e : Fin 64) (off : BitVec 26) : State → Host.Outcome State Fault Refusal :=
  onI (.jal e off) e (fun s =>
    let x := s.eng e
    if x.canIssue [31] then goTo s e (relTarget x off.toInt) (some (31, BitVec.ofNat 64 (x.arch.pc + 4))) else stall s e)
/-- JALR: t = a + sext(imm16); d = pc + 4; pc = t. -/
def execJalr (e : Fin 64) (d a : Fin 32) (i : BitVec 16) : State → Host.Outcome State Fault Refusal :=
  onI (.jalr e d a i) e (fun s =>
    let x := s.eng e
    if x.canIssue [d, a] then
      goTo s e (Int.ofNat (x.get a + i.signExtend 64).toNat) (some (d, BitVec.ofNat 64 (x.arch.pc + 4)))
    else stall s e)

/-- ILLEGAL_INSTRUCTION: the word at the engine's pc is none that R226 defines, and raises vector 0x03. -/
def execIllegalInstruction (e : Fin 64) : State → Host.Outcome State Fault Refusal :=
  onM (fun s =>
    if decodeWord e (fetchWord s e) = none then
      (if (s.eng e).canIssue [] then settle (preciseException s e 0x03 0) else stall s e)
    else s)

/-- INSTRUCTION_FETCH_FAULT: a fetch at or beyond 0x1_0000 (R191, R256). EADDR and EPC are the address of the fetch,
0x1_0000 after the instruction at 0xFFFC. -/
def execInstructionFetchFault (e : Fin 64) : State → Host.Outcome State Fault Refusal :=
  onM (fun s =>
    let x := s.eng e
    if (x.state = 1 ∨ x.state = 3) ∧ x.wait = .none ∧ x.stopReq = false ∧ 0x10000 ≤ x.arch.pc then
      settle (preciseException s e 0x02 x.arch.pc)
    else s)

/-! ### System instructions -/

/-- A register Table 06-2 marks "—" at task level. -/
def sregHidden (n : Nat) : Bool := decide (n ≤ 5)

/-- SRD: d = state register sr; a number above 0x10 is illegal, a hidden one at task level privileged (R192, R262). It
reads after every earlier instruction has retired. -/
def execSrd (e : Fin 64) (d sr : Fin 32) : State → Host.Outcome State Fault Refusal :=
  onI (.srd e d sr) e (fun s =>
    let x := s.eng e
    if x.canIssue [d] then
      if 0x10 < sr.val then settle (preciseException s e 0x03 0)
      else if x.level = 0 ∧ sregHidden sr = true then settle (preciseException s e 0x04 0)
      else if sr.val = 0x0C ∨ sr.val = 0x07 ∨ sr.val = 0x0F ∨ x.rob.isEmpty then
        retireEng s e (x.retireD d (BitVec.ofNat 64 (stateReg s e sr)))
      else stall s e
    else stall s e)

/-- The engine with a state register written at supervisor level; read-only ones ignore it (R263). -/
def writeSreg (now : Nat) (x : Engine) (n : Nat) (v : Nat) : Engine :=
  match n with
  | 0x00 => { x with level := v % 2, ie := (v / 2) % 2, inExc := (v / 4) % 2, prevLevel := (v / 8) % 2,
                     prevIe := (v / 16) % 2 }
  | 0x01 => { x with epc := v }
  | 0x02 => { x with ecause := v % 2 ^ 10 }
  | 0x04 => { x with escratch := v }
  | 0x05 => { x with vbase := v % 2 ^ 16 / 2 ^ 10 * 2 ^ 10 }
  | 0x06 => { x with caps := v % 2 ^ 5 }
  | 0x07 => { x with arch := { x.arch with fcsr := v % 2 ^ 8 } }
  | 0x10 => { x with budget := v, budgetAt := now }
  | _ => x

/-- SWR: state register sr = a. At task level only FCSR may be written (R194). It waits until every earlier
instruction has retired (R264). -/
def execSwr (e : Fin 64) (sr a : Fin 32) : State → Host.Outcome State Fault Refusal :=
  onI (.swr e sr a) e (fun s =>
    let x := s.eng e
    if x.canIssueAlone [a] then
      if 0x10 < sr.val then settle (preciseException s e 0x03 0)
      else if x.level = 0 ∧ sr.val ≠ 0x07 then settle (preciseException s e 0x04 0)
      else settle (retireEng s e ((writeSreg s.cycles x sr (x.get a).toNat).retire (x.arch.pc + 4)))
    else stall s e)

/-- BRK: raises the breakpoint exception (R265). -/
def execBrk (e : Fin 64) : State → Host.Outcome State Fault Refusal :=
  onI (.brk e) e (fun s => if (s.eng e).canIssue [] then settle (preciseException s e 0x0B 0) else stall s e)

/-- TRAP: raises the trap exception; its code is read from the instruction word (R265). -/
def execTrap (e : Fin 64) (imm : BitVec 16) : State → Host.Outcome State Fault Refusal :=
  onI (.trap e imm) e (fun s => if (s.eng e).canIssue [] then settle (preciseException s e 0x0A 0) else stall s e)

/-- R210: ERET reverses steps 1 and 2 of exception entry, clears in_exc and continues at EPC. -/
def eretEngine (x : Engine) : Engine :=
  { x.retire (x.epc - x.epc % 4) with level := x.prevLevel, ie := x.prevIe, inExc := 0 }

/-- ERET: privileged at task level (R194). -/
def execEret (e : Fin 64) : State → Host.Outcome State Fault Refusal :=
  onI (.eret e) e (fun s =>
    let x := s.eng e
    if x.canIssueAlone [] then
      if x.level = 0 then settle (preciseException s e 0x04 0)
      else settle (retireEng s e (eretEngine x))
    else stall s e)

/-- HALT: privileged at task level; retires after the store buffer has drained and enters halted (R267). -/
def execHalt (e : Fin 64) : State → Host.Outcome State Fault Refusal :=
  onI (.halt e) e (fun s =>
    let x := s.eng e
    if x.canIssueAlone [] then
      if x.level = 0 then settle (preciseException s e 0x04 0)
      else if x.sb.isEmpty then
        let s := leaveAct s e
        s.updEng e (fun x => { x.retire (x.arch.pc + 4) with state := 5, binds := [], active := none })
      else s
    else stall s e)

end Sys2Proof.Machine
end

