-- ==== Sys2Proof/Machine/Ring.lean ====
section
/-!
DEFINITION. Ring operation (04_ring_operation_and_redundancy.md): breaks, reroute and healing, station states,
calibration (R59), adoption (R136 to R141, R685) and enumeration (R126 to R133, R142).
-/
namespace Sys2Proof.Machine

/-! ### Quotients with a stated resolution -/

/-- num / den with the rounding the spec leaves open (Config.roundUp). -/
def roundQ (num den : Nat) : Nat := num / den + (if num % den = 0 then 0 else b2n (Config.roundUp num den))

/-! ### Station states (R134) -/

/-- ST_COUNT0 and ST_COUNT1 from the entries. -/
def countStations (s : Mach) : Mach :=
  let c (k : Nat) : Nat := (s.stations.filter (fun n => s.f (ST_W1_state n) == k)).length
  let s := ((s.setF ST_COUNT0_discovered (c 1)).setF ST_COUNT0_configured (c 2)).setF ST_COUNT0_running (c 3)
  ((s.setF ST_COUNT0_held (c 4)).setF ST_COUNT1_absent (c 0)).setF ST_COUNT1_clamped (c 5)

/-- Change a station's state; the change is journalled (kind 0x31, Table 16-4). -/
def setStn (s : Mach) (k st : Nat) : Mach :=
  let old := s.f (ST_W1_state k)
  if old = st then s
  else
    let s := countStations ((s.setF (ST_W1_state k) st).setF (ST_W1_clamped k) (b2n (decide (st = 5))))
    s.jpush s.now 0x31 (leBytes 1 (st + old * 8) ++ leBytes 2 k ++ leBytes 4 s.beatNum ++ leBytes 8 (s.f (ST_W2_serial k)))

/-- The adoption of a station is given up or done. -/
def dropAdopt (s : Mach) (k : Nat) : Mach :=
  { s with ring := { s.ring with adopts := s.ring.adopts.filter (fun a => a.stn != k), redo := s.ring.redo.filter (fun j => j != k) } }

/-- A station becomes absent (Table 04-2): an adoption under way is counted as failed (R159), type_mismatch is cleared
(R141), and frames to it that have not started are withdrawn; their requests end at their timeouts (R391). -/
def stnAbsent (s : Mach) (k : Nat) : Mach :=
  let s := if s.ring.adopts.any (fun a => a.stn == k && decide (a.step < 6)) then s.inc (RG_RING_CNT (s.stRing k) 7) else s
  let s := (withdraw (setStn (dropAdopt s k) k 0) k).1
  let s := (s.setF (ST_W1_type_mismatch k) 0).inc (RG_RING_CNT (s.stRing k) 8)
  s.raiseStn ST_EVENT_absent k

/-! ### Breaks (R148 to R152) -/

/-- Runs of consecutive numbers in a list of segments, up to segment m: first and last of each. -/
def runsOf (l : List Nat) (m : Nat) : List (Nat × Nat) :=
  let step (a : List (Nat × Nat)) (j : Nat) : List (Nat × Nat) :=
    if l.contains j then
      match a with
      | (x, y) :: t => if y + 1 = j then (x, j) :: t else (j, j) :: (x, y) :: t
      | [] => [(j, j)]
    else a
  ((keysFrom 1 m).foldl step []).reverse

/-- RG_RING_BREAK from the runs. -/
def setBreak (s : Mach) (n : Nat) (r : List (Nat × Nat)) : Mach :=
  let a := r.getD 0 (0, 0)
  let b := r.getD 1 (0, 0)
  (((s.setF (RG_RING_BREAK_first1 n) a.1).setF (RG_RING_BREAK_last1 n) a.2).setF (RG_RING_BREAK_first2 n) b.1).setF
    (RG_RING_BREAK_last2 n) b.2

/-- A change of the ring's state: its event and counter (Table 04-10). -/
def setRingState (s : Mach) (n st : Nat) : Mach :=
  if s.f (RG_RING_STATUS_state n) = st then s
  else
    let s := s.setF (RG_RING_STATUS_state n) st
    match st with
    | 0 => s.raise (RG_RING_EVENT_down n)
    | 1 => (s.inc (RG_RING_CNT n 2)).raise (RG_RING_EVENT_closed n)
    | 2 => (s.inc (RG_RING_CNT n 0)).raise (RG_RING_EVENT_broken n)
    | _ => (s.inc (RG_RING_CNT n 1)).raise (RG_RING_EVENT_split n)

/-- R148: classify a ring by its failed segments. A ring without any waits for its healing before it is closed (R154). A run that fails
in that wait, apart from those that are to be healed, makes the ring split and restarts the healing count (Table 04-9). -/
def reclass (s : Mach) (n : Nat) : Mach :=
  let l := failedNow s n
  let r := runsOf l (ringN s n + 1)
  let s := setBreak s n r
  if !ringAlive s n then (setRingState s n 0).setF (RG_RING_STATUS_heal_wait n) 0
  else if l.isEmpty then
    if s.f (RG_RING_STATUS_state n) = 1 then s
    else
      let s := s.setF (RG_RING_STATUS_heal_wait n) 1
      s.setRst n { s.rst n with heal := 0, second := false }
  else
    let more := s.b (RG_RING_STATUS_heal_wait n) &&
      decide (2 ≤ (runsOf ((s.rst n).repair ++ l) (ringN s n + 1)).length)
    let s := (s.setF (RG_RING_STATUS_heal_wait n) 0).setRst n { s.rst n with heal := 0, second := (s.rst n).second || more }
    setRingState s n (if r.length ≤ 1 ∧ (s.rst n).second = false then 2 else 3)

/-- The failure of a segment is detected: its reroute waits for an edge at least 2 µs later (R150). -/
def ringDetect (s : Mach) (n j : Nat) : Mach :=
  let x := s.rst n
  reclass (s.setRst n { x with detect := x.detect.filter (fun d => d.1 != j) ++ [(j, s.now)], repair := addTo x.repair j }) n

/-- Mark a segment failed (R149); `oneWay` when the check of the pairs alone shows it. -/
def segFail (s : Mach) (n j : Nat) (oneWay : Bool) : Mach :=
  let x := s.rst n
  if x.failed.contains j then
    if oneWay then s else s.setRst n { x with oneWay := x.oneWay.filter (fun i => i != j) }
  else ringDetect (s.setRst n { x with failed := j :: x.failed, oneWay := if oneWay then j :: x.oneWay else x.oneWay }) n j

/-- Segments are up again. -/
def segUp (s : Mach) (n : Nat) (l : List Nat) : Mach :=
  let x := s.rst n
  let out (m : List Nat) : List Nat := m.filter (fun i => !l.contains i)
  reclass (s.setRst n { x with failed := out x.failed, oneWay := out x.oneWay, detect := x.detect.filter (fun d => !l.contains d.1) }) n

/-- The path that a sent piece took crosses one of these breaks, and it was sent before the break's detection (R152). -/
def pieceCrossed (s : Mach) (n : Nat) (due : List (Nat × Nat)) (p : Piece) : Bool :=
  let pos := s.f (ST_W0_position (s.stDirect (faStation p.fa)))
  decide (faSpace p.fa ≠ 2) && decide (p.port / 2 = n) && decide (p.port ≠ 0xFF) && !p.done &&
  due.any (fun d =>
    (match p.sentAt with
     | some a => decide (a ≤ d.2)
     | none => false) && (if p.port % 2 = 0 then !eastClear [d.1] pos else !westClear [d.1] pos))

/-- R152: what a reroute edge ends: the requests with a piece sent before detection over a failed segment and not answered, each with
these pieces. -/
def rerouteEnds (s : Mach) (n : Nat) (due : List (Nat × Nat)) : List (Req × List Nat) :=
  s.reqs.filterMap (fun q =>
    let l := (keysFrom 0 q.pieces.length).filter (fun i => ((q.pieces[i]?).map (pieceCrossed s n due)).getD false)
    if decide (2 ≤ q.cls) && (!q.posted || q.ack) && !l.isEmpty then some (q, l) else none)

/-- End one of them: a non-posted request as a whole, of a posted one every frame that was lost. -/
def rerouteEnd (n : Nat) (s : Mach) (x : Req × List Nat) : Mach :=
  if x.1.posted then x.2.foldl (fun t i => pieceEnd t x.1.bseq i 0x10 [] true) s
  else reqFail (s.inc (RG_RING_CNT n 14)) x.1.bseq 0x10 true

/-- Send the frames that waited for a reroute on the directions that are left (R151); one whose route is broken still, or to a station
that no direction reaches, waits on. -/
def sendHeld (s : Mach) (n : Nat) : Mach :=
  let x := s.rst n
  let go (t : Mach) (f : TxFrame) : Mach :=
    match routeOf t f.f.dest with
    | some d => queueOn t (2 * n + d) f
    | none => t
  let stays (f : TxFrame) : Bool := routeBroken s f.f.dest
  ((x.own ++ x.held).filter (fun f => !stays f)).foldl go (s.setRst n { x with held := x.held.filter stays, own := x.own.filter stays })

/-- The reroute edge of a ring for the breaks that are due (R150 to R152). -/
def reroute (s : Mach) (n : Nat) (due : List (Nat × Nat)) : Mach :=
  if due.isEmpty then s
  else
    let ends := rerouteEnds s n due
    let x := s.rst n
    let s := s.setRst n { x with avoid := (x.avoid ++ due.map (fun d => d.1)).eraseDups, detect := x.detect.filter (fun d => !due.contains d) }
    let s := (s.inc (RG_RING_CNT n 3)).raise (RG_RING_EVENT_reroute n)
    pushWaiting (sendHeld (ends.foldl (rerouteEnd n) s) n)

/-- The breaks of a ring that were detected at least 2 µs ago (R150). -/
def rerouteDue (s : Mach) (n : Nat) : List (Nat × Nat) := (s.rst n).detect.filter (fun d => decide (d.2 + 2000 ≤ s.now))

/-! ### Ports (R81, R82) -/

/-- The piece that a frame carries goes back into the bridge's send queue (R151). -/
def unqueue (s : Mach) (t : TxFrame) : Mach :=
  match t.own with
  | some (b, i) => s.updReq b (fun q => { q with pieces := q.pieces.modify i (fun p => { p with queued := false }) })
  | none => s

/-- A copy of a piece waits on a port or is held by the link. -/
def pieceWaits (s : Mach) (o : Option (Nat × Nat)) : Bool :=
  (keysFrom 0 8).any (fun p => (s.rport p).tx.any (fun t => t.own == o) || (s.rport p).replay.any (fun r => r.t.own == o))

/-- The frames that had not started on a port that goes down. Those of TC2 and TC3 to a station wait for the reroute: of the host and
engines in the hold while it has room, and counted, else back in the bridge's queue; of the module's own units outside the hold (R151).
Enumerate frames, TC0 and TC1 copies, frames in transit and broadcasts are lost with the port; a broadcast write none of whose copies is
left fails, as does a TC0 or TC1 write none of whose copies has left or can leave (Table 11-2). -/
def requeue (s : Mach) (p : Nat) : Mach :=
  let n := p / 2
  let cyc := (s.rport p).tx.filter (fun t => decide (t.f.cls < 2) && !t.transit)
  let l := (s.rport p).tx.filter (fun t => decide (2 ≤ t.f.cls) && !t.transit && t.f.type != 0xA)
  let s := s.setRport p { s.rport p with tx := [] }
  let own := l.filter (fun t => t.f.dest != 0x3FFF && t.internal)
  let host := l.filter (fun t => t.f.dest != 0x3FFF && !t.internal)
  let room := holdLimit - (s.rst n).held.length
  let s := s.setRst n { s.rst n with own := (s.rst n).own ++ own, held := (s.rst n).held ++ host.take room }
  let s := (host.drop room).foldl unqueue (s.add (RG_RING_CNT n 13) (host.take room).length)
  let unsent (t : TxFrame) : Bool :=
    match t.own with
    | some (b, i) => (((s.req b).bind (fun q => q.pieces[i]?)).map (fun x => x.sentAt.isNone)).getD false
    | none => false
  (l.filter (fun t => t.f.dest == 0x3FFF && !pieceWaits s t.own) ++ cyc.filter (fun t => !pieceWaits s t.own && unsent t)).foldl (fun t f =>
    match f.own with
    | some (b, i) => pieceEnd t b i 0x10 [] true
    | none => t) s

/-- A port's SerDes is being recalibrated (R569). -/
def recalOn (s : Mach) (p : Nat) : Bool :=
  match s.test.run with
  | some r => r.kind == 1 && r.target == p && r.down
  | none => false

/-- A port is enabled: its configuration bit is active and neither a clamp, a recalibration nor its cage keeps it off. -/
def portOn (s : Mach) (p : Nat) : Bool :=
  s.b (RG_PORT_CFG_enable p) && !bitAt (s.f CT_CLAMP_ring_port) p && !recalOn s p && !(s.rport p).txOff
    && !s.pw.held.contains 5

/-- The PCS of a port has no lock. -/
def noLock (s : Mach) (p : Nat) : Mach :=
  let s := (s.setF (RG_PORT_STATUS_block_lock p) 0).setF (RG_PORT_STATUS_fec_lock p) 0
  s.setRport p { s.rport p with lockAt := none }

/-- RS-FEC setting of a port that searches: fixed, or in auto mode the attempt's, the first with RS-FEC on (R78). The code 0b11, which the
spec does not define, acts as auto (DESIGN CHOICE, log 74). -/
def fecSetting (s : Mach) (p : Nat) : Nat :=
  match s.f (RG_PORT_CFG_fec p) with
  | 0 => 0
  | 1 => 1
  | _ => 1 - (s.rport p).fecTry % 2

/-- A port searches for block lock. -/
def searching (s : Mach) (p : Nat) : Bool :=
  s.f (RG_PORT_STATUS_state p) == psDown && portOn s p && s.b (RG_SFP_STATUS_present p) && !s.b (RG_SFP_STATUS_los p)
    && !s.b (RG_SFP_STATUS_tx_fault p) && !s.b (RG_PORT_CFG_pcs_loop p)

/-- A port that searches shows the RS-FEC setting of its attempt, which begins now (R78). -/
def showFec (s : Mach) (p : Nat) : Mach :=
  if searching s p && (s.rport p).lockAt.isNone then
    let s := s.setF (RG_PORT_STATUS_fec_active p) (fecSetting s p)
    s.setRport p { s.rport p with tryAt := s.now }
  else s

/-- R82: a port leaves state up for down with a cause: its replay buffer, which holds a cut frame too, is dropped and counted, the
segment has failed. A port in training returns to down. The link's sequences start again, each at 0 (DESIGN CHOICE, log 74). -/
def portDown (s : Mach) (p cause : Nat) : Mach :=
  let st := s.f (RG_PORT_STATUS_state p)
  let x := s.rport p
  let clear (u : Mach) : Mach :=
    let u := u.setRport p { u.rport p with cut := none, resendDue := false, rxOpen := none, replay := [], txNext := 0, rxNext := 0, skip := none,
                                           lockAt := none, good := 0, echoed := false, dropRun := 0, nakSent := false, peer := none,
                                           fecTry := 0 }
    ((u.setF (RG_PORT_STATUS_cut_open p) 0).setF (RG_PORT_STATUS_replay p) 0).setF (RG_PORT_STATUS_replay_full p) 0
  if st = psUp then
    let lost := x.replay.map (fun r => r.t)
    let s := s.add (RG_CNT p 16) lost.length
    let s := s.setF (RG_PORT_STATUS_state p) psDown
    let s := ((s.setF (RG_PORT_DOWN_CAUSE_cause p) cause).inc (RG_CNT p 28)).raise (RG_PORT_EVENT_down p)
    let s := clear s
    let s := ringDetect (requeue s p) (p / 2) (if p % 2 = 0 then 1 else ringN s (p / 2) + 1)
    showFec (resolveLost s lost) p
  else if st = psTraining then showFec (clear (s.setF (RG_PORT_STATUS_state p) psDown)) p
  else s

/-- Table 03-1, step 1: a port whose configuration enables it is down, and searches, with a sound SFP28 module in its cage; one that
its configuration does not enable is disabled. A clamp, a recalibration or the cage's switch holds an enabled port down, its
transmitter off. A port that must leave up does so with the cause given (R82). -/
def portRefresh (s : Mach) (p cause : Nat) : Mach :=
  let s := s.setF (RG_SFP_STATUS_tx_disable p) (b2n (!portOn s p))
  let s := if portOn s p then s else noLock (portDown s p cause) p
  if s.b (RG_PORT_CFG_enable p) then
    if s.f (RG_PORT_STATUS_state p) = psDisabled ∧ s.b (RG_SFP_STATUS_present p) = true ∧ s.b (RG_SFP_STATUS_tx_fault p) = false then
      showFec (s.setF (RG_PORT_STATUS_state p) psDown) p
    else s
  else s.setF (RG_PORT_STATUS_state p) psDisabled

/-! ### Calibration (R59, R60) -/

/-- Value congruent to acc modulo 2^16 for which transit less it lies nearest to a goal (R59 step 2). -/
def resolveAcc (acc transit goal : Nat) : Nat :=
  let best (m k : Nat) : Nat :=
    let a := acc + 65536 * m
    let b := acc + 65536 * k
    if absDiff (transit - a) goal + (a - transit) ≤ absDiff (transit - b) goal + (b - transit) then m else k
  acc + 65536 * ((keysFrom 0 (transit / 65536 + 1)).foldl best 0)

/-- s of segment j; 0 when it has never been measured. -/
def segS (s : Mach) (key j : Nat) : Nat := mapGet (fun _ => 0) (s.rst key).seg j

/-- Half the sum of s over a ring of n stations. -/
def halfSum (s : Mach) (key n : Nat) : Nat := (keysFrom 1 (n + 1)).foldl (fun a j => a + segS s key j) 0 / 2

/-- Clockwise and counter-clockwise delay of segment j in 1/16 ns (R59 step 4): (s/2)(1 ± α), α = (C − A)/(C + A). -/
def segDelay (s : Mach) (key j : Nat) : Nat × Nat :=
  let v := segS s key j
  match (s.rst key).loop with
  | some (c, a) => if c + a = 0 then (8 * v, 8 * v) else (roundQ (16 * v * c) (c + a), roundQ (16 * v * a) (c + a))
  | none => (8 * v, 8 * v)

/-- K of position p from either end of a ring of n stations (R59 step 5). -/
def kOf (s : Mach) (key n p : Nat) : Nat × Nat :=
  ((keysFrom 1 p).foldl (fun a j => a + (segDelay s key j).1) 0,
   (keysFrom (p + 1) (n + 1 - p)).foldl (fun a j => a + (segDelay s key j).2) 0)

/-- The stations of a ring key. -/
def keyStations (s : Mach) (key : Nat) : List Nat :=
  if key < 4 then s.ringStations key
  else s.stations.filter (fun k => s.f (ST_W0_tier k) == 1 && s.f (ST_W0_parent k) == (key - 4) / 4 && s.f (ST_W0_ring k) == (key - 4) % 4)

/-- The ring key of a station. -/
def keyOf (s : Mach) (k : Nat) : Nat :=
  if s.f (ST_W0_tier k) = 1 then 4 + s.f (ST_W0_parent k) * 4 + s.f (ST_W0_ring k) else s.stRing k

/-- Number of stations used for a ring key. -/
def keyN (s : Mach) (key : Nat) : Nat :=
  if key < 4 then ringN s key
  else (keyStations s key).foldl (fun m k => if m < s.f (ST_W0_position k) then s.f (ST_W0_position k) else m) 0

/-- The timing block (Table 04-3). -/
def timingBlock (s : Mach) (k : Nat) : List Byte :=
  beBytes 4 (s.f (ST_W4_k_east k)) ++ beBytes 4 (s.f (ST_W4_k_west k)) ++ beBytes 1 (s.f (ST_W0_hold_limit k))
    ++ beBytes 1 (s.f (ST_W0_group k)) ++ beBytes 1 (s.f (ST_W0_group_en k)) ++ beBytes 5 0

/-- Frames of TC2 and TC3 to a station that wait on one module port move to the other: all but enumerate frames, whose port is chosen. -/
def moveQueued (s : Mach) (k from_ dst : Nat) : Mach :=
  let moves (t : TxFrame) : Bool := t.f.dest == k && decide (2 ≤ t.f.cls) && !t.transit && t.f.type != 0xA
  let x := s.rport from_
  let s := s.setRport from_ { x with tx := x.tx.filter (fun t => !moves t) }
  (x.tx.filter moves).foldl (fun u t => queueOn u dst t) s

/-- R153: the stations of `l` whose route differs from what it was in `old`, by no break: what has not started goes over to the new
route, and starts there only once the old route's D1 + 1 µs has passed. -/
def routeWaits (old s : Mach) (l : List Nat) : Mach :=
  let one (t : Mach) (k : Nat) : Mach :=
    let n := t.stRing k
    let c := t.f (BT_LOOP_cw n)
    let a := t.f (BT_LOOP_ccw n)
    let d := ((if c < a then a else c) + 15) / 16 + ringN t n * 240
    match routeOf old k, routeOf t k with
    | some x, some y =>
      if x = y then t
      else moveQueued { t with ring := { t.ring with wait := mapIns t.ring.wait k (t.now + d + 1000) } } k (2 * n + x) (2 * n + y)
    | _, _ => t
  l.foldl one s

/-- After a calibration: the stations whose preferred direction it changes keep the old one until the beat edge; while beats are off
the change takes effect at once (R153, R155; DEDUCED, log 78). -/
def prefChange (old s : Mach) (l : List Nat) : Mach :=
  let new := l.filter (fun k => prefRoute old k != prefNow s k && !s.ring.prefOld.any (fun x => x.1 == k))
  if s.b BT_STATUS_beat_run then { s with ring := { s.ring with prefOld := s.ring.prefOld ++ new.map (fun k => (k, prefRoute old k)) } }
  else routeWaits old s new

/-- At a beat edge the new directions take effect (R153). -/
def prefEdge (s : Mach) : Mach :=
  routeWaits s { s with ring := { s.ring with prefOld := [] } } (s.ring.prefOld.map (fun x => x.1))

/-! ### Work with stations: adoption and timing blocks -/

/-- Replace the work entry with a station and step. -/
def putAdopt (s : Mach) (a : Adopt) : Mach :=
  { s with ring := { s.ring with adopts := s.ring.adopts.filter (fun b => !(b.stn == a.stn && b.step == a.step)) ++ [a] } }

/-- Remove it. -/
def delAdopt (s : Mach) (a : Adopt) : Mach :=
  { s with ring := { s.ring with adopts := s.ring.adopts.filter (fun b => !(b.stn == a.stn && b.step == a.step)) } }

/-- The module's own units send on a route only when no failed segment lies on it (R151). -/
def unitCanSend (s : Mach) (k : Nat) : Bool := !routeBroken s k

/-- The number the next frame to a station and class takes. -/
def peekSeq (s : Mach) (dest cls : Nat) : Nat := mapGet (fun _ => 0) s.ring.txSeq (seqKey 0 dest cls)

/-- A non-posted register write of the station table engine. -/
def unitWrite (s : Mach) (k off : Nat) (data : List Byte) : Mach :=
  sendToStation s k { f := { type := 0x6, cls := 2, flags := 2, dest := k, launch := s.time32, word := 2 ^ 31 + off,
                             len := data.length, payload := data }, internal := true }

/-- Bytes of a configuration chunk: 1,024, or a whole beat's budget when that is smaller (DESIGN CHOICE). -/
def chunkSize (s : Mach) (k : Nat) : Nat :=
  let b := 64 * s.f (ST_W7_tc3_budget k)
  if b = 0 ∨ 1024 ≤ b then 1024 else b

/-- Queue one chunk of a station's configuration record (R136 step 4, R541), read as the ring's MAC (Table 01-2, log entry 82). -/
def sendChunk (s : Mach) (a : Adopt) : Mach × Adopt :=
  let k := a.stn
  let total := a.cfgLen * 256
  let z := chunkSize s k
  let off := a.chunk * z
  let n := if total < off + z then total - off else z
  let last := decide (total ≤ off + n)
  let src := s.f JN_CFG_REGION_base_mib * mib + a.cfgOff * 256 + off
  let q := peekSeq s k 3
  let f : Frame := { type := 0xB, cls := 3, flags := b2n last, dest := k, launch := s.time32,
                     word := 2 ^ 31 + (0x40000000 + off), len := n, aux := (s.ring.bulkId % 65536) * 65536 + a.chunk,
                     payload := s.dramRead src n }
  let c := unitCheck s (0x58 + s.stRing k) needR (0x400000000 + src) n
  let s := if c.2 then sendToStation c.1 k { f := f, internal := true } else c.1
  (s, { a with chunk := a.chunk + 1, seq := q, sent := last, sentBeat := s.beatNum })

/-- Queue the chunks that a beat's budget lets go (R138); the count is fuel. -/
def sendChunks : Nat → Mach → Adopt → Mach × Adopt
  | 0, s, a => (s, a)
  | n + 1, s, a => if a.sent then (s, a) else
      let r := sendChunk s a
      sendChunks n r.1 r.2

/-- Chunks of one beat. -/
def chunksPerBeat (s : Mach) (k : Nat) : Nat :=
  let b := 64 * s.f (ST_W7_tc3_budget k)
  if b = 0 then 16384 else if b < 1024 then 1 else b / 1024

/-- Queue a delay-request on a port (R131); its stamp t1 is set as it starts. -/
def sendDelayReq (s : Mach) (k n p : Nat) : Mach :=
  sendSingle s n p { f := { type := 0xA, cls := 2, dest := k, launch := s.time32, word := 4, len := 8, payload := beBytes 8 0 },
                     internal := true }

/-- The way from a module port to a station crosses no failed segment. -/
def portClear (s : Mach) (k : Nat) (west : Bool) : Bool :=
  let l := failedNow s (s.stRing k)
  let p := s.f (ST_W0_position (s.stDirect k))
  if west then westClear l p else eastClear l p

/-- The port from which a station is measured: east while it is clear, else west. -/
def measurePort (s : Mach) (k : Nat) : Nat := if portClear s k false then 2 * s.stRing k else 2 * s.stRing k + 1

/-- The station that an exchange of an adoption's step 2 is with. -/
def hopTarget (a : Adopt) : Nat := if a.idx = 0 then a.stn else a.idx

/-- The port out of which an exchange goes: steps 8 and 11 the west port, a neighbour of an adoption the port it was found for. -/
def exchangePort (s : Mach) (a : Adopt) : Nat :=
  let t := hopTarget a
  if a.step = 8 ∨ a.step = 11 then 2 * s.stRing t + 1
  else if a.step = 9 ∨ a.idx = 0 ∨ s.f (ST_W0_tier t) = 1 then measurePort s t
  else 2 * s.stRing t + a.chunk

/-- Make the exchange of R131 that a work entry asks for. One that cannot be made waits while its ring waits for a reroute (R151), and is
else left out: its segment keeps the last measurement (R59, R136). The second result is true when it is left out. -/
def exchangeSend (s : Mach) (a : Adopt) : Mach × Bool :=
  let t := hopTarget a
  let p := exchangePort s a
  if portClear s t (p % 2 == 1) then (putAdopt (sendDelayReq s t (s.stRing t) p) { a with sent := true, sentAt := s.now }, false)
  else if !(s.rst (s.stRing t)).detect.isEmpty then (putAdopt s { a with sent := false }, false)
  else (delAdopt s a, true)

/-- Send a tier-2 probe to its coupler (R142). -/
def sendProbe2 (s : Mach) (n c : Nat) : Mach :=
  let x := s.rst n
  let s := s.setRst n { x with run := { x.run with want := 1, sentAt := s.now } }
  sendToStation s c { f := { type := 0xA, cls := 2, dest := c, launch := s.time32, word := 1, len := 0 }, internal := true }

/-- Start, or go on with, the work entry a: what its step sends. On a route that a break crosses it waits (R151); an exchange that
cannot be made is left out, that of an adoption's own station or of a closed run by the next `adoptPump`. -/
def adoptSend (s : Mach) (a : Adopt) : Mach :=
  let k := a.stn
  match a.step with
  | 2 | 8 =>
    let r := exchangeSend s a
    if r.2 then putAdopt r.1 { a with sent := false } else r.1
  | 9 | 11 => (exchangeSend s a).1
  | 3 => putAdopt s a
  | 4 =>
    if unitCanSend s k then
      let r := sendChunks (chunksPerBeat s k) s a
      putAdopt r.1 r.2
    else putAdopt s a
  | 7 =>
    if unitCanSend s k then
      let q := peekSeq s k 2
      putAdopt (unitWrite s k 0x3FFFFF10 (beBytes 4 a.idx)) { a with seq := q, sent := true, sentBeat := s.beatNum }
    else putAdopt s a
  | 10 => putAdopt s { a with sent := true }
  | 12 =>
    if (s.rst (s.stRing k)).run.want ≠ 3 then delAdopt s a
    else if unitCanSend s k then sendProbe2 (delAdopt s a) (s.stRing k) k
    else putAdopt s a
  | _ =>
    if unitCanSend s k then
      let q := peekSeq s k 2
      putAdopt (unitWrite s k 0x3FFFFF00 (timingBlock s k)) { a with seq := q, sent := true, sentBeat := s.beatNum }
    else putAdopt s a

/-- An adoption starts over from step 2 (Table 04-2, Table 04-9). -/
def adoptAgain (s : Mach) (k : Nat) : Mach := adoptSend (dropAdopt s k) { stn := k, step := 2 }

/-- Step 4 of an adoption, or step 5 when there is no record (R136); one whose values were changed starts over (Table 04-9). -/
def adoptConfig (s : Mach) (k : Nat) : Mach :=
  if s.ring.redo.contains k then adoptAgain s k else
  let s := delAdopt s { stn := k, step := 3 }
  if s.f (ST_W1_cfg_len k) = 0 then adoptSend s { stn := k, step := 5 }
  else
    adoptSend { s with ring := { s.ring with bulkId := s.ring.bulkId + 1 } }
      { stn := k, step := 4, cfgOff := s.f (ST_W5_cfg_off k), cfgLen := s.f (ST_W1_cfg_len k) }

/-- The tier-2 rings that a station reported in its answer; none for one that is no coupler (R142). -/
def tier2Count (s : Mach) (k : Nat) : Nat := mapGet (fun _ => 0) s.ring.tier2 k

/-- Select a coupler's tier-2 ring i, when it has one of that index (R142 step 1). -/
def tier2Select (s : Mach) (c i : Nat) : Mach := if i < tier2Count s c then adoptSend s { stn := c, step := 7, idx := i } else s

/-- A tier-2 run's next probe, once its route is clear. -/
def tier2Probe (s : Mach) (n c i : Nat) : Mach :=
  adoptSend (s.setRst n { s.rst n with run := { want := 3, tier2 := some (c, i) } }) { stn := c, step := 12, idx := i }

/-- Start the run on a coupler's selected tier-2 ring (R142 step 2), once no other run is under way over its parent ring. -/
def tier2Begin (s : Mach) (c i : Nat) : Mach :=
  let n := s.stRing c
  if (s.rst n).run.want = 0 then
    let s := ((s.setF (RG_RING_STATUS_enumerating n) 1).inc (RG_RING_CNT n 4)).setF ST_ENUM_CTRL_busy 1
    tier2Probe s n c i
  else adoptSend s { stn := c, step := 10, idx := i }

/-- D_r of a direct ring, in 1/16 ns, for so many stations. -/
def ringD (s : Mach) (n count : Nat) : Nat :=
  let c := s.f (BT_LOOP_cw n)
  let a := s.f (BT_LOOP_ccw n)
  (if c < a then a else c) + count * 4800

/-- Stations of a ring in states running or held. -/
def runningOn (s : Mach) (key : Nat) : List Nat :=
  (keyStations s key).filter (fun k => s.f (ST_W1_state k) == 3 || s.f (ST_W1_state k) == 4)

/-- D of a tier-2 ring (R64), in 1/16 ns, with so many stations on its coupler's ring and on itself; its loops are kept in that unit as
its coupler reports them. -/
def tier2D (s : Mach) (key base count : Nat) : Nat :=
  let r := s.stRing ((key - 4) / 4)
  match (s.rst key).loop with
  | some (c, a) => ringD s r base + 16000 + (if c < a then a else c) + count * 4800
  | none => ringD s r base + 16000 + count * 4800

/-- The tier-2 rings the table knows. -/
def tier2Keys (s : Mach) : List Nat :=
  ((s.stations.filter (fun k => s.f (ST_W0_tier k) == 1)).map (fun k => 4 + s.f (ST_W0_parent k) * 4 + s.f (ST_W0_ring k))).eraseDups

/-- D_max in 1/16 ns with cnt stations counted on each ring, and the direct ring that sets it (R64). -/
def dMaxOf (s : Mach) (keys : List Nat) (cnt : Nat → Nat) : Nat × Nat :=
  let d := (keysFrom 0 4).map (fun n => (ringD s n (cnt n), n))
  let t := keys.map (fun k => (tier2D s k (cnt (s.stRing ((k - 4) / 4))) (cnt k), s.stRing ((k - 4) / 4)))
  (d ++ t).foldl (fun m x => if m.1 < x.1 then x else m) (0, 0)

/-- D_max over every ring with all its stations. -/
def dMax (s : Mach) : Nat × Nat := dMaxOf s (tier2Keys s) (keyN s)

/-- R67: admitting c stations of a ring keeps D_max within the lead, counted over the stations that run or are held and these. -/
def leadAdmits (s : Mach) (key c : Nat) : Bool :=
  let cnt (j : Nat) : Nat := (runningOn s j).length + (if j = key then c else 0)
  decide ((dMaxOf s ((tier2Keys s).filter (fun j => decide (0 < cnt j))) cnt).1 + 32000 ≤ lead s * 16)

/-- The D_max of the lead check, in 1/16 ns: while a standby is synchronised, the greater of the two places' (R576). -/
def leadD (s : Mach) : Nat :=
  if s.f TW_STATUS_role = 1 ∧ s.b TW_STATUS_sync = true ∧ (dMax s).1 < s.twin.dMax then s.twin.dMax else (dMax s).1

/-- D_max lies above the active lead less 2 µs. -/
def leadOver (s : Mach) : Bool := decide (lead s * 16 < leadD s + 32000)

/-- The adoption of a station is complete (Table 04-2): it is configured; one that the lead has no room for is reported (R67); a
coupler's tier-2 rings come next (R142). -/
def adoptDone (s : Mach) (k : Nat) : Mach :=
  let s := (dropAdopt s k).inc (RG_RING_CNT (s.stRing k) 6)
  let s := (setStn s k 2).raiseStn ST_EVENT_adopted k
  let s := if leadAdmits s (keyOf s k) 1 then s
    else { s.raise BT_EVENT_lead_exceeded with ring := { s.ring with leadTold := addTo s.ring.leadTold k } }
  tier2Select s k 0

/-- A failed attempt of a step: repeat it, up to three in all (R139, R685). A tier-2 ring that cannot be selected is passed over
(DEDUCED). -/
def adoptRetry (s : Mach) (a : Adopt) (status : Nat) : Mach :=
  if a.tries + 1 < 3 then adoptSend (delAdopt s a) { a with tries := a.tries + 1, chunk := 0, sent := false, status := status }
  else if a.step = 7 then tier2Select (delAdopt s a) a.stn (a.idx + 1)
  else
    let s := (delAdopt s a).logE { cause := 0x0301, station := a.stn, detail := Config.packDetail [if a.step = 4 then 4 else 5, status] }
    if a.step = 6 then s
    else ((dropAdopt s a.stn).inc (RG_RING_CNT (s.stRing a.stn) 7)).raiseStn ST_EVENT_replay_fail a.stn

/-- A write-ack of a frame of the station table engine (R136, R139). -/
def adoptAck (s : Mach) (a : Adopt) (status : Nat) : Mach :=
  if status ≠ 0 then adoptRetry s a status
  else if s.ring.redo.contains a.stn ∧ a.step ≤ 5 then adoptAgain s a.stn
  else
    match a.step with
    | 4 => adoptSend (delAdopt s a) { stn := a.stn, step := 5 }
    | 5 => adoptDone s a.stn
    | 7 => tier2Begin (delAdopt s a) a.stn a.idx
    | _ => delAdopt s a

/-- A closed run is done once its calibration has ended and its timing blocks are written (R133). -/
def enumDone (s : Mach) (n : Nat) : Mach :=
  let x := s.rst n
  if x.doneDue && x.calStage == 0 && !s.ring.adopts.any (fun a => a.step == 6 && !a.sent && s.stRing a.stn == n) then
    (s.setRst n { x with doneDue := false }).raise (RG_RING_EVENT_enum_done n)
  else s

/-- The end of a calibration (R59 steps 3 to 5): delays into the station table; the timing blocks that changed, or all
(calMode 1: after a closed run or a written start; 2: after healing, where a K has moved by more than 1 ns). Stations
in step 3 of their adoption go on. A D_max that has risen above the lead is reported (R67). -/
def finishCal (s : Mach) (key : Nat) : Mach :=
  let old := s
  let mode := (s.rst key).calMode
  let n := keyN s key
  let one (t : Mach) (k : Nat) : Mach :=
    let p := t.f (ST_W0_position k)
    let d := segDelay t key p
    let kk := kOf t key n p
    let far := decide (16 < absDiff (t.f (ST_W4_k_east k)) kk.1) || decide (16 < absDiff (t.f (ST_W4_k_west k)) kk.2)
    let t := ((t.setF (ST_W3_d_cw k) d.1).setF (ST_W3_d_ccw k) d.2)
    let t := (t.setF (ST_W4_k_east k) kk.1).setF (ST_W4_k_west k) kk.2
    let st := t.f (ST_W1_state k)
    let adopting := t.ring.adopts.any (fun a => a.stn == k && decide (a.step < 6))
    if (st == 2 || st == 3 || st == 4) && !adopting && (mode == 1 || (mode == 2 && far)) then adoptSend t { stn := k, step := 6 }
    else t
  let s := (keyStations s key).foldl one s
  let s := s.setRst key { s.rst key with calStage := 0, calMode := 0 }
  let s := prefChange old s (keyStations s key)
  let s := if key < 4 then enumDone (s.setF BT_CAL_CTRL_busy 0) key else s
  let s := if leadOver s && !leadOver old then s.raise BT_EVENT_lead_exceeded else s
  let wait := (s.ring.adopts.filter (fun a => a.step == 3)).map (fun a => a.stn)
  (wait.filter (fun k => (keyStations s key).contains k)).foldl adoptConfig s

/-- A calibration downbeat out of a port (R686). -/
def sendCal (s : Mach) (n : Nat) (west : Bool) : Mach :=
  queueOn s (2 * n + b2n west)
    { f := { type := 0x1, cls := 0, flags := 1, route := (if west then 2 else 1), dest := 0x3FFF, launch := s.time32, word := 0,
             len := 32, aux := 0, payload := List.replicate 32 0 }, nominal := some s.now, internal := true }

/-- Start a calibration of a direct ring (R59): the loop is measured when both module ports are up. -/
def startCal (s : Mach) (n mode : Nat) : Mach :=
  let x := s.rst n
  let s := s.setF BT_CAL_CTRL_busy 1
  if s.portUp (2 * n) && s.portUp (2 * n + 1) then
    sendCal (s.setRst n { x with calStage := 1, calSent := s.now, calMode := (if x.calMode = 1 then 1 else mode) }) n false
  else finishCal (s.setRst n { x with calMode := mode }) n

/-- Measure these stations' segments and then calibrate the ring (R59 step 1): stage 4 while exchanges are open. -/
def calAfterHops (s : Mach) (n : Nat) : Mach :=
  if (s.rst n).calStage = 4 ∧ (s.ring.adopts.any (fun a => (a.step == 9 || a.step == 11) && s.stRing a.stn == n)) = false then
    startCal (s.setRst n { s.rst n with calStage := 0 }) n (s.rst n).calMode
  else s

/-- A suspended loop measurement starts again, with C, from the next beat edge (Table 02-11; DESIGN CHOICE, log 78). One that a port which
has gone down cannot end is given up (R59). -/
def calResume (s : Mach) (n : Nat) : Mach :=
  let c := (s.rst n).calStage
  if c = 3 ∨ ((c = 1 ∨ c = 2) ∧ (s.portUp (2 * n) && s.portUp (2 * n + 1)) = false) then startCal (s.setRst n { s.rst n with calStage := 0 }) n (s.rst n).calMode else calAfterHops s n

/-- A loop measurement has arrived: C out of the east port, then A out of the west port (R59 step 2). -/
def calArrive (s : Mach) (p : Nat) (f : Frame) : Mach :=
  let n := p / 2
  let x := s.rst n
  let transit := s.now - x.calSent
  let v := transit - resolveAcc f.acc transit (halfSum s n (ringN s n))
  if x.calStage = 1 ∧ p % 2 = 1 then
    sendCal (s.setRst n { x with calStage := 2, calC := v, calSent := s.now }) n true
  else if x.calStage = 2 ∧ p % 2 = 0 then
    let s := (s.setF (BT_LOOP_cw n) (16 * x.calC)).setF (BT_LOOP_ccw n) (16 * v)
    finishCal (s.setRst n { x with loop := some (x.calC, v) }) n
  else s

/-! ### Enumeration -/

/-- A run may start: the ring's enumeration is enabled and the module is not standby. -/
def mayEnum (s : Mach) (n : Nat) : Bool := s.b (RG_RING_CFG_enum_en n) && !s.standby

/-- Send a probe out of a port and wait for its answer (R127). -/
def sendProbe (s : Mach) (n : Nat) (west : Bool) : Mach :=
  let x := s.rst n
  let s := s.setRst n { x with run := { x.run with want := 1, west := west, sentAt := s.now } }
  sendSingle s n (2 * n + b2n west) { f := { type := 0xA, cls := 2, dest := 0x3FFF, launch := s.time32, word := 1, len := 0 }, internal := true }

/-- Start a run on a ring, or note that one more is wanted after the present one (R126). With neither module port up its probe goes
nowhere, and the run ends by its timeout (R127). -/
def enumStart (s : Mach) (n : Nat) : Mach :=
  if !mayEnum s n then s
  else if (s.rst n).run.want ≠ 0 then s.setRst n { s.rst n with again := true }
  else
    let s := (s.setF (RG_RING_STATUS_enumerating n) 1).inc (RG_RING_CNT n 4)
    let s := s.setF ST_ENUM_CTRL_busy 1
    sendProbe (s.setRst n { s.rst n with run := {} }) n (!s.portUp (2 * n))

/-- The tier-2 run that waits on a ring starts (R142). -/
def tier2Next (s : Mach) (n : Nat) : Mach :=
  match s.ring.adopts.find? (fun a => a.step == 10 && s.stRing a.stn == n) with
  | some a => if (s.rst n).run.want = 0 then tier2Begin (delAdopt s a) a.stn a.idx else s
  | none => s

/-- A run ends; one that was asked for meanwhile starts (R126), then one of a tier-2 ring. -/
def enumEnd (s : Mach) (n : Nat) : Mach :=
  let again := (s.rst n).again
  let s := s.setRst n { s.rst n with run := {}, again := false }
  let s := s.setF (RG_RING_STATUS_enumerating n) 0
  let s := if (keysFrom 0 4).all (fun m => (s.rst m).run.want == 0) then s.setF ST_ENUM_CTRL_busy 0 else s
  tier2Next (if again then enumStart s n else s) n

/-- The valid entry at a position of a ring key. -/
def stationAt (s : Mach) (key p : Nat) : Option Nat := (keyStations s key).find? (fun k => s.f (ST_W0_position k) == p)

/-- The ring key of a run. -/
def runKey (n : Nat) (r : EnumRun) : Nat :=
  match r.tier2 with
  | some (c, i) => 4 + c * 4 + i
  | none => n

/-- The station count of the last closed run; before one, RG_RING_CFG.expected (R129). -/
def nRef (s : Mach) (key : Nat) : Nat :=
  if (s.rst key).closedOnce then (s.rst key).closedN else if key < 4 then s.f (RG_RING_CFG_expected key) else 0

/-- The measured cable round trip of a position from a port, if known; the module port itself has 0. -/
def cableOf (s : Mach) (key p : Nat) (west : Bool) : Option Nat :=
  if west ∧ p = nRef s key + 1 then some 0
  else if ¬ west ∧ p = 0 then some 0
  else ((s.rst key).cable.find? (fun x => x.1 == p * 2 + b2n west)).map (fun x => x.2)

/-- R129: the position of an answering station from its hops and round trip. -/
def resolvePos (s : Mach) (key hops l : Nat) (west : Bool) : Option Nat :=
  let cand := if west then
      (keysFrom 1 1024).filter (fun p => p % 256 == (nRef s key + 65536 - hops) % 256)
    else (keysFrom 1 1024).filter (fun p => p % 256 == (hops + 1) % 256)
  let near (p : Nat) : Option Nat := cableOf s key (if west then p + 1 else p - 1) west
  let step (best : Option (Nat × Nat)) (p : Nat) : Option (Nat × Nat) :=
    match near p with
    | some c =>
      if c < l then
        (match best with
         | some (_, bc) => if bc < c then some (p, c) else best
         | none => some (p, c))
      else best
    | none => best
  (cand.foldl step none).map (fun x => x.1)

/-- The lowest number of ST_AUTO_RANGE without a valid entry. -/
def freeNumber (s : Mach) : Option Nat :=
  let b := s.f ST_AUTO_RANGE_base
  (keysFrom b (s.f ST_AUTO_RANGE_limit + 1 - b)).find? (fun k => k != 0 && k != 0x3FFF && !s.b (ST_W0_valid k))

/-- What an answer carries (Table 03-8). -/
structure AnsData where
  typeId : Nat
  serial : Nat
  coupler : Nat
deriving DecidableEq, Repr

/-- Read an answer's payload. -/
def ansOf (f : Frame) : AnsData :=
  let g (o n : Nat) : Nat := beNat ((f.payload.drop o).take n)
  ⟨g 0 4, g 4 8, g 16 4⟩

/-- R130 case 1: the positions at p and beyond move up by one. -/
def shiftPositions (s : Mach) (key p : Nat) : Mach :=
  ((keyStations s key).filter (fun k => decide (p ≤ s.f (ST_W0_position k)))).foldl
    (fun t k => t.setBoth (ST_W0_position k) (t.f (ST_W0_position k) + 1)) s

/-- The answered type of an entry. -/
def setAns (s : Mach) (k t : Nat) : Mach := { s with ring := { s.ring with ans := mapSet (fun _ => 0) s.ring.ans k t } }
/-- Read it (ST_ANS_TYPE). -/
def ansType (s : Mach) (k : Nat) : Nat := mapGet (fun _ => 0) s.ring.ans k

/-- R140: an entry is held in discovered until a committed hold_req of 0. -/
def stopEntry (s : Mach) (k : Nat) : Mach :=
  let s := s.setBoth (ST_W1_hold_req k) 1
  { s with ring := { s.ring with stopped := addTo s.ring.stopped k } }

/-- R130 case 3: a new entry. -/
def newEntry (s : Mach) (k key p : Nat) (a : AnsData) : Mach :=
  let s := (s.setBoth (ST_W0_valid k) 1).setF (ST_W0_station k) k
  let s := s.setBoth (ST_W0_position k) p
  let s := if key < 4 then (s.setBoth (ST_W0_tier k) 0).setBoth (ST_W0_ring k) key
    else ((s.setBoth (ST_W0_tier k) 1).setBoth (ST_W0_parent k) ((key - 4) / 4)).setBoth (ST_W0_ring k) ((key - 4) % 4)
  let s := ((s.setBoth (ST_W1_type_id k) a.typeId).setBoth (ST_W1_cfg_len k) 0).setBoth (ST_W0_group_en k) 0
  stopEntry s k

/-- The number an answering station gets, and the state with its entry (R130); none when no number is free. A clamped entry stays clamped
whatever type answers, and range_full names station 0 (DESIGN CHOICE, log 78). -/
def chooseNumber (s : Mach) (key p : Nat) (a : AnsData) : Mach × Option Nat :=
  let hit := stationAt s key p
  let shift := match hit with
    | some k => s.f (ST_W1_state k) != 0 && s.f (ST_W2_serial k) != a.serial
    | none => false
  match hit, shift with
  | some k, false =>
    let s := setAns (s.setF (ST_W2_serial k) a.serial) k a.typeId
    let other := s.f (ST_W1_type_id k) != a.typeId
    let s := s.setF (ST_W1_type_mismatch k) (b2n other)
    let s := if s.f (ST_W1_state k) = 5 then s else setStn s k 1
    ((if other then s.raiseStn ST_EVENT_type_mismatch k else s), some k)
  | _, _ =>
    let s := if shift then shiftPositions s key p else s
    match freeNumber s with
    | none => (s.raiseStn ST_EVENT_range_full 0, none)
    | some k =>
      let s := setAns ((newEntry s k key p a).setF (ST_W2_serial k) a.serial) k a.typeId
      ((setStn s k 1).raiseStn ST_EVENT_new_station k, some k)

/-- Adoption may go on past the assign: the type fits, the entry is discovered and not held there (R140, R141). -/
def adoptFree (s : Mach) (k : Nat) : Bool :=
  s.f (ST_W1_state k) == 1 && s.f (ST_W1_type_mismatch k) == 0 && !s.ring.stopped.contains k

/-- Both sides of an adopted station are measured: the ring is calibrated (R136 step 3), a tier-2 ring with the loop that its coupler
last reported (R146). -/
def adoptAfterHop (s : Mach) (k : Nat) : Mach :=
  if s.ring.redo.contains k then adoptAgain s k else
  let n := s.stRing k
  let s := putAdopt (delAdopt s { stn := k, step := 2 }) { stn := k, step := 3 }
  if s.f (ST_W0_tier k) = 1 then finishCal s (keyOf s k)
  else if (s.rst n).calStage ≠ 0 then s else startCal s n 0

/-- The station whose exchange measures the segment on the far side of station k, and the port it goes out of: the neighbour's,
or at the end of a direct ring k's own out of the other module port (R131, R136 step 2). -/
def farHop (s : Mach) (k key : Nat) (west : Bool) : Option (Nat × Bool) :=
  let p := s.f (ST_W0_position k)
  let clear (j : Nat) (w : Bool) : Bool :=
    let l := failedNow s (s.stRing j)
    let q := s.f (ST_W0_position (s.stDirect j))
    if w then westClear l q else eastClear l q
  if key < 4 ∧ (if west then p = 1 else p = ringN s key) then
    if clear k (!west) then some (k, !west) else none
  else
    match stationAt s key (if west then p - 1 else p + 1) with
    | some j => if s.f (ST_W1_state j) ≠ 0 ∧ s.f (ST_W1_state j) ≠ 5 ∧ clear j west = true then some (j, west) else none
    | none => none

/-- Start the second hop measurement of an adoption, or go on without it. -/
def adoptFarHop (s : Mach) (k key : Nat) (west : Bool) : Mach :=
  match farHop s k key west with
  | some (j, w) => adoptSend (delAdopt s { stn := k, step := 2 }) { stn := k, step := 2, idx := j, chunk := b2n w }
  | none => adoptAfterHop s k

/-- A measured round trip: L of a position and s of the segment towards the probing port (R131). -/
def recordHop (s : Mach) (key p l : Nat) (west : Bool) : Mach :=
  let near := (cableOf s key (if west then p + 1 else p - 1) west).getD 0
  let x := s.rst key
  let j := if west then p + 1 else p
  s.setRst key { x with cable := mapIns x.cable (p * 2 + b2n west) l, seg := mapSet (fun _ => 0) x.seg j (l - near) }

/-- L of a delay-answer: (t4 − t1) − (t3 − t2) − acc, with the accumulator resolved against the neighbour's known
residence plus 120 ns (R131). Also the residence. Both less the part of a parent ring, `base` (R143). -/
def answerL (s : Mach) (key p : Nat) (f : Frame) (west : Bool) (base : Nat × Nat) : Nat × Nat :=
  let g (o : Nat) : Nat := beNat ((f.payload.drop o).take 8)
  let raw := (s.now - g 0) - (g 16 - g 8)
  let known := mapGet (fun _ => 0) (s.rst key).resid ((if west then p + 1 else p - 1) * 2 + b2n west)
  let goal := base.2 + known + 120
  let m := (goal + 32768 - f.acc) / 65536
  let acc := f.acc + 65536 * (if goal + 32768 < f.acc then 0 else m)
  (raw - acc - base.1, acc - base.2)

/-- The cable round trip and the residence of a coupler over its parent ring from a port; nothing for a direct ring's key. -/
def parentPart (s : Mach) (key : Nat) (west : Bool) : Nat × Nat :=
  if key < 4 then (0, 0)
  else
    let c := (key - 4) / 4
    let n := s.stRing c
    let p := s.f (ST_W0_position c)
    ((cableOf s n p west).getD 0, mapGet (fun _ => 0) (s.rst n).resid (p * 2 + b2n west))

/-- The hops of a coupler's frames over its parent ring to a port (R143). -/
def parentHops (s : Mach) (key : Nat) (west : Bool) : Nat :=
  let c := (key - 4) / 4
  let p := s.f (ST_W0_position c)
  if west then ringN s (s.stRing c) - p else p - 1

/-- R133 step 2: every reachable station takes the position its latest hops at the east port give (R129: of the
candidates, the one whose neighbour's cable round trip is the greatest below its own). -/
def setPositions (s : Mach) (n : Nat) : Mach :=
  let here := (s.ringStations n).filter (fun k => s.f (ST_W1_state k) != 0)
  let want (k : Nat) : Option Nat :=
    match s.ring.hopsE.find? (fun x => x.1 == k) with
    | some x =>
      match cableOf s n (s.f (ST_W0_position k)) false with
      | some l => resolvePos s n x.2 l false
      | none => none
    | none => none
  let new := here.filterMap (fun k =>
    match want k with
    | some p => if p = s.f (ST_W0_position k) then none else some (k, p)
    | none => none)
  let s := new.foldl (fun t x => t.setBoth (ST_W0_position x.1) x.2) s
  if new.isEmpty then s else s.raise (RG_RING_EVENT_topology_changed n)

/-- Make an exchange, or go on without it: with an adoption's far side or its calibration, with a closed run's or a started calibration. -/
def exchangeGo (s : Mach) (a : Adopt) : Mach :=
  let r := exchangeSend s a
  if !r.2 then r.1
  else
    let n := s.stRing a.stn
    match a.step with
    | 8 => startCal r.1 n 1
    | 2 => if a.idx = 0 then adoptFarHop r.1 a.stn (keyOf s a.stn) (exchangePort s a % 2 == 1 && decide (keyOf s a.stn < 4)) else adoptAfterHop r.1 a.stn
    | _ => calAfterHops r.1 n

/-- Go on with the work that has not been sent (at a beat edge, or after a route is clear). -/
def adoptPump (s : Mach) : Mach :=
  let go (t : Mach) (a : Adopt) : Mach :=
    if a.sent || a.step == 3 then t else if [2, 8, 9, 11].contains a.step then exchangeGo t a else adoptSend t a
  (keysFrom 0 4).foldl enumDone (s.ring.adopts.foldl go s)

/-- R133: a run that reached the other module port ends. -/
def closeRun (s : Mach) (n hops : Nat) : Mach :=
  let live := ((s.ringStations n).filter (fun k => s.f (ST_W1_state k) != 0)).length
  let cand := (keysFrom 0 1025).filter (fun c => c % 256 == hops % 256)
  let cnt := cand.foldl (fun b c => if absDiff c live ≤ absDiff b live then c else b) (cand.headD 0)
  let s := setPositions s n
  let x := s.rst n
  let s := s.setF (RG_RING_STATUS_count n) cnt
  let s := s.setRst n { x with closedOnce := true, closedN := cnt, calMode := 1, doneDue := true }
  let s := reclass s n
  let s := enumEnd s n
  match stationAt s n cnt with
  | some k => exchangeGo s { stn := k, step := 8 }
  | none => startCal s n 1

/-- The station at a position, when an exchange with it can be made in its state. -/
def hopAt (s : Mach) (n p : Nat) : Option Nat :=
  match stationAt s n p with
  | some k => if s.f (ST_W1_state k) = 0 ∨ s.f (ST_W1_state k) = 5 then none else some k
  | none => none

/-- Measure segment j from the module: by an exchange with position j from the east port, else with position j − 1 from the west port, as
segment N + 1 is (R131). -/
def measureSeg (s : Mach) (n j : Nat) : Mach :=
  match hopAt s n j, hopAt s n (j - 1) with
  | some k, _ => adoptSend s { stn := k, step := 9 }
  | none, some k => adoptSend s { stn := k, step := 11 }
  | none, none => s

/-- Segment N + 1 (R131). -/
def lastSegment (s : Mach) (n : Nat) : Mach :=
  match hopAt s n (ringN s n) with
  | some k => adoptSend s { stn := k, step := 11 }
  | none => s

/-- A ring returns to closed: each segment that has failed since it last was is measured, and the ring calibrated (R154). -/
def ringClose (s : Mach) (n : Nat) : Mach :=
  let old := s
  let x := s.rst n
  let rep := x.repair
  let s := s.setRst n { x with avoid := [], repair := [], detect := [], second := false, heal := 0 }
  let s := (setRingState s n 1).setF (RG_RING_STATUS_heal_wait n) 0
  let s := routeWaits old (setBreak s n []) (s.stations.filter (fun k => s.stRing k == n))
  let s := s.setRst n { s.rst n with calStage := 4, calMode := 2 }
  let s := s.setF BT_CAL_CTRL_busy 1
  calAfterHops (rep.foldl (fun t j => measureSeg t n j) (pushWaiting (sendHeld s n))) n

/-- A run on a tier-2 ring ends; the coupler's next ring follows (R142). -/
def tier2End (s : Mach) (n c i : Nat) : Mach :=
  tier2Select (enumEnd s n) c (i + 1)

/-- An answer to a run's probe (R129, R130). -/
def enumAnswer (s : Mach) (p : Nat) (f : Frame) : Mach :=
  let n := p / 2
  let r := (s.rst n).run
  let key := runKey n r
  let west := r.west
  let l := s.now - r.sentAt - f.acc - (parentPart s key (p % 2 == 1)).1
  let hops := if key < 4 then f.hops else f.hops + 256 - parentHops s key (p % 2 == 1) % 256
  let a := ansOf f
  let stop (t : Mach) : Mach := match r.tier2 with
    | some (c, i) => tier2End t n c i
    | none => enumEnd t n
  match resolvePos s key hops l west with
  | none => stop (s.logE { cause := 0x0302, detail := Config.packDetail [n, f.hops, l] })
  | some pos =>
    if west ∧ nRef s key = 0 then stop s
    else
      let r2 := chooseNumber s key pos a
      match r2.2 with
      | none => stop r2.1
      | some k =>
        let s := withdrawEnd (rxForget (rxForget (dropAdopt r2.1 k) k) 0x3FFF) k
        let rings2 := Config.couplerRings a.coupler
        let s := { s with ring := { s.ring with tier2 := mapSet (fun _ => 0) s.ring.tier2 k (if 4 < rings2 then 4 else rings2),
                                                silent := mapSet (fun _ => 0) s.ring.silent k 0 } }
        let s := s.setF (ST_W7_last_seen k) s.beatNum
        let s := s.inc (RG_RING_CNT n 5)
        let s := if s.f (RG_RING_CFG_auto_adopt n) = 0 then stopEntry s k else s
        let pay := beBytes 2 k ++ beBytes 1 (key % 4) ++ beBytes 1 (b2n (decide (4 ≤ key))) ++ beBytes 2 pos ++ beBytes 2 0
        let dst := match r.tier2 with
          | some (c, _) => c
          | none => 0x3FFF
        let asg : TxFrame := { f := { type := 0xA, cls := 2, dest := dst, launch := s.time32, word := 3, len := 8, payload := pay }, internal := true }
        let s := sendSingle s n p asg
        let x := s.rst n
        let s := s.setRst n { x with run := { r with want := 2, port := p, num := k, tries := 1, sentAt := s.now } }
        sendDelayReq s k n p

/-- An exchange of R131 under way with station k. -/
def exchangeWith (a : Adopt) (k : Nat) : Bool :=
  (a.step == 2 && hopTarget a == k) || ((a.step == 8 || a.step == 9 || a.step == 11) && a.stn == k)

/-- R131: a delay-answer of the run's station, or of a station being adopted or measured. -/
def delayAnswer (s : Mach) (p : Nat) (f : Frame) : Mach :=
  let n := p / 2
  let r := (s.rst n).run
  let k := f.src
  let key := keyOf s k
  let west := p % 2 == 1 && decide (key < 4)
  let pos := s.f (ST_W0_position k)
  let l := answerL s key pos f west (parentPart s key (p % 2 == 1))
  let put (t : Mach) : Mach :=
    let t := recordHop t key pos l.1 west
    t.setRst key { t.rst key with resid := mapIns (t.rst key).resid (pos * 2 + b2n west) l.2 }
  if r.want = 2 ∧ r.num = k then
    let s := put s
    let s := if adoptFree s k then adoptFarHop (putAdopt s { stn := k, step := 2 }) k key west else s
    match r.tier2 with
    | some (c, i) => tier2Probe s n c i
    | none => sendProbe s n r.west
  else
    match s.ring.adopts.find? (fun a => a.sent && exchangeWith a k && (a.step != 8 && a.step != 11 || p % 2 == 1) &&
        (a.step != 2 || a.idx == 0 || decide (4 ≤ key) || a.chunk == p % 2)) with
    | none => s
    | some a =>
      let s := put s
      if a.step = 8 then startCal (delAdopt s a) n 1
      else if a.step = 9 ∨ a.step = 11 then calAfterHops (delAdopt s a) n
      else if a.idx = 0 then adoptFarHop s a.stn key west
      else adoptAfterHop s a.stn

/-- DELAY_REQUEST_TIMEOUT for station k: 5 ms after the request (R131). -/
def delayTimeout (s : Mach) (k : Nat) : Mach :=
  let n := s.stRing k
  let r := (s.rst n).run
  if r.want = 2 ∧ r.num = k then
    let s := s.upTo (r.sentAt + 5000000)
    if r.tries < 3 then
      sendDelayReq (s.setRst n { s.rst n with run := { r with tries := r.tries + 1, sentAt := s.now } }) k n r.port
    else
      let s := s.logE { cause := 0x0303, station := k, detail := k }
      match r.tier2 with
      | some (c, i) => tier2End s n c i
      | none => enumEnd s n
  else
    match s.ring.adopts.find? (fun a => a.sent && exchangeWith a k) with
    | none => s
    | some a =>
      let s := s.upTo (a.sentAt + 5000000)
      if a.tries + 1 < 3 then adoptSend (delAdopt s a) { a with tries := a.tries + 1, sent := false }
      else
        let s := (delAdopt s a).logE { cause := 0x0303, station := k, detail := k }
        if a.step = 8 then startCal s n 1
        else if a.step = 9 ∨ a.step = 11 then calAfterHops s n
        else if a.idx ≠ 0 then adoptAfterHop s a.stn else s

/-- ENUM_PROBE_TIMEOUT: no answer within 5 ms (R127). -/
def probeTimeout (s : Mach) (n : Nat) : Mach :=
  let r := (s.rst n).run
  if r.want ≠ 1 then s
  else
    let s := s.upTo (r.sentAt + 5000000)
    match r.tier2 with
    | some (c, i) => tier2End s n c i
    | none => if !r.west && s.portUp (2 * n + 1) then sendProbe s n true else enumEnd s n

/-- ENUM_PROBE_RETURN: the probe arrives at the other module port (R133). While beats are off a ring whose segments are
all up closes here (R154). -/
def probeReturn (s : Mach) (p : Nat) (f : Frame) : Mach :=
  let n := p / 2
  let r := (s.rst n).run
  if r.want = 1 ∧ r.tier2 = none ∧ p % 2 = b2n (!r.west) then
    let s := closeRun s n f.hops
    if !s.b BT_STATUS_beat_run && (failedNow s n).isEmpty && s.f (RG_RING_STATUS_state n) != 1 then ringClose s n else s
  else s

/-- A port comes up (R81 step 4, R126): its segment waits for no reroute any more, and what had no other route goes out. -/
def portUpNow (s : Mach) (p : Nat) : Mach :=
  let s := ((s.setF (RG_PORT_STATUS_state p) psUp).raise (RG_PORT_EVENT_up p))
  let n := p / 2
  let j := if p % 2 = 0 then 1 else ringN s n + 1
  let s := reclass (s.setRst n { s.rst n with detect := (s.rst n).detect.filter (fun d => d.1 != j) }) n
  enumStart (pushWaiting (sendHeld s n)) n

/-- A station reports a port of its own down or up (Table 04-5): the segment on that side. -/
def stationPort (s : Mach) (k cond : Nat) (up : Bool) : Mach :=
  let n := s.stRing k
  let pos := s.f (ST_W0_position (s.stDirect k))
  let j := if bitAt cond 0 then pos + 1 else pos
  if s.f (ST_W0_tier k) = 1 then s
  else if up then enumStart (pushWaiting (sendHeld (segUp s n [j]) n)) n else segFail s n j false

end Sys2Proof.Machine
end

