-- ==== Sys2Proof/Machine/Stage.lean ====
section
/-!
DEFINITION. The staging point (R4 to R7, R648 to R651): the checks of a set that would become active, commits, and the
change of the active registers at the edge that applies a commit.
-/
namespace Sys2Proof.Machine

/-! ### The set that would become active -/

/-- The mask of a register's RWS fields. -/
def rwsMask (k : Nat) : U64 :=
  match findCard k (blockCards k) with
  | some c => c.fields.foldl (fun m f => if f.2.2 = .rws then m ||| fieldMask f.1 f.2.1 else m) 0
  | none => 0

/-- One register takes the RWS fields of a set. -/
def takeSet (m : List (Nat × U64)) (s : Mach) (k : Nat) : Mach :=
  let w := rwsMask k
  if w = 0 then s else s.setR k ((s.r k &&& ~~~w) ||| (mapGet regReset m k &&& w))

/-- The active registers with every RWS field taken from a set of staging copies (R5). -/
def applySet (s : Mach) (m : List (Nat × U64)) : Mach :=
  ((s.regs.map (fun p => p.1)) ++ (m.map (fun p => p.1))).foldl (takeSet m) s

/-- The state as it would be with the present staging copies active. -/
def stagedView (s : Mach) : Mach := applySet s s.staged

/-- The indices below n whose register of a family (first key, stride) is listed, in ascending order. -/
def listed (v : Mach) (base stride n : Nat) : List Nat :=
  (v.regs.filter (fun p => decide (base ≤ p.1) && decide (p.1 < base + stride * n) && (p.1 - base) % stride == 0)).map
    (fun p => (p.1 - base) / stride)

/-! ### Block 0x01: phases, lead and period (R52, R64 to R66, R174) -/

/-- D_max in whole ns: from the module's own place, and from its synchronised standby's (R576). -/
def dMaxNs (v : Mach) : Nat := (leadD v + 15) / 16

/-- The cause of BT_LEAD_CHECK for a set. -/
def leadCause (v : Mach) : Nat :=
  let p := period v
  let l := lead v
  let inp := phaseOff v 1
  let cmp := phaseOff v 2
  let out := phaseOff v 3
  let dec := phaseOff v 4
  if v.f BT_BEAT_PERIOD_period_10ns < 5000 ∨ 100000000 < v.f BT_BEAT_PERIOD_period_10ns then 4
  else if l < dMaxNs v + 2000 then 1
  else if p < l + 2000 then 2
  else if ¬ (0 < inp ∧ inp ≤ cmp ∧ cmp ≤ out ∧ out + l < p) then 3
  else if ¬ (out < dec ∧ dec + l + 2000 ≤ p) then 3
  else 0

/-- BT_DMAX and BT_LEAD_CHECK after a check. -/
def showLead (s v : Mach) : Mach :=
  let s := (s.setF BT_DMAX_dmax_ns (dMaxNs v)).setF BT_DMAX_ring (dMax v).2
  (s.setF BT_LEAD_CHECK_cause (leadCause v)).setF BT_LEAD_CHECK_min_lead_ns (dMaxNs v + 2000)

/-! ### Block 0x02: cyclic load (R158) -/

/-- Bytes of a station's image of a size on the ring, with its frames' overhead. -/
def imageLoad (n : Nat) : Nat := n + 56 * ((n + 1023) / 1024)

/-- The stations that a direct ring carries: its own, and the tier-2 stations below its couplers. -/
def carried (v : Mach) (n : Nat) : List Nat := v.stations.filter (fun k => v.stRing k == n)

/-- Clockwise and counter-clockwise loads of a ring, of image-in and of image-out, on the routes as breaks found so far leave them
(Table 04-9). -/
def ringLoads (v : Mach) (n : Nat) : (Nat × Nat) × (Nat × Nat) :=
  let single := v.b (RG_RING_CFG_single_dir n)
  let step (a : (Nat × Nat) × (Nat × Nat)) (k : Nat) : (Nat × Nat) × (Nat × Nat) :=
    let i := imageLoad (v.f (ST_W5_in_size k))
    let o := imageLoad (v.f (ST_W5_out_size k))
    if single then
      if (routeNext v k).getD (prefRoute v k) = 0 then ((a.1.1, a.1.2 + i), (a.2.1 + o, a.2.2))
      else ((a.1.1 + i, a.1.2), (a.2.1, a.2.2 + o))
    else ((a.1.1 + i, a.1.2 + i), (a.2.1 + o, a.2.2 + o))
  (carried v n).foldl step ((0, 0), (0, 0))

/-- S_dir of both directions. -/
def ringCap (v : Mach) (n : Nat) : Nat × Nat :=
  let l := ringLoads v n
  (l.1.1 + l.2.1, l.1.2 + l.2.2)

/-- A ring's load exceeds 2.5 bytes per ns times the period. -/
def capOver (v : Mach) (n : Nat) : Bool :=
  let c := ringCap v n
  decide (5 * period v < 2 * c.1) || decide (5 * period v < 2 * c.2)

/-- RG_RING_CAP after a check. -/
def showCap (s v : Mach) : Mach :=
  (keysFrom 0 4).foldl (fun t n => (t.setF (RG_RING_CAP_s_cw n) (ringCap v n).1).setF (RG_RING_CAP_s_ccw n) (ringCap v n).2) s

/-! ### Block 0x03: station entries (R135) -/

/-- Two valid entries share ring, tier, parent and position. -/
def samePlace (v : Mach) (a b : Nat) : Bool :=
  a != b && v.f (ST_W0_ring a) == v.f (ST_W0_ring b) && v.f (ST_W0_tier a) == v.f (ST_W0_tier b)
    && v.f (ST_W0_parent a) == v.f (ST_W0_parent b) && v.f (ST_W0_position a) == v.f (ST_W0_position b)

/-- R135. -/
def stationsBad (v : Mach) : Bool :=
  let l := v.stations
  l.any (fun k => decide (v.f (ST_W0_hold_limit k) < 3) || v.f (ST_W5_in_size k) % 4 != 0 || v.f (ST_W5_out_size k) % 4 != 0
    || v.f (ST_W0_pref_dir k) == 3 || l.any (fun j => samePlace v k j))

/-! ### Block 0x04: translation entries (R366) -/

/-- R366 for one entry. -/
def attBad (v : Mach) (i : Nat) : Bool :=
  let fa := v.f (AT_E0_fab_page i) * mib
  let sp := faSpace fa
  let stn := faStation fa
  v.b (AT_E0_valid i) &&
  (sp == 3 || (decide (sp < 2) && stn == 0) || (stn == 0x3FFF && decide (sp < 2) && v.b (AT_E0_r i))
    || (sp == 2 && (fa / 2 ^ 24 % 2 ^ 20 != 0 || v.b (AT_E0_mtype i)))
    || (v.b (AT_E0_pf i) && (!v.b (AT_E0_mtype i) || v.b (AT_E0_rs i)))
    || decide (5 ≤ v.f (AT_E0_acc_w i)) || (v.b (AT_E0_strict i) && v.f (AT_E0_acc_w i) == 0))

/-- The first failing translation entry. -/
def attFail (v : Mach) : Option Nat := (listed v (AT_E0 0) 0x20 65536).find? (attBad v)

/-! ### Block 0x05: status mirrors (R414) -/

/-- R414 for one mirror. -/
def mirrorBad (v : Mach) (m : Nat) : Bool :=
  v.b (BR_MCFG_valid m) && (v.f (BR_MCFG_len_w m) == 0 || v.f (BR_MCFG_len_w m) == 15 || decide (2 ≤ faSpace (v.f (BR_MFAB_faddr m))))

/-- The first failing mirror. -/
def mirrorFail (v : Mach) : Option Nat := (listed v (BR_MCFG 0) 0x80 256).find? (mirrorBad v)

/-! ### Block 0x08: reflex entries (R471, R472) -/

/-- The valid reflex entries. -/
def reflexEntries (v : Mach) : List Nat := (listed v (TX_W0 0) 0x100 4096).filter (fun i => v.b (TX_W0_valid i))

/-- R471 for one output of an entry. -/
def outputBad (v : Mach) (i o : Nat) : Bool :=
  let k := v.f (TX_WO_station i o)
  let z := v.f (TX_WO_size i o)
  decide (4 ≤ z) || v.f (TX_WO_offset i o) % 2 ^ z != 0 || k == 0 || (k != 0x3FFF && !v.stValid k)

/-- The first entry whose content is refused. -/
def reflexFail (v : Mach) : Option Nat :=
  (reflexEntries v).find? (fun i => (keysFrom 0 (v.f (TX_W0_nout_m1 i) + 1)).any (outputBad v i))

/-- Outputs of an entry to stations of ring r. -/
def outputsTo (v : Mach) (i r : Nat) : Nat :=
  ((keysFrom 0 (v.f (TX_W0_nout_m1 i) + 1)).filter (fun o =>
    v.f (TX_WO_station i o) == 0x3FFF || v.stRing (v.f (TX_WO_station i o)) == r)).length

/-- k(r', r) of R472, with the entry that sets it. -/
def fanK (v : Mach) (rs r : Nat) : Nat × Nat :=
  (reflexEntries v).foldl (fun m i =>
    if (v.b (TX_W0_any_src i) || v.stRing (v.f (TX_W0_src i)) == rs) && decide (m.1 < outputsTo v i r) then (outputsTo v i r, i) else m) (0, 0)

/-- The load of R472 on ring r. -/
def fanLoad (v : Mach) (r : Nat) : Nat := (keysFrom 0 4).foldl (fun a q => a + (fanK v q r).1) 0

/-- The first ring over its fan-out load. -/
def fanFail (v : Mach) : Option Nat := (keysFrom 0 4).find? (fun r => decide (6 < fanLoad v r))

/-- TX_CHECK after a check. For a fan-out failure the entry shown is the one with the most outputs to the ring. -/
def showReflex (s v : Mach) : Mach :=
  let put (c load ring entry : Nat) : Mach :=
    (((s.setF TX_CHECK_cause c).setF TX_CHECK_load (satAt 7 load)).setF TX_CHECK_ring ring).setF TX_CHECK_entry entry
  match reflexFail v with
  | some i => put 2 0 0 i
  | none =>
    match fanFail v with
    | some r =>
      let best := (keysFrom 0 4).foldl (fun m q => if m.1 < (fanK v q r).1 then fanK v q r else m) (0, 0)
      put 1 (fanLoad v r) r best.2
    | none => put 0 0 0 0

/-! ### Block 0x09: group modes and the vote window (R166, R178) -/

/-- A group is in the reserved mode. -/
def groupBad (v : Mach) : Bool := (keysFrom 0 256).any (fun g => v.f (SK_GROUP_CFG_mode g) == 3)

/-- W_min in 1/80 ns (R178). -/
def wMin (v : Mach) : Nat :=
  let one (n : Nat) : Nat :=
    let o := (ringLoads v n).2
    let big := if o.1 < o.2 then o.2 else o.1
    let c := v.f (BT_LOOP_cw n)
    let a := v.f (BT_LOOP_ccw n)
    let loop := if c < a then a else c
    big * 32 + loop * 5 + ringN v n * 240 * 80 + ringD v n (ringN v n) * 5 + 1000 * 80
  (keysFrom 0 4).foldl (fun m n => if m < one n then one n else m) 0

/-- SK_WINDOW, in ns rounded up, and its warning (R178). -/
def showWindow (s v : Mach) : Mach :=
  let s := s.setF SK_WINDOW_wmin_ns ((wMin v + 79) / 80)
  if phaseOff v 4 * 80 < phaseOff v 3 * 80 + wMin v then s.raise SK_EVENT_window_short else s

/-! ### Block 0x0A: bindings (R198, R219) -/

/-- R198: a phase binding names a reserved phase or fires at or beyond the next strike. -/
def bindingBad (v : Mach) (e b : Nat) : Bool :=
  v.b (EN_BIND_A_valid e b) && v.f (EN_BIND_A_kind e b) == 0 &&
  (decide (6 ≤ v.f (EN_BIND_A_phase e b)) ||
   decide (period v ≤ phaseOff v (v.f (EN_BIND_A_phase e b)) + v.f (EN_BIND_A_t e b) * 10))

/-- R222: the spare of an accepted migration would hold a binding. -/
def spareBound (v : Mach) : Bool :=
  match v.mig with
  | some m => (clusterEngines m.spare).any (fun e => (keysFrom 0 16).any (fun b => v.b (EN_BIND_A_valid e b)))
  | none => false

/-- R198 and R219. -/
def enginesBad (v : Mach) : Bool :=
  spareBound v ||
  (keysFrom 0 64).any (fun e => (keysFrom 0 16).any (fun b =>
    bindingBad v e b ||
    (v.b (EN_BIND_A_valid e b) && v.b (EN_BIND_A_urgent e b) && v.b (EN_CL_CTRL_gate_en (e / 4)))))

/-! ### Block 0x0B: regulators (R492) -/

/-- R492 for one class of a port. -/
def regulatorBad (rate burst : Nat) : Bool := (decide (1 ≤ rate) && decide (burst < 33)) || decide (1000 < rate)

/-- R492. -/
def regulatorsBad (v : Mach) : Bool :=
  (keysFrom 0 24).any (fun p =>
    regulatorBad (v.f (NC_REG_rate_tc1 p)) (v.f (NC_REG_burst_tc1 p)) || regulatorBad (v.f (NC_REG_rate_tc2 p)) (v.f (NC_REG_burst_tc2 p))
      || regulatorBad (v.f (NC_REG_rate_tc3 p)) (v.f (NC_REG_burst_tc3 p)))

/-! ### Block 0x0C: regions (R515, R516) -/

/-- The valid regions, as set × 32 + region. -/
def regions (v : Mach) : List Nat := (listed v (PT_RA 0 0) 0x20 4096).filter (fun x => v.b (PT_RA_valid (x / 32) (x % 32)))

/-- R515: cause 1 end below start, 2 lvl 0b00 in an engine's set. -/
def regionCause (v : Mach) (x : Nat) : Nat :=
  if v.f (PT_RB_end (x / 32) (x % 32)) < v.f (PT_RA_start (x / 32) (x % 32)) then 1
  else if x / 32 < 64 ∧ v.f (PT_RA_lvl (x / 32) (x % 32)) = 0 then 2
  else 0

/-- The first region refused. -/
def regionFail (v : Mach) : Option Nat := (regions v).find? (fun x => decide (regionCause v x ≠ 0))

/-- Two regions of one set overlap. -/
def regionsMeet (v : Mach) (x y : Nat) : Bool :=
  x / 32 == y / 32 && decide (x < y) && decide (v.f (PT_RA_start (x / 32) (x % 32)) ≤ v.f (PT_RB_end (y / 32) (y % 32)))
    && decide (v.f (PT_RA_start (y / 32) (y % 32)) ≤ v.f (PT_RB_end (x / 32) (x % 32)))

/-- The first overlapping pair, by the lower region and then the higher (R516). -/
def regionPair (v : Mach) : Option (Nat × Nat) :=
  let l := regions v
  l.findSome? (fun x => (l.find? (fun y => regionsMeet v x y)).map (fun y => (x, y)))

/-- PT_CHECK after a check, with the warning of R516. -/
def showRegions (s v : Mach) : Mach :=
  let put (c x y : Nat) : Mach :=
    (((s.setF PT_CHECK_cause c).setF PT_CHECK_master (x / 32)).setF PT_CHECK_region (x % 32)).setF PT_CHECK_region2 (y % 32)
  match regionFail v with
  | some x => put (regionCause v x) x 0
  | none =>
    match regionPair v with
    | some (x, y) => (put 3 x y).raise PT_EVENT_overlap_cfg
    | none => put 0 0 0

/-! ### Block 0x0D: inbound windows (R438) -/

/-- R438 for one port. -/
def windowsBad (v : Mach) (p : Nat) : Bool :=
  let last (w : Nat) : Nat := v.f (UX_IWIN_base p w) + v.f (UX_IWIN_size_m1 p w)
  let ok (w : Nat) : Bool := v.b (UX_IWIN_valid p w)
  (keysFrom 0 4).any (fun w => ok w &&
    (decide (v.f (UX_IWIN_base p w) < 0x80) || decide (0xFF < last w) ||
     decide (0x40000 < v.f (UX_IWIN_dram_off p w) + v.f (UX_IWIN_size_m1 p w) + 1) ||
     (keysFrom 0 4).any (fun x => ok x && x != w && decide (v.f (UX_IWIN_base p w) ≤ last x) && decide (v.f (UX_IWIN_base p x) ≤ last w))))

/-! ### Block 0x0E: regions of DRAM (R528, R531, R537, R540) -/

/-- Two runs overlap. -/
def runsMeet (a la b lb : Nat) : Bool := decide (0 < la) && decide (0 < lb) && decide (a < b + lb) && decide (b < a + la)

/-- R528. -/
def layoutBad (v : Mach) : Bool :=
  let bm := v.f JN_IMG_CFG_bank_mib
  let ib := v.f JN_IMG_CFG_img_base
  let il := 1 + 4 * bm
  let cb := v.f JN_CFG_REGION_base_mib
  let cl := v.f JN_CFG_REGION_size_mib
  let jb := v.f JN_JRN_REGION_base_mib
  let jl := v.f JN_JRN_REGION_size_mib
  bm == 0 || decide (1024 < bm) || jl == 0 || decide (16384 < ib + il) || decide (16384 < cb + cl) || decide (16384 < jb + jl)
    || runsMeet ib il cb cl || runsMeet ib il jb jl || runsMeet cb cl jb jl

/-- R531, R537 and R540. -/
def imagesBad (v : Mach) : Bool :=
  let l := v.stations
  let bank := v.f JN_IMG_CFG_bank_mib * mib
  let inO (k : Nat) : Nat := v.f (ST_W6_in_off k) * 64
  let outO (k : Nat) : Nat := v.f (ST_W6_out_off k) * 64
  let inZ (k : Nat) : Nat := v.f (ST_W5_in_size k)
  let outZ (k : Nat) : Nat := v.f (ST_W5_out_size k)
  let tot := l.foldl (fun a k => a + outZ k) 0
  l.any (fun k => decide (bank < inO k + inZ k) || decide (bank < outO k + outZ k)
    || decide (v.f JN_CFG_REGION_size_mib * mib < (v.f (ST_W5_cfg_off k) + v.f (ST_W1_cfg_len k)) * 256)
    || l.any (fun j => j != k && (runsMeet (inO k) (inZ k) (inO j) (inZ j) || runsMeet (outO k) (outZ k) (outO j) (outZ j))))
  || decide (32 * (period v + phaseOff v 1) < tot + 32 * (1000 + phaseOff v 3))

/-! ### Block 0x12: the mirror's size (R575) -/

/-- Bytes mirrored in one beat by a primary. -/
def mirrorBytes (v : Mach) : Nat :=
  if v.f TW_STATUS_role = 1 then
    v.stations.foldl (fun a k => a + v.f (ST_W5_in_size k) + v.f (ST_W5_out_size k)) 0
      + (keysFrom 0 8).foldl (fun a d => if v.b (TW_DECL_valid d) then a + v.f (TW_DECL_len_64 d) * 64 else a) 0
      + Config.mirrorOther
  else 0

/-- R575. -/
def mirrorOver (v : Mach) : Bool := decide (5 * period v < 2 * mirrorBytes v)

/-! ### The checks together -/

/-- What every check leaves in its own register, and the warnings that refuse nothing (R64, R178, R516, R575). -/
def showChecks (s : Mach) : Mach :=
  let v := stagedView s
  let s := showRegions (showWindow (showReflex (showCap (showLead s v) v) v) v) v
  let s := s.setF TW_STATUS_mirror_bytes (mirrorBytes v)
  { s with beat := { s.beat with checkDue := none } }

/-- The blocks whose checks fail, in ascending order of block (DESIGN CHOICE: the spec names no order between blocks). -/
def failingBlocks (v : Mach) : List Nat :=
  [(0x01, leadCause v != 0), (0x02, (keysFrom 0 4).any (capOver v)), (0x03, stationsBad v), (0x04, (attFail v).isSome),
   (0x05, (mirrorFail v).isSome), (0x08, (reflexFail v).isSome || (fanFail v).isSome), (0x09, groupBad v), (0x0A, enginesBad v),
   (0x0B, regulatorsBad v), (0x0C, (regionFail v).isSome), (0x0D, windowsBad v 0 || windowsBad v 1),
   (0x0E, layoutBad v || imagesBad v), (0x12, mirrorOver v)].filterMap (fun p => if p.2 then some p.1 else none)

/-- The events and entries that the failing checks of a refused set leave. -/
def refuseMarks (s : Mach) : Mach :=
  let v := stagedView s
  let s := if leadCause v = 0 then s else showLead s v
  let s := (keysFrom 0 4).foldl (fun t n => if capOver v n then t.raise (RG_RING_EVENT_cap_exceeded n) else t) s
  let s := match attFail v with
    | some i => ((((s.setF AT_FAULT_requester 0).setF AT_FAULT_reason 7).setF AT_FAULT_write 0).setF AT_FAULT_offset i).raise AT_EVENT_refused
    | none => s
  let s := match mirrorFail v with
    | some m => (s.raise BR_EVENT_mirror_refused).logC 0x050D (Config.packDetail [m, v.f (BR_MCFG_len_w m)])
    | none => s
  let s := if (regionFail v).isSome then s.raise PT_EVENT_refused else s
  let s := (keysFrom 0 2).foldl (fun t p => if windowsBad v p then t.raise (UX_EVENT_refused p) else t) s
  let s := if layoutBad v then s.raise JN_EVENT_refused else s
  if mirrorOver v then (s.raise TW_EVENT_budget).logC 0x1205 (mirrorBytes v) else s

/-! ### Commits -/

/-- Every refused commit write (R649). -/
def refuseCommit (s : Mach) (master result block : Nat) : Mach :=
  let s := ((s.setF GL_STAGE_STATUS_result result).setF GL_STAGE_STATUS_block block).raise GL_EVENT_refused
  (s.inc (GL_CNT 1)).logE { cause := 0x0003, initiator := master, detail := Config.packDetail [result, block] }

/-- STAGE_COMMIT: a write to GL_STAGE_COMMIT completes once the checks under way have finished (R648, R649). -/
def stageCommit (s : Mach) (master tag : Nat) : Mach :=
  let s := match s.beat.checkDue with
    | some t => showChecks (s.upTo t)
    | none => s
  let s := s.setF GL_STAGE_STATUS_tag tag
  if s.committed.isSome then refuseCommit s master 4 0
  else if s.standby then refuseCommit s master 5 0
  else
    match failingBlocks (stagedView s) with
    | b :: _ => refuseCommit (refuseMarks s) master 3 b
    | [] =>
      let s := (s.setF GL_STAGE_STATUS_result 1).setF GL_STAGE_STATUS_block 0
      { s with committed := some s.staged,
               beat := { s.beat with commitAt := some s.now, commitTag := tag % 65536, commitOff := !s.b BT_CTRL_beat_en } }

/-- STAGE_DISCARD (R651): every active value is copied into its staging copy. -/
def stageDiscard (s : Mach) : Mach :=
  if s.committed.isSome then s.setF GL_STAGE_STATUS_result 4
  else
    let one (t : Mach) (k : Nat) : Mach := if rwsMask k = 0 then t else t.setSt k (t.r k)
    ((s.regs.map (fun p => p.1)) ++ (s.staged.map (fun p => p.1))).foldl one s

/-- Registers and status of the edge that applies the pending commit (R5, R649): the set, and that there was one. -/
def applyCommit (s : Mach) (edge : Nat) : Mach × Bool :=
  match s.committed with
  | none => (s, false)
  | some m =>
    let s := applySet s m
    let s := (((s.setF GL_STAGE_STATUS_result 2).setF GL_STAGE_STATUS_block 0).setF GL_STAGE_STATUS_tag s.beat.commitTag).setF
      GL_STAGE_STATUS_beat edge
    let s := ((s.raise GL_EVENT_committed).inc (GL_CNT 0))
    ({ s with committed := none, mpuClear := false, beat := { s.beat with commitAt := none } }, true)

end Sys2Proof.Machine
end

