-- ==== Sys2Proof/Machine/Time.lean ====
section
/-!
DEFINITION. Fabric time: sources and their qualification, selection, the servo, time steps, the PPS output, the H-die
copy, and the start of the beats (02_beat_and_fabric_time.md). Sources have the codes of Table 02-1.
-/
namespace Sys2Proof.Machine

/-- A source's qualification state. -/
def Mach.src (s : Mach) (c : Nat) : SrcQ := mapGet (fun _ => ({} : SrcQ)) s.beat.src c
/-- Replace it. -/
def Mach.setSrc (s : Mach) (c : Nat) (q : SrcQ) : Mach :=
  { s with beat := { s.beat with src := mapSet (fun _ => ({} : SrcQ)) s.beat.src c q } }
/-- A source is enabled. -/
def srcOn (s : Mach) (c : Nat) : Bool := bitAt (s.f BT_SRC_CFG_src_en) (c - 1)
/-- A source is qualified. -/
def srcQual (s : Mach) (c : Nat) : Bool := (s.src c).since.isSome

/-- Priority of a source (BT_SRC_PRIO). -/
def srcPrio (s : Mach) (c : Nat) : Nat :=
  match c with
  | 1 => s.f BT_SRC_PRIO_prio_ptm
  | 2 => s.f BT_SRC_PRIO_prio_ptp
  | 3 => s.f BT_SRC_PRIO_prio_pps
  | _ => s.f BT_SRC_PRIO_prio_twin

/-- The sources the module may select: a standby takes its time from the twin source, any other module ignores that source
(R40, R573). -/
def srcCands (s : Mach) : List Nat :=
  (if s.standby then [4] else [1, 2, 3]).filter (fun c => srcOn s c && srcQual s c)

/-- The best candidate: lowest priority value, then lowest code (R42). -/
def bestSrc (s : Mach) : Option Nat :=
  (srcCands s).foldl (fun b c =>
    match b with
    | none => some c
    | some x => if srcPrio s c < srcPrio s x then some c else some x) none

/-! ### The servo (Table 02-3) -/

/-- x, at most lim in magnitude. -/
def limitTo (lim x : Int) : Int := if lim < x then lim else if x < -lim then -lim else x

/-- ±200 ppm as a frequency word (R45): 200 × 10^-6 × 2^40. -/
def freqLimit : Int := 219902325

/-- Set the frequency word, limited to ±200 ppm (R45). -/
def setFreq (s : Mach) (x : Int) : Mach := s.setF BT_FREQ_freq (twos 32 (limitTo freqLimit x))

/-- The time-weighted sum of the frequency words over the last 64 s of a list of (time, word), newest first, and the time
it covers. -/
def meanSum (t0 : Nat) : Nat → List (Nat × Nat) → Int × Nat
  | _, [] => (0, 0)
  | e, (t, w) :: rest =>
    let a := if t < t0 then t0 else t
    let r := if t ≤ t0 then (0, 0) else meanSum t0 t rest
    (r.1 + signed 32 w * Int.ofNat (e - a), r.2 + (e - a))

/-- The mean word of the last 64 s of the latest stay in LOCKED, when it lasted as long (R44). -/
def lockMean (s : Mach) : Option Int :=
  match s.beat.lockedAt with
  | none => s.beat.lockMean
  | some t =>
    if s.now < t + 64000000000 then none
    else
      let r := meanSum (s.now - 64000000000) s.now s.beat.means
      if r.2 = 0 then none
      else some (if r.1 < 0 then -(Int.ofNat (roundQ (-r.1).toNat r.2)) else Int.ofNat (roundQ r.1.toNat r.2))

/-- The word HOLDOVER holds: that mean, or the current word after a shorter lock. -/
def holdWord (s : Mach) : Int := (lockMean s).getD (freqWord s)

/-- Enter ACQUIRE; leaving HOLDOVER sets its event. -/
def servoAcquire (s : Mach) : Mach :=
  let s := if s.f BT_STATUS_servo_state = 3 then s.raise BT_EVENT_holdover_exit else s
  let s := (s.setF BT_STATUS_servo_state 1).setF BT_HOLDOVER_seconds 0
  { s with beat := { s.beat with lockRun := 0, offRun := 0, lockMean := lockMean s, lockedAt := none, means := [] } }

/-- Enter HOLDOVER from ACQUIRE or LOCKED. -/
def servoHoldover (s : Mach) : Mach :=
  if s.f BT_STATUS_servo_state = 1 ∨ s.f BT_STATUS_servo_state = 2 then
    let w := holdWord s
    let s := (setFreq s w).setF BT_STATUS_servo_state 3
    { s.raise BT_EVENT_holdover_enter with
      beat := { s.beat with holdAt := s.now, lockedAt := none, lockMean := none, means := [], integ := w, lockRun := 0, offRun := 0 } }
  else s

/-- Make a source the selected one (0: none). -/
def selectSrc (s : Mach) (c : Nat) : Mach :=
  let s := { s with beat := { s.beat with wtr := none } }
  if s.f BT_STATUS_src_sel = c then s
  else
    let s := ((s.setF BT_STATUS_src_sel c).raise BT_EVENT_src_switch).incF BT_SRC_SWITCH_CNT_count
    if c = 0 then servoHoldover s
    else servoAcquire s

/-- SOURCE_SELECT (R42, R43): run after every change of qualification. -/
def reselect (s : Mach) : Mach :=
  let bits := (keysFrom 1 4).foldl (fun a c => a + (if srcOn s c && srcQual s c then 2 ^ (c - 1) else 0)) 0
  let s := s.setF BT_STATUS_src_qual bits
  let cur := s.f BT_STATUS_src_sel
  match bestSrc s with
  | none => selectSrc s 0
  | some b =>
    if (srcCands s).contains cur then
      if s.b BT_SRC_CFG_revertive && decide (srcPrio s b < srcPrio s cur) then
        if s.f BT_SRC_CFG_wtr_s = 0 then selectSrc s b
        else
          match (s.src b).since with
          | some t => { s with beat := { s.beat with wtr := some (b, t + s.f BT_SRC_CFG_wtr_s * 1000000000) } }
          | none => s
      else { s with beat := { s.beat with wtr := none } }
    else selectSrc s b

/-- A source disqualifies (R41); the PPS source sets its event. -/
def disqualify (s : Mach) (c : Nat) : Mach :=
  let was := srcQual s c
  let s := s.setSrc c { s.src c with good := 0, bad := 0, since := none, hist := [] }
  reselect (if was && c == 3 then s.raise BT_EVENT_pps_lost else s)

/-- A source qualifies. -/
def qualify (s : Mach) (c : Nat) : Mach :=
  match (s.src c).since with
  | some _ => s
  | none => reselect (s.setSrc c { s.src c with since := some s.now })

/-- Fabric time is set from a source or by a step (R31). A copy on the H-die that runs without correction keeps its time (R35). -/
def jumpTo (s : Mach) (t : Nat) : Mach :=
  { s.setF BT_STATUS_time_valid 1 with
    now := t, sub := 0,
    hSkew := if s.b BT_STATUS_hdie_time_free then s.hSkew + Int.ofNat s.now - Int.ofNat t else s.hSkew }

/-- BT_SERVO.step_us in ns. -/
def stepThreshold (s : Mach) : Nat := (if s.f BT_SERVO_step_us = 0 then 1000 else s.f BT_SERVO_step_us) * 1000

/-- BT_SERVO.slew_ppm: 1 to 100, other values act as 100. -/
def slewPpm (s : Mach) : Nat := if 1 ≤ s.f BT_SERVO_slew_ppm ∧ s.f BT_SERVO_slew_ppm ≤ 100 then s.f BT_SERVO_slew_ppm else 100

/-- BT_SERVO.slew_ppm as a frequency word: the limit of a rate change that corrects phase (R32, R45). -/
def slewLimit (s : Mach) : Int := Int.ofNat (slewPpm s * 2 ^ 40 / 1000000)

/-- The loop of R45 with one more offset: the integral part follows the offset within ±200 ppm, and the part in proportion to it, which
corrects phase, stays within ±slew_ppm. -/
def servoLoop (s : Mach) (off : Int) : Mach :=
  let g := s.f BT_SERVO_bw
  let i := limitTo freqLimit (s.beat.integ + Int.ofNat (Config.servoKi g) * off)
  let s := setFreq s (i + limitTo (slewLimit s) (Int.ofNat (Config.servoKp g) * off))
  { s with beat := { s.beat with integ := i } }

/-- A second of a selected source that gives frequency and no phase (R39): the integral part alone follows it; err is the length of the
second by fabric time less 1 s. -/
def servoFreq (s : Mach) (c : Nat) (err : Int) : Mach :=
  if s.f BT_STATUS_src_sel ≠ c then s
  else
    let i := limitTo freqLimit (s.beat.integ - Int.ofNat (Config.servoKf (s.f BT_SERVO_bw)) * err)
    let s := setFreq s i
    { s with beat := { s.beat with integ := i, lockRun := 0 } }

/-- A sample of the selected source's offset, in ns (R44 to R46). -/
def servoSample (s : Mach) (c : Nat) (off : Int) : Mach :=
  if s.f BT_STATUS_src_sel ≠ c then s
  else
    let lim : Int := 2147483647
    let s := s.setF BT_OFFSET_offset_ns (twos 32 (if lim < off then lim else if off < -lim then -lim else off))
    let mag := off.natAbs
    let s := if 1000000000 < mag ∧ s.b BT_STATUS_beat_run = true then s.raise BT_EVENT_offset_large else s
    if s.f BT_STATUS_servo_state = 1 then
      if !s.b BT_STATUS_beat_run && decide (stepThreshold s ≤ mag) then
        let s := jumpTo s (Int.ofNat s.now + off).toNat
        { s with beat := { s.beat with lockRun := 0 } }
      else
        let s := servoLoop s off
        let n := if mag < 100 then s.beat.lockRun + 1 else 0
        if 16 ≤ n then
          let s := (s.setF BT_STATUS_servo_state 2).setF BT_STATUS_time_valid 1
          { s with beat := { s.beat with lockRun := 0, offRun := 0, lockedAt := some s.now, means := [(s.now, s.f BT_FREQ_freq)] } }
        else { s with beat := { s.beat with lockRun := n } }
    else if s.f BT_STATUS_servo_state = 2 then
      let n := if 1000 < mag then s.beat.offRun + 1 else 0
      if 4 ≤ n then servoAcquire s
      else
        let s := servoLoop s off
        let keep := s.beat.means.filter (fun p => decide (s.now < p.1 + 128000000000))
        { s with beat := { s.beat with offRun := n, means := (s.now, s.f BT_FREQ_freq) :: keep } }
    else s

/-- A run of good samples with one more, of which the latest 16 are kept. -/
def addSample (q : SrcQ) (x : Int) : SrcQ := { q with good := q.good + 1, bad := 0, hist := x :: q.hist.take 15 }

/-- The latest n samples of a run lie at most `spread` apart (R41). -/
def runWithin (q : SrcQ) (n : Nat) (spread : Int) : Bool :=
  let l := q.hist.take n
  decide (n ≤ q.good) && decide (n ≤ l.length) && l.all (fun x => l.all (fun y => decide (x - y ≤ spread)))

/-! ### The meanings: sources -/

/-- PTM_REQUEST (R38): a dialog starts, and the next is due an interval later. -/
def onPtmRequest (s : Mach) : Mach :=
  if srcOn s 1 then
    let s := s.upTo s.beat.ptmAt
    { s with beat := { s.beat with ptmOut := true, ptmAt := s.now + s.f BT_PTM_CFG_interval * 1000000 } }
  else s

/-- PTM_DIALOG_COMPLETE (R38, R41): whether it succeeded; the round trip of the link, which is the time from request to response less
the time the host held the request; and the PTM master time at which the response left the host. Half the round trip is the propagation
delay. -/
def onPtmDialogComplete (ok : Bool) (rtt : Nat) (host : Int) (s : Mach) : Mach :=
  if !s.beat.ptmOut then s
  else
    let s := { s with beat := { s.beat with ptmOut := false } }
    if !srcOn s 1 then s
    else if ok then
      let q := addSample (s.src 1) (Int.ofNat rtt)
      let s := s.setSrc 1 q
      let s := if runWithin q 8 99 then qualify s 1 else s
      if srcQual s 1 then servoSample s 1 (host + Int.ofNat (rtt / 2) + signed 64 (s.f BT_PTM_OFFSET_offset_ns) - Int.ofNat s.now) else s
    else
      let q := s.src 1
      let s := s.setSrc 1 { q with good := 0, bad := q.bad + 1, hist := [] }
      if 3 ≤ q.bad + 1 then disqualify s 1 else s

/-- PTM_L0_ABSENCE_TIMEOUT (R41): the link has been out of L0 for more than 100 ms. -/
def onPtmL0AbsenceTimeout (s : Mach) : Mach := disqualify { s with pcie := { s.pcie with l0 := false } } 1

/-- A time stamp of the management port's MAC, which resolves 8 ns (R37). -/
def ptpStamp (t : Nat) : Nat := t / 8 * 8

/-- An offset of the master from fabric time by the delay request-response mechanism (R37): t1 and t2 are the Sync's departure and
arrival, t3 and t4 those of the delay request. -/
def ptpOffset (t1 t2 t3 t4 : Nat) : Int := ((Int.ofNat t1 - Int.ofNat t2) + (Int.ofNat t4 - Int.ofNat t3)) / 2

/-- The message is one of the client's domain, on the transport that it is set to (R37). -/
def ptpMine (s : Mach) (domain : Nat) (l2 : Bool) : Bool :=
  srcOn s 2 && decide (domain ≤ 127) && domain == s.f BT_PTP_CFG_domain && l2 == s.b BT_PTP_CFG_transport

/-- PTP_SYNC_RECEIVE (R37, R41): a Sync, with its Follow_Up from a two-step master, arrives now; t1 is its departure by the master, t3
and t4 are the stamps of the latest delay request. -/
def onPtpSyncReceive (domain : Nat) (l2 : Bool) (t1 t3 t4 : Nat) (s : Mach) : Mach :=
  if !ptpMine s domain l2 then s
  else
    let off := ptpOffset t1 (ptpStamp s.now) (ptpStamp t3) t4
    let q := addSample (s.src 2) off
    let s := s.setSrc 2 q
    let s := if q.flag && runWithin q 16 1000 then qualify s 2 else s
    if srcQual s 2 then servoSample s 2 off else s

/-- PTP_SYNC_MISSING (R41). -/
def onPtpSyncMissing (s : Mach) : Mach := disqualify s 2

/-- PTP_ANNOUNCE_RECEIVE (R41): an Announce from the selected master of a domain. -/
def onPtpAnnounceReceive (domain : Nat) (l2 : Bool) (s : Mach) : Mach :=
  if !ptpMine s domain l2 then s
  else
    let q := { s.src 2 with flag := true }
    let s := s.setSrc 2 q
    if runWithin q 16 1000 then qualify s 2 else s

/-- PTP_ANNOUNCE_TIMEOUT (R41). -/
def onPtpAnnounceTimeout (s : Mach) : Mach := disqualify (s.setSrc 2 { s.src 2 with flag := false }) 2

/-- PPS_EDGE (R39, R41): an edge at a fabric time, falling or rising, with the 10 MHz input within ±5 ppm or not. -/
def onPpsEdge (t : Nat) (falling ref : Bool) (s : Mach) : Mach :=
  if falling != s.b BT_PPS_CFG_falling then s
  else
    let s := s.upTo t
    let inst := Int.ofNat s.now - signed 16 (s.f BT_PPS_CFG_cable_ns)
    let tod := match s.beat.tod with
      | some (v, w) => if w + 10000000 < s.now then (some v, none) else (s.beat.todNow.map (fun x => x + 1), s.beat.tod)
      | none => (s.beat.todNow.map (fun x => x + 1), none)
    let s := { s with beat := { s.beat with tod := tod.2, todNow := tod.1 } }
    if !srcOn s 3 then s
    else
      let q := s.src 3
      let gap := s.now - q.last
      let k := (gap + 500000000) / 1000000000
      let err := absDiff gap (k * 1000000000)
      let first := decide (q.good = 0)
      let s := if !first && (decide (1000 < err) || decide (3 ≤ k)) then disqualify s 3 else s
      let n := if !ref && !srcQual s 3 then 0 else if first || decide (100 < err) || k != 1 then 1 else q.good + 1
      let s := s.setSrc 3 { s.src 3 with good := n, flag := ref, last := s.now }
      let s := if ref && decide (4 ≤ n) then qualify s 3 else s
      if srcQual s 3 then
        match tod.1 with
        | some v => servoSample s 3 (Int.ofNat (v * 1000000000) - inst)
        | none => servoFreq s 3 (Int.ofNat gap - Int.ofNat (k * 1000000000))
      else s

/-- PPS_MISSING (R41). -/
def onPpsMissing (s : Mach) : Mach := disqualify s 3

/-- REF10_LOSS (R41). -/
def onRef10Loss (s : Mach) : Mach := disqualify (s.setSrc 3 { s.src 3 with flag := false }) 3

/-- WAIT_TO_RESTORE_EXPIRE (R43). -/
def onWaitToRestoreExpire (s : Mach) : Mach :=
  match s.beat.wtr with
  | some (c, t) =>
    if (srcCands s).contains c then selectSrc (s.upTo t) c else { s with beat := { s.beat with wtr := none } }
  | none => s

/-! ### The meanings: time -/

/-- TIME_STEP: a write of 1 to BT_CTRL.step (R33). -/
def onTimeStep (s : Mach) : Mach :=
  if s.b BT_STATUS_beat_run || s.b BT_CTRL_beat_en then s.raise BT_EVENT_step_refused
  else (jumpTo s (s.n BT_TIME_SET)).raise BT_EVENT_step_done

/-- HDIE_TIME_SAMPLE (R34, R35): while corrected, the copy lies within 5 ns (a free value there); after a time without
correction it is slewed at no more than 100 ppm until it does. The word crosses by double sampling: when the two samples differ, the copy
stays as it is (R604). -/
def onHdieTimeSample (agree : Bool) (s : Mach) : Mach :=
  if s.f DV_STATUS_state ≠ 2 ∨ !agree then s
  else if s.b BT_STATUS_hdie_time_free then
    if s.hSkew.natAbs ≤ 5 then s.setF BT_STATUS_hdie_time_free 0
    else if s.beat.hAt + 10000 ≤ s.cycles then
      { s with hSkew := (if s.hSkew < 0 then s.hSkew + 1 else s.hSkew - 1), beat := { s.beat with hAt := s.cycles } }
    else s
  else
    let r := s.free
    { r.2 with hSkew := Int.ofNat (r.1 % 11) - 5 }

/-- PPS_PULSE_START (R36): the next whole second. -/
def onPpsPulseStart (s : Mach) : Mach :=
  if s.b BT_PPS_OUT_enable && !s.beat.ppsLine then
    let s := s.upTo ((s.now + 999999999) / 1000000000 * 1000000000)
    { s with beat := { s.beat with ppsLine := true, ppsStart := s.now } }
  else s

/-- PPS_PULSE_END (R36). -/
def onPpsPulseEnd (s : Mach) : Mach :=
  if s.beat.ppsLine then
    let w := if s.f BT_PPS_OUT_width_us = 0 then 100 else s.f BT_PPS_OUT_width_us
    let s := s.upTo (s.beat.ppsStart + w * 1000)
    { s with beat := { s.beat with ppsLine := false } }
  else s

/-- STRIKE_MIRROR_PULSE_END (R186). -/
def onStrikeMirrorPulseEnd (s : Mach) : Mach :=
  match s.beat.mirrorEnd with
  | some t =>
    let s := s.upTo t
    { s with beat := { s.beat with mirrorEnd := none } }
  | none => s

/-! ### The meanings: starting and stopping the beats, the downbeat -/

/-- The number of the coming strike. -/
def nextBeat (s : Mach) : Nat := if s.beat.starting then s.beat.first else (s.beatNum + 1) % 2 ^ 32

/-- The time of the coming strike. -/
def nextStrike (s : Mach) : Nat := s.n BT_STRIKE_TIME

/-- BEAT_START: a write of 1 to BT_CTRL.beat_en (R48, R49). BT_BEAT_START and BT_BEAT_FIRST are taken at the write (DEDUCED, log
73). -/
def onBeatStart (s : Mach) : Mach :=
  if s.b BT_CTRL_beat_en then s
  else if s.n BT_BEAT_START < s.now + lead s + 10000 ∨ s.b BT_STATUS_beat_run = true then s.raise BT_EVENT_start_refused
  else
    let s := ((s.setF BT_CTRL_beat_en 1).setF BT_STATUS_beat_run 1).setN BT_STRIKE_TIME (s.n BT_BEAT_START)
    { s with beat := { s.beat with starting := true, first := s.f BT_BEAT_FIRST_beat, final := false, launched := none, content := none, fired := [], done := [] },
             strike := { s.strike with yes := [], nay := [], decided := none } }

/-- BEAT_STOP: a write of 0 to BT_CTRL.beat_en (R50). -/
def onBeatStop (s : Mach) : Mach :=
  if s.b BT_CTRL_beat_en then
    { s.setF BT_CTRL_beat_en 0 with beat := { s.beat with final := true } }
  else s

/-- A byte of the downbeat's bitmap: group g is bit 7 - (g mod 8) of byte g / 8 (Table 02-7). -/
def bitmapByte (s : Mach) (i : Nat) : Byte :=
  BitVec.ofNat 8 ((keysFrom 0 8).foldl (fun a j => a + (if bitAt (s.n (SK_COMMIT (i / 8))) (i % 8 * 8 + j) then 2 ^ (7 - j) else 0)) 0)

/-- The commit bitmap of the coming downbeat: the decision's, or zeros where none was made for that beat (R175). -/
def nextBitmap (s : Mach) : List Byte :=
  if s.b SK_STATUS_decided && !s.beat.starting && s.n SK_COMMIT_BEAT == nextBeat s then (keysFrom 0 32).map (bitmapByte s)
  else List.replicate 32 0

/-- Fix the content of the coming downbeat. -/
def fixContent (s : Mach) : Mach :=
  { s with beat := { s.beat with content := some (nextBeat s, lead s, nextBitmap s) } }

/-- A downbeat is to be launched for the coming strike (R50, R54). -/
def willLaunch (s : Mach) : Bool :=
  s.b BT_CTRL_beat_en && s.b BT_STATUS_beat_run && !s.standby && s.beat.launched != some (nextBeat s)

/-- DOWNBEAT_CONTENT_FIX (R56). -/
def onDownbeatContentFix (s : Mach) : Mach :=
  if willLaunch s && s.beat.content.isNone then fixContent (s.upTo (nextStrike s - lead s - 1000)) else s

/-- The downbeat of a ring out of its ports that are up, both copies with one number (R54, R102). A calibration under way
there is suspended for the beat (Table 02-11). -/
def launchRing (nom : Nat) (c : Nat × Nat × List Byte) (s : Mach) (n : Nat) : Mach :=
  if !ringAlive s n then s
  else
    let s := if (s.rst n).calStage = 1 ∨ (s.rst n).calStage = 2 then s.setRst n { s.rst n with calStage := 3 } else s
    sendPair s n { f := { type := 0x1, cls := 0, dest := 0x3FFF, launch := nextStrike s % 2 ^ 32, word := c.1, len := 32,
                          aux := c.2.1, payload := c.2.2 }, nominal := some nom, internal := true }

/-- The downbeats of the coming strike go out (R54). -/
def launchDownbeats (s : Mach) : Mach :=
  if willLaunch s then
    let nom := nextStrike s - lead s
    let s := s.upTo nom
    let s := if s.beat.content.isNone then fixContent s else s
    let c := s.beat.content.getD (0, 0, [])
    let s := (keysFrom 0 4).foldl (launchRing nom c) s
    { s with beat := { s.beat with launched := some c.1, content := none } }
  else s

/-- CALIBRATE_RING: a write of 1 to BT_CAL_CTRL.start (R59). Each hop is measured first, from the module outwards: the
exchange of R131 with every station present, then the loop. -/
def onCalibrateRing (ring : Fin 4) (s : Mach) : Mach :=
  let n := ring.val
  let s := s.setF BT_CAL_CTRL_ring n
  let here := (s.ringStations n).filter (fun k => s.f (ST_W1_state k) != 0 && s.f (ST_W1_state k) != 5)
  let s := (s.setRst n { s.rst n with calStage := 4, calMode := 1 }).setF BT_CAL_CTRL_busy 1
  calAfterHops (lastSegment (here.foldl (fun t k => adoptSend t { stn := k, step := 9 }) s) n) n

end Sys2Proof.Machine
end

