-- ==== Sys2Proof/Machine/LinkCtl.lean ====
section
/-!
DEFINITION. The ring ports' own commands (03_ring_links_and_frames.md): SFP28 modules, bring-up, link frames,
retransmission, and what every received frame passes before its type's handler runs.
-/
namespace Sys2Proof.Machine

/-! ### What every received frame passes -/

/-- A transit hop: a standby, or a fenced module (R573, R581). -/
def transitHop (s : Mach) : Bool := s.standby || s.b TW_STATUS_fenced

/-- R109: the sequence check of a link. The first discard after an accepted frame asks for a NAK; the 256th accepted frame sends a link
frame (R110). -/
def rxSequence (s : Mach) (p : Nat) (f : Frame) : Bool × Mach :=
  let x := s.rport p
  if !f.sequenced then (true, s)
  else if f.lseq = x.rxNext then
    let s := s.setRport p { x with rxNext := (x.rxNext + 1) % 65536, nakSent := false, ackDue := x.ackDue + 1 }
    (true, if 256 ≤ x.ackDue + 1 then sendLink s p else s)
  else
    (false, (s.setRport p { x with nakDue := x.nakDue || !x.nakSent, nakSent := true }).inc (RG_CNT p 17))

/-- A lost sequenced frame under R98 or R99 asks for a NAK. -/
def lostFrame (s : Mach) (p : Nat) : Mach :=
  let x := s.rport p
  s.setRport p { x with nakDue := true, good := 0 }

/-- Counters 4 to 7 and 9 take every frame whose CRC is good (Table 03-12). -/
def rxCount (s : Mach) (p : Nat) (f : Frame) : Mach := (s.inc (RG_CNT p (4 + f.cls % 4))).add (RG_CNT p 9) f.bytes

/-- A bad frame (R98): discarded and counted, no NAK. It has arrived, so when it is the one expected the link's sequence goes on
(DEDUCED, log 28); it breaks a run of good link frames (R81). -/
def badFrame (s : Mach) (p : Nat) (f : Frame) : Mach :=
  let s := (rxCount s p f).inc (RG_CNT p 12)
  let x := s.rport p
  s.setRport p { x with good := 0, rxNext := if f.sequenced && f.lseq == x.rxNext then (x.rxNext + 1) % 65536 else x.rxNext }

/-- An open frame is lost: a fragment error (R88). -/
def fragError (s : Mach) (p : Nat) : Mach :=
  lostFrame (((s.setRport p { s.rport p with rxOpen := none }).inc (RG_CNT p 13)).raise (RG_PORT_EVENT_frag_error p)) p

/-- A new first fragment or whole frame of TC1 to TC3 arrives: an open frame is lost (R88). -/
def closeOpen (s : Mach) (p cls : Nat) : Mach := if cls ≠ 0 ∧ (s.rport p).rxOpen.isSome = true then fragError s p else s

/-- A good frame's arrival (R82, R123): counts, and the end of a silence. -/
def rxGood (s : Mach) (p : Nat) (f : Frame) : Mach :=
  let s := rxCount s p f
  s.setRport p { s.rport p with lastRx := s.now }

/-- Forward a frame as a transit hop out of the other port of the ring (R114, R116): its residence counts from now. -/
def forward (s : Mach) (p : Nat) (f : Frame) : Mach :=
  let q := if p % 2 = 0 then p + 1 else p - 1
  queueOn s q { f := { f with hops := (f.hops + 1) % 256 }, nominal := some s.now, internal := true, transit := true }

/-- R581: a primary that receives a frame with src 0 and origin 0b10 enters fenced; one that itself sends that origin after a
takeover takes its own frames that come back for no other module's (DEDUCED). -/
def fenceCheck (s : Mach) (f : Frame) : Bool :=
  s.f TW_STATUS_role == 1 && !s.b TW_STATUS_fenced && !s.twin.origin2 && f.src == 0 && f.origin == 2

/-- Every engine stops: it issues no further instruction, and its store buffer drains (R217). -/
def stopAll (s : Mach) : Mach :=
  forEach (s.engines.map (fun p => p.1)) (fun e t => stopEngine t e) s

/-- R581 at ring port p; its own frames that wait are withdrawn. -/
def fence (s : Mach) (p : Nat) : Mach :=
  let s := (keysFrom 0 8).foldl (fun t q => t.setRport q { t.rport q with tx := (t.rport q).tx.filter (fun x => x.transit) }) s
  stopAll (((s.setF TW_STATUS_fenced 1).raise TW_EVENT_fenced).logC 0x1204 p)

/-- A frame accepted by the link may fence the module. -/
def fenceStep (s : Mach) (p : Nat) (f : Frame) : Mach := if fenceCheck s f then fence s p else s

/-- R121: the hop count of a frame from a station of a direct ring, against its position from the receiving port. -/
def hopCheck (s : Mach) (p : Nat) (f : Frame) : Mach :=
  if s.stValid f.src && s.f (ST_W0_tier f.src) == 0 && s.f (ST_W0_ring f.src) == p / 2 then
    let pos := s.f (ST_W0_position f.src)
    let want := if p % 2 = 0 then pos else ringN s (p / 2) + 1 - pos
    if (f.hops + 1) % 256 = want % 256 then s else (s.inc (RG_CNT p 27)).raise (RG_PORT_EVENT_hop_mismatch p)
  else s

/-- Note a frame's source as seen in this beat, and its hops at an east port (R133, R134). -/
def noteSeen (s : Mach) (p : Nat) (f : Frame) : Mach :=
  let s := if s.stValid f.src then s.setF (ST_W7_last_seen f.src) s.beatNum else s
  let s := if s.stValid f.src then { s with ring := { s.ring with silent := mapSet (fun _ => 0) s.ring.silent f.src 0 } } else s
  if p % 2 = 0 ∧ s.stValid f.src = true ∧ s.f (ST_W0_tier f.src) = 0 then
    { s with ring := { s.ring with hopsE := mapIns s.ring.hopsE f.src f.hops } }
  else s

/-- Note one copy of a TC1 or vote pair (R149, R154, counters 9 to 11). -/
def notePair (s : Mach) (p : Nat) (f : Frame) : Mach :=
  if (f.cls = 1 ∨ f.type = 0x9) ∧ (f.route = 1 ∨ f.route = 2) then
    let same (x : PairSeen) : Bool := x.ring == p / 2 && x.src == f.src && x.cls == f.cls && x.seq == f.seq
    let mark (x : PairSeen) : PairSeen := if f.route = 1 then { x with cw := true } else { x with ccw := true }
    let l := s.ring.pairs
    let l2 := if l.any same then mapWhere same mark l else l ++ [mark ⟨p / 2, f.src, f.cls, f.seq, false, false⟩]
    { s with ring := { s.ring with pairs := l2 } }
  else s

/-- The module discards frames of a source that is clamped, absent or without a valid entry (Table 04-1, Table 04-2). -/
def sourceBarred (s : Mach) (f : Frame) : Bool :=
  f.src != 0 && f.src != 0x3FFF && f.type != 0xA &&
    (!s.stValid f.src || s.f (ST_W1_state f.src) == 0 || s.f (ST_W1_state f.src) == 5)

/-- A vote: a vote frame, or an image-in frame with out_ok 1 (R169). -/
def isVote (f : Frame) : Bool := f.type == 0x9 || (f.type == 0x2 && bitAt f.flags 0)

/-- A frame of a barred source is discarded and counted; a first copy of a vote is a non-member vote (R172). -/
def barFrame (s : Mach) (p : Nat) (f : Frame) : Mach :=
  let s := if f.type = 0x8 ∧ s.stValid f.src = true then s.inc (EV_CNT 4) else s
  let s := if isVote f then
      let d := rxDiscard s p f
      if d.1 then d.2.inc (SK_CNT 7) else d.2
    else s
  { s with ring := { s.ring with discards := s.ring.discards + 1 } }

/-- A received frame up to the duplicate discard: the checks of R98, R109, R121 and the source's state. The frame goes on when
the first part is true. -/
def rxFront (s : Mach) (p : Nat) (f : Frame) : Bool × Mach :=
  if !s.portUp p then (false, s)
  else if !frameOk f then (false, badFrame (closeOpen s p f.cls) p f)
  else
    let s := closeOpen s p f.cls
    let q := rxSequence (rxGood s p f) p f
    let s := fenceStep q.2 p f
    if !q.1 then (false, q.2)
    else if transitHop s then (false, forward s p f)
    else
      let s := hopCheck s p f
      if sourceBarred s f then (false, barFrame s p f)
      else (true, notePair (noteSeen s p f) p f)

/-- A received frame up to its handler, the duplicate discard of R103 included. -/
def rxFrame (s : Mach) (p : Nat) (f : Frame) : Bool × Mach :=
  let q := rxFront s p f
  if q.1 then rxDiscard q.2 p f else q

/-! ### SFP28 modules (R80 to R82) -/

/-- Extended compliance codes for 25GBASE-SR, -LR and -CR (PRESUMED: SFF-8024; the spec names the media and not the codes). -/
def sfpCodes : List Nat := [0x02, 0x03, 0x0B, 0x0C, 0x0D]

/-- SFP_INSERT with byte 36 of page A0h. -/
def onSfpInsert (p : Fin 8) (code : Nat) (s : Mach) : Mach :=
  let p := p.val
  let ok := sfpCodes.contains (code % 256)
  let s := s.setRport p { s.rport p with txOff := false }
  let s := (((s.setF (RG_SFP_STATUS_present p) 1).setF (RG_SFP_STATUS_tx_fault p) 0).setF (RG_SFP_STATUS_ext_code p) code).setF
    (RG_SFP_STATUS_compliant p) (b2n ok)
  let s := s.raise (RG_PORT_EVENT_sfp_inserted p)
  let s := if ok then s else s.raise (RG_PORT_EVENT_sfp_noncompliant p)
  portRefresh s p 6

/-- SFP_REMOVE. -/
def onSfpRemove (p : Fin 8) (s : Mach) : Mach :=
  let p := p.val
  let s := (((s.setF (RG_SFP_STATUS_present p) 0).setF (RG_SFP_STATUS_ext_code p) 0).setF (RG_SFP_STATUS_compliant p) 0).setF
    (RG_SFP_STATUS_temp p) 0
  let s := s.setF (RG_SFP_STATUS_tx_fault p) 0
  portDown (noLock (s.raise (RG_PORT_EVENT_sfp_removed p)) p) p 5

/-- SFP_TX_FAULT. -/
def onSfpTxFault (p : Fin 8) (s : Mach) : Mach :=
  let p := p.val
  if s.b (RG_SFP_STATUS_present p) then
    portDown (noLock ((s.setF (RG_SFP_STATUS_tx_fault p) 1).raise (RG_PORT_EVENT_sfp_fault p)) p) p 5
  else s

/-- SFP_LOS_ASSERT. -/
def onSfpLosAssert (p : Fin 8) (s : Mach) : Mach :=
  let p := p.val
  portDown (noLock (s.setF (RG_SFP_STATUS_los p) 1) p) p 1

/-- SFP_LOS_DEASSERT. -/
def onSfpLosDeassert (p : Fin 8) (s : Mach) : Mach := showFec (s.setF (RG_SFP_STATUS_los p.val) 0) p.val

/-- SFP_TEMP_POLL: page A2h, signed, in 1/256 °C (R675). -/
def onSfpTempPoll (p : Fin 8) (temp : BitVec 16) (s : Mach) : Mach :=
  if s.b (RG_SFP_STATUS_present p.val) then s.setF (RG_SFP_STATUS_temp p.val) temp.toNat else s

/-! ### Bring-up (Table 03-1) -/

/-- PCS_BLOCK_LOCK (R81). -/
def onPcsBlockLock (p : Fin 8) (s : Mach) : Mach :=
  let p := p.val
  if searching s p && (s.rport p).lockAt.isNone then
    let e := fecSetting s p
    let s := (((s.setF (RG_PORT_STATUS_fec_active p) e).setF (RG_PORT_STATUS_block_lock p) 1).setF (RG_PORT_STATUS_fec_lock p) e).setF
      (RG_PORT_STATUS_hi_ber p) 0
    s.setRport p { s.rport p with lockAt := some s.now }
  else s

/-- FEC_AUTO_ATTEMPT_EXPIRE (R78): 100 ms after the attempt began. -/
def onFecAutoAttemptExpire (p : Fin 8) (s : Mach) : Mach :=
  let p := p.val
  if searching s p && decide (2 ≤ s.f (RG_PORT_CFG_fec p)) && (s.rport p).lockAt.isNone then
    let s := s.upTo ((s.rport p).tryAt + 100000000)
    showFec (s.setRport p { s.rport p with fecTry := (s.rport p).fecTry + 1 }) p
  else s

/-- PCS_LOCK_LOSS: block lock or alignment lost, or hi_ber set (R82). -/
def onPcsLockLoss (p : Fin 8) (hiBer : Bool) (s : Mach) : Mach :=
  let p := p.val
  portDown ((noLock s p).setF (RG_PORT_STATUS_hi_ber p) (b2n hiBer)) p 2

/-- PORT_LOCK_HOLD_EXPIRE: the lock has held for 1 ms (R81). -/
def onPortLockHoldExpire (p : Fin 8) (s : Mach) : Mach :=
  let p := p.val
  match (s.rport p).lockAt with
  | some t =>
    if s.f (RG_PORT_STATUS_state p) = psDown ∧ s.b (RG_PORT_STATUS_hi_ber p) = false then
      let s := s.upTo (t + 1000000)
      let s := s.setF (RG_PORT_STATUS_state p) psTraining
      s.setRport p { s.rport p with trainAt := s.now, good := 0, echoed := false, stamps := [] }
    else s
  | none => s

/-- PORT_TRAINING_TIMEOUT (R684). -/
def onPortTrainingTimeout (p : Fin 8) (s : Mach) : Mach :=
  let p := p.val
  if s.f (RG_PORT_STATUS_state p) = psTraining then
    portDown (noLock (s.upTo ((s.rport p).trainAt + 1000000)) p) p 0
  else s

/-- PORT_SILENCE_TIMEOUT (R82). -/
def onPortSilenceTimeout (p : Fin 8) (s : Mach) : Mach :=
  let p := p.val
  if s.portUp p then portDown (noLock (s.upTo ((s.rport p).lastRx + 10000)) p) p 3 else s

/-! ### Link frames and retransmission (R108 to R112) -/

/-- Resend, and take the port down at the third drop in a row (R82). -/
def resendAll (s : Mach) (p : Nat) : Mach :=
  let r := resend s p
  let s := resolveDropped r.1 r.2
  if 3 ≤ (s.rport p).dropRun then portDown s p 4 else s

/-- LINK_FRAME_SEND (R108, R110): acknowledgement, NAK, skip number and echo. -/
def onLinkFrameSend (p : Fin 8) (s : Mach) : Mach :=
  if s.f (RG_PORT_STATUS_state p.val) = psTraining ∨ s.portUp p.val = true then sendLink s p.val else s

/-- A port sends its next burst (R86, R87); a retransmission that waited for the end of a cut frame follows it. -/
def portTransmit (s : Mach) (p : Nat) (cut : Option Nat) : Mach :=
  let s := transmit s p cut
  if (s.rport p).resendDue && (s.rport p).cut.isNone then resendAll s p else s

/-- A link frame that echoes one of the port's own stamps gives the round trip: now, less the stamp and the peer's turnaround. -/
def linkEcho (s : Mach) (p : Nat) (f : Frame) : Mach :=
  if (s.rport p).stamps.contains f.word then s.setN (RG_LINK_RTT p) ((s.time32 + 2 ^ 33 - f.word - f.aux) % 2 ^ 32) else s

/-- A link frame received by a port in training: after 8 good ones, with an echo of one of its own stamps, the port is up
(R81 step 4). -/
def trainLink (s : Mach) (p : Nat) (f : Frame) : Mach :=
  let x := s.rport p
  let y := { x with good := x.good + 1, echoed := x.echoed || x.stamps.contains f.word, peer := some (f.launch, s.now) }
  let s := (linkEcho s p f).setRport p y
  if 8 ≤ y.good ∧ y.echoed = true then portUpNow s p else s

/-- LINK_FRAME_RECEIVE (R108 to R112), with the codewords that RS-FEC has corrected on the port since the link frame before (counter
25). -/
def onLinkFrameReceive (p : Fin 8) (f : Frame) (corrected : Nat) (s : Mach) : Mach :=
  let p := p.val
  if f.type ≠ 0xF then s
  else if s.f (RG_PORT_STATUS_state p) = psTraining ∨ s.portUp p = true then
    let s := s.add (RG_CNT p 25) corrected
    if !frameOk f then badFrame s p f
    else
    let s := (s.inc (RG_CNT p 19)).add (RG_CNT p 9) 32
    let s := s.setF (RG_PORT_STATUS_peer p) f.src
    let s := fenceStep (s.setRport p { s.rport p with lastRx := s.now }) p f
    if !s.portUp p then trainLink s p f
    else
      let s := linkEcho s p f
      let s := s.setRport p { s.rport p with peer := some (f.launch, s.now) }
      let s := if bitAt f.flags 1 then s.setRport p { s.rport p with rxNext := f.acc % 65536 } else s
      let a := linkAck s p f.seq
      let s := resolveAcked a.1 a.2
      if bitAt f.flags 0 then resendAll s p else s
  else s

/-- REPLAY_TIMEOUT (R111). -/
def onReplayTimeout (p : Fin 8) (s : Mach) : Mach :=
  let p := p.val
  match (s.rport p).replay with
  | r :: _ => if s.portUp p then resendAll (s.upTo (r.sentAt + s.n (RG_LINK_RTT p) + 10000)) p else s
  | [] => s

/-- A frame that has arrived whole: its CRC (R97, R99), the checks of R98, and its length. A good frame does nothing here: its type's own
command handles it. -/
def rxWhole (s : Mach) (p : Nat) (bs : List Byte) : Mach :=
  match crcJudge bs with
  | .bad => lostFrame (s.inc (RG_CNT p 10)) p
  | .stomped => lostFrame (s.inc (RG_CNT p 11)) p
  | .good =>
    let f := parseFrame bs
    if frameOk f && bs.length == f.bytes then s else badFrame s p f

/-- BAD_FRAME_RECEIVE: a burst by the lead-in bytes L6 and L7 and its frame bytes (R84, R88), with the codewords that RS-FEC could not
correct (counter 26). Fragments of a frame are put together in order; a burst with another lead-in is no NRP burst. -/
def onBadFrameReceive (p : Fin 8) (l6 l7 : BitVec 8) (bs : List Byte) (uncorrected : Nat) (s : Mach) : Mach :=
  let p := p.val
  if s.f (RG_PORT_STATUS_state p) = psTraining ∨ s.portUp p = true then
    let s := s.add (RG_CNT p 26) uncorrected
    if l6 = 0xD5 then rxWhole (closeOpen s p (beAt bs 0 1 / 4 % 4)) p bs
    else if l6 = 0xB3 then
      let s := closeOpen s p 1
      s.setRport p { s.rport p with rxOpen := some (bs, 0) }
    else if l6 = 0x61 ∨ l6 = 0x7E then
      match (s.rport p).rxOpen with
      | some (b, n) =>
        if l7.toNat = n + 1 then
          let s := s.setRport p { s.rport p with rxOpen := if l6 = 0x61 then some (b ++ bs, n + 1) else none }
          if l6 = 0x61 then s else rxWhole s p (b ++ bs)
        else fragError s p
      | none => fragError s p
    else s
  else s

/-! ### Enumeration and reroute -/

/-- ENUM_START: a write of 1 to ST_ENUM_CTRL.start (R126). -/
def onEnumStart (ring : Fin 4) (s : Mach) : Mach := enumStart (s.setF ST_ENUM_CTRL_ring ring.val) ring.val

/-- ENUM_ANSWER_RECEIVE (R129, R130). The answers of tier-2 stations come from their coupler's ring. -/
def onEnumAnswerReceive (p : Fin 8) (f : Frame) (s : Mach) : Mach :=
  let q := rxFrame s p.val f
  let r := (q.2.rst (p.val / 2)).run
  if q.1 && f.type == 0xA && f.word % 256 == 2 && r.want == 1 && (r.tier2.isSome || p.val % 2 == b2n r.west) then enumAnswer q.2 p.val f
  else q.2

/-- DELAY_ANSWER_RECEIVE (R131). -/
def onDelayAnswerReceive (p : Fin 8) (f : Frame) (s : Mach) : Mach :=
  let q := rxFrame s p.val f
  if q.1 && f.type == 0xA && f.word % 256 == 5 then delayAnswer q.2 p.val f else q.2

/-- ENUM_PROBE_RETURN (R133). -/
def onEnumProbeReturn (p : Fin 8) (f : Frame) (s : Mach) : Mach :=
  let s0 := s
  if s0.portUp p.val && f.type == 0xA && f.word % 256 == 1 && f.src == 0 && !frameOk f then badFrame (closeOpen s p.val f.cls) p.val f
  else if s0.portUp p.val && f.type == 0xA && f.word % 256 == 1 && f.src == 0 then
    let s := closeOpen s p.val f.cls
    let q := rxSequence (rxGood s p.val f) p.val f
    let s := fenceStep q.2 p.val f
    if !q.1 then q.2
    else if transitHop s then forward s p.val f
    else probeReturn s p.val f
  else s

/-- CAL_DOWNBEAT_RECEIVE: a calibration downbeat arrives at a port (R59, R686). A transit hop forwards it (R116). -/
def onCalDownbeatReceive (p : Fin 8) (f : Frame) (s : Mach) : Mach :=
  if f.isCal && s.portUp p.val then
    if !frameOk f then badFrame s p.val f
    else
      let s := fenceStep (rxGood s p.val f) p.val f
      if transitHop s then forward s p.val f else calArrive s p.val f
  else s

/-- ENUM_PROBE_TIMEOUT (R127). -/
def onEnumProbeTimeout (ring : Fin 4) (s : Mach) : Mach := probeTimeout s ring.val

/-- DELAY_REQUEST_TIMEOUT (R131). -/
def onDelayRequestTimeout (k : BitVec 14) (s : Mach) : Mach := delayTimeout s k.toNat

/-- The write that station k has not acknowledged; while beats run, one that is at least 3 beats old (R139, R685). -/
def overdueWrite (s : Mach) (k : Nat) : Option Adopt :=
  s.ring.adopts.find? (fun a => a.stn == k && a.sent && decide (4 ≤ a.step) && decide (a.step ≤ 7) &&
    (!s.b BT_STATUS_beat_run || decide (3 ≤ (s.beatNum + 2 ^ 32 - a.sentBeat) % 2 ^ 32)))

/-- ADOPTION_STEP_TIMEOUT: no write-ack within 3 beats (R139, R685). -/
def onAdoptionStepTimeout (k : BitVec 14) (s : Mach) : Mach :=
  match overdueWrite s k.toNat with
  | some a => adoptRetry s a 0xFF
  | none => s

/-- Strikes since the last frame of a station, at most 4. -/
def silentFor (s : Mach) (k : Nat) : Nat := mapGet (fun _ => 0) s.ring.silent k

/-- STATION_ABSENT_TIMEOUT: no frame of a station in 3 consecutive whole beats, so between 4 strikes (R134). A station whose events wait on a fence has
those fences resolved (R409), and a group vote of it is dropped with its state. -/
def onStationAbsentTimeout (k : BitVec 14) (s : Mach) : Mach :=
  let k := k.toNat
  let st := s.f (ST_W1_state k)
  if s.stValid k && decide (1 ≤ st ∧ st ≤ 4) && decide (4 ≤ silentFor s k) && !transitHop s then stnAbsent s k else s

/-- Start adoption of an entry over again (Table 04-2, R105); its silence counts from now. -/
def readopt (s : Mach) (k : Nat) : Mach :=
  let s := rxForget (dropAdopt s k) k
  let s := { s with ring := { s.ring with silent := mapSet (fun _ => 0) s.ring.silent k 0 } }
  if adoptFree s k then adoptSend s { stn := k, step := 2 } else s

/-- ST_CLAMP_SET: at once (R16, R134). What the station had voted is discarded: it is a lost member (Table 05-6). -/
def onStClampSet (k : BitVec 14) (s : Mach) : Mach :=
  let k := k.toNat
  if s.stValid k && s.f (ST_W1_state k) != 5 then
    let s := if s.f (ST_W1_state k) = 0 then rxForget s k else s
    let out (l : List Nat) : List Nat := l.filter (fun j => j != k)
    let s := { s with strike := { s.strike with yes := out s.strike.yes, nay := out s.strike.nay } }
    withdrawEnd (setStn (dropAdopt s k) k 5) k
  else s

/-- ST_CLAMP_CLR. -/
def onStClampClr (k : BitVec 14) (s : Mach) : Mach :=
  let k := k.toNat
  if s.stValid k && s.f (ST_W1_state k) == 5 then readopt (setStn s k 1) k else s

/-- REROUTE_TIMER_EXPIRE: while beats are off, 2 µs after detection (R150). -/
def onRerouteTimerExpire (ring : Fin 4) (s : Mach) : Mach :=
  let n := ring.val
  match (s.rst n).detect with
  | d :: _ =>
    if s.b BT_STATUS_beat_run then s
    else
      let s := s.upTo (d.2 + 2000)
      calResume (adoptPump (reroute s n (rerouteDue s n))) n
  | [] => s

/-- ROUTE_CHANGE_WAIT_EXPIRE (R153): frames of the new route may start. -/
def onRouteChangeWaitExpire (k : BitVec 14) (s : Mach) : Mach :=
  match s.ring.wait.find? (fun w => w.1 == k.toNat) with
  | some w =>
    let s := s.upTo w.2
    pushWaiting { s with ring := { s.ring with wait := s.ring.wait.filter (fun w => w.1 != k.toNat) } }
  | none => s

end Sys2Proof.Machine
end

