-- ==== Sys2Proof/Machine/Strike.lean ====
section
/-!
DEFINITION. The strike unit (05_strike_and_snapshot.md): votes, and the decision of each beat.
-/
namespace Sys2Proof.Machine

/-- The beat whose decision comes next: votes name the beat after it (R171). -/
def voteBeat (s : Mach) : Nat :=
  if s.beat.starting then s.beat.first
  else if s.strike.decided = some s.beatNum then (s.beatNum + 1) % 2 ^ 32
  else s.beatNum

/-- A voting member (Table 05-1). -/
def votingMember (s : Mach) (k : Nat) : Bool := s.stValid k && s.b (ST_W0_group_en k) && s.f (ST_W1_state k) == 3

/-- A vote of a station for a beat (R171 to R173). -/
def takeVote (s : Mach) (k beat : Nat) (yes : Bool) : Mach :=
  let n := voteBeat s
  if !votingMember s k then s.inc (SK_CNT 7)
  else if s.b BT_STATUS_beat_run && beat == (n + 1) % 2 ^ 32 then
    if yes then { s.inc (SK_CNT 3) with strike := { s.strike with yes := addTo s.strike.yes k } }
    else { (s.inc (SK_CNT 4)).raise SK_EVENT_nay with strike := { s.strike with nay := addTo s.strike.nay k } }
  else if s.b BT_STATUS_beat_run && beat == n then (s.inc (SK_CNT 5)).raise SK_EVENT_late_vote
  else (s.inc (SK_CNT 6)).raise SK_EVENT_stale_vote

/-- A frame that arrives at port p is accepted by the link. -/
def linkTakes (s : Mach) (p : Nat) (f : Frame) : Bool := s.portUp p && frameOk f && (!f.sequenced || f.lseq == (s.rport p).rxNext)

/-- R185: the strike unit of a standby counts a copy of each vote and image-in frame that passes. -/
def transitCopy (s : Mach) (p : Nat) (f : Frame) : Mach :=
  let q := rxDiscard s p f
  if !q.1 then q.2
  else if f.type = 0x9 then takeVote q.2 f.src f.word (bitAt f.flags 0)
  else if bitAt f.flags 0 then takeVote q.2 f.src ((f.aux + 1) % 2 ^ 32) true
  else q.2

/-- VOTE_RECEIVE; at a standby the vote passes, and a copy counts (R185). -/
def onVoteReceive (p : Fin 8) (f : Frame) (s : Mach) : Mach :=
  let copy := s.standby && linkTakes s p.val f && f.type == 0x9
  let q := rxFrame s p.val f
  if q.1 && f.type == 0x9 then takeVote q.2 f.src f.word (bitAt f.flags 0)
  else if copy then transitCopy q.2 p.val f
  else q.2

/-- SK_FORCE_HOLD_WRITE: register k of the four, at once (R177). -/
def onSkForceHoldWrite (k : Fin 4) (v : U64) (s : Mach) : Mach := s.setR (SK_FORCE_HOLD k.val) v

/-! ### The decision -/

/-- A group as a decision sees it (R164 to R166, R180): cause, station named, voting members, yes votes. -/
structure GroupSees where
  cause : Nat
  first : Nat
  members : Nat
  voted : Nat
deriving DecidableEq, Repr

/-- SK_FORCE_HOLD names a group. -/
def forced (s : Mach) (g : Nat) : Bool := bitAt (s.n (SK_FORCE_HOLD (g / 64))) (g % 64)

/-- The lowest of a list of stations; 0 for none. -/
def lowest (l : List Nat) : Nat := l.foldl (fun m k => if m = 0 ∨ k < m then k else m) 0

/-- What a decision sees of a group: causes 0 committed, 1 missing vote, 2 nay, 3 forced, 4 mode off, 5 lost member. A nay that was
accepted stands, whether its station votes, is held or is lost by now (R166). -/
def groupSees (s : Mach) (l : List Nat) (g : Nat) : GroupSees :=
  let mine := l.filter (fun k => s.f (ST_W0_group k) == g)
  let mem := mine.filter (fun k => s.f (ST_W1_state k) == 3)
  let lost := mine.filter (fun k => s.f (ST_W1_state k) == 0 || s.f (ST_W1_state k) == 5)
  let nay := mine.filter (fun k => [0, 3, 4].contains (s.f (ST_W1_state k)) && s.strike.nay.contains k)
  let yes := mem.filter (fun k => s.strike.yes.contains k && !s.strike.nay.contains k)
  let miss := mem.filter (fun k => !s.strike.yes.contains k && !s.strike.nay.contains k)
  let out (c f : Nat) : GroupSees := ⟨c, f, mem.length, yes.length⟩
  match s.f (SK_GROUP_CFG_mode g) with
  | 1 =>
    if forced s g then out 3 0
    else if !nay.isEmpty then out 2 (lowest nay)
    else if s.b (SK_GROUP_CFG_lost_holds g) && !lost.isEmpty then out 5 (lowest lost)
    else if !miss.isEmpty then out 1 (lowest miss)
    else out 0 0
  | 2 => if forced s g then out 3 0 else out 0 0
  | _ => out 4 0

/-- SK_GINFO of a group, its bit of the bitmap, its counters, and its held or resumed event (R180, R181). -/
def decideGroup (l : List Nat) (s : Mach) (g : Nat) : Mach :=
  let r := groupSees s l g
  let m := s.f (SK_GROUP_CFG_mode g)
  let run := s.f (SK_GINFO_hold_run g)
  let holds := decide (r.cause ≠ 0 ∧ r.cause ≠ 4)
  let s := ((s.setF (SK_GINFO_cause g) r.cause).setF (SK_GINFO_first_station g) r.first).setF (SK_GINFO_members g) r.members
  let s := (s.setF (SK_GINFO_voted g) r.voted).setF (SK_GINFO_hold_run g) (if holds then satAt 65535 (run + 1) else 0)
  let s := s.setF ⟨SK_COMMIT (g / 64), g % 64, 1⟩ (b2n (decide (r.cause = 0)))
  let l := s.strike.holding
  let before := l.contains g
  let l := if holds then addTo l g else if r.cause = 0 ∧ m = 1 then l.filter (fun x => x != g) else l
  let s := { s with strike := { s.strike with holding := l } }
  if r.cause = 4 then s
  else if holds then
    if m = 1 then
      let s := (s.inc (SK_CNT 2)).setF ⟨SK_HELD (g / 64), g % 64, 1⟩ 1
      s.push (.event { id := 0xE000 + g, cond := r.cause, source := unitSource 0x09, time := s.now })
    else s
  else
    let s := s.inc (SK_CNT 1)
    if m = 1 ∧ before = true then s.push (.event { id := 0xE100 + g, cond := 0, source := unitSource 0x09, time := s.now }) else s

/-- The strike mirror's pulse starts (R186). -/
def mirrorPulse (s : Mach) : Mach :=
  let w := (if s.f SK_MIRROR_width_us = 0 then 10 else s.f SK_MIRROR_width_us) * 1000
  let w := satAt (period s - 1000) w
  if s.b SK_MIRROR_enable then { s with beat := { s.beat with mirrorEnd := some (s.now + w) } } else s

/-- The pulse of the strike of the present beat number, by its mode; at the `first` after the beats start every group holds (R175). -/
def mirrorAtStrike (s : Mach) (first : Bool) : Mach :=
  let g := s.f SK_MIRROR_group
  let known := !first && s.b SK_STATUS_decided && s.n SK_COMMIT_BEAT == s.beatNum
  let c := known && bitAt (s.n (SK_COMMIT (g / 64))) (g % 64)
  match s.f SK_MIRROR_mode with
  | 0 => mirrorPulse s
  | 1 => if c then mirrorPulse s else s
  | 2 => if !c && s.f (SK_GROUP_CFG_mode g) != 0 then mirrorPulse s else s
  | _ => s

/-- TC1 frames over budget that have not started are dropped and counted (R157). -/
def dropOver (s : Mach) : Mach :=
  (keysFrom 0 8).foldl (fun t p =>
    let x := t.rport p
    let bad (f : TxFrame) : Bool := f.f.cls == 1 && f.excess
    (t.setRport p { x with tx := x.tx.filter (fun f => !bad f) }).add (RG_RING_CNT (p / 2) 15) (x.tx.filter bad).length) s

/-- The vote window of the present beat closes (R171). -/
def closeWindow (s : Mach) : Mach := { s with strike := { s.strike with yes := [], nay := [], decided := some s.beatNum } }

/-- The decision of the present beat (R175, R179 to R181). The bits of SK_EVENT are raised once in a decision, however many groups hold
or resume (DESIGN CHOICE, log 78). -/
def decideNow (s : Mach) : Mach :=
  let l := s.stations.filter (fun k => s.b (ST_W0_group_en k))
  let was := s
  let s := (keysFrom 0 256).foldl (decideGroup l) s
  let modes (m c : Nat) : Bool := (keysFrom 0 256).any (fun g => s.f (SK_GROUP_CFG_mode g) == m && s.f (SK_GINFO_cause g) == c)
  let count (ok : Nat → Bool) : Nat := ((keysFrom 0 256).filter (fun g => s.f (SK_GINFO_cause g) != 4 && ok (s.f (SK_GINFO_cause g)))).length
  let resumed := (keysFrom 0 256).any (fun g =>
    s.f (SK_GROUP_CFG_mode g) == 1 && s.f (SK_GINFO_cause g) == 0 && was.strike.holding.contains g)
  let s := (s.inc (SK_CNT 0)).setF SK_STATUS_decided 1
  let s := (s.setF SK_STATUS_held (count (fun c => c != 0))).setF SK_STATUS_committed (count (fun c => c == 0))
  let s := s.setN SK_COMMIT_BEAT ((s.beatNum + 1) % 2 ^ 32)
  let s := if modes 1 1 || modes 1 2 || modes 1 3 || modes 1 5 then s.raise SK_EVENT_hold else s
  let s := if modes 1 5 then s.raise SK_EVENT_lost_member else s
  let s := if resumed then s.raise SK_EVENT_resume else s
  closeWindow s

/-- DECISION_DEADLINE (R175, R176, R157): no decision after a stop, none before the first strike, one in each beat. The vote window of the
beat closes in any case, at a standby too (R171, R185). -/
def onDecisionDeadline (s : Mach) : Mach :=
  if s.b BT_STATUS_beat_run && !s.beat.starting && s.strike.decided != some s.beatNum then
    let s := s.upTo (s.beat.strike + phaseOff s 4)
    if transitHop s then closeWindow s
    else
      let s := dropOver s
      if s.b BT_CTRL_beat_en then
        let s := decideNow s
        if s.f SK_MIRROR_mode = 3 then mirrorPulse s else s
      else closeWindow s
  else s

end Sys2Proof.Machine
end

