-- ==== Sys2Proof/Machine/Tocsin.lean ====
section
/-!
DEFINITION. The tocsin reflex unit, station events and their fences, the event table's timers, and MSI-X release
(13_events_interrupts_and_tocsin.md; fences: R408 to R410).
-/
namespace Sys2Proof.Machine

/-! ### The reflex table (R468 to R474) -/

/-- R469 for one entry. -/
def reflexHit (s : Mach) (src code cond i : Nat) : Bool :=
  (s.b (TX_W0_any_src i) || s.f (TX_W0_src i) == src) && s.f (TX_W0_code i) == code
    && Nat.land (Nat.xor cond (s.f (TX_W0_cond_val i))) (s.f (TX_W1_cond_mask i)) == 0

/-- The entry a frame uses: the lowest of those that match. -/
def reflexFind (s : Mach) (src code cond : Nat) : Option Nat := (reflexEntries s).find? (reflexHit s src code cond)

/-! ### The two copies (R473, R474) -/

/-- Bits of a copy of the reflex table flip: copy, entry, word, and which bits. -/
def reflexUpset (s : Mach) (u : Option (Fin 2 × Fin 4096 × Fin 10 × U64)) : Mach :=
  match u with
  | some (c, i, w, m) =>
    let k := c.val * 0x10000 + i.val * 16 + w.val
    { s with tocsin := { s.tocsin with copies := mapSet (fun _ => 0) s.tocsin.copies k (mapGet (fun _ => 0) s.tocsin.copies k ^^^ m) } }
  | none => s

/-- The bits in which copy c of word w of entry i differs. -/
def copyBits (s : Mach) (c i w : Nat) : U64 := mapGet (fun _ => 0) s.tocsin.copies (c * 0x10000 + i * 16 + w)

/-- The reflex table as copy c holds it, in the place of the registers. -/
def copyView (s : Mach) (c : Nat) : Mach :=
  s.tocsin.copies.foldl (fun v x =>
    let r := TX_W0 (x.1 % 0x10000 / 16) + x.1 % 16 * 0x10
    if x.1 / 0x10000 = c then v.setR r (v.r r ^^^ x.2) else v) s

/-- The write frame of output o of entry i (R470); its launch time is set as it is issued. -/
def outputFrame (v : Mach) (i o : Nat) : Frame :=
  let n := 2 ^ v.f (TX_WO_size i o)
  { type := 0x6, cls := 0, flags := v.f (TX_WO_space i o), dest := v.f (TX_WO_station i o),
    word := 2 ^ 31 + v.f (TX_WO_offset i o), len := n, payload := (beBytes 8 (v.f (TX_WD_data i o))).take n }

/-- The output frames of an entry in index order, and its post ID: what a copy makes of a match. -/
def reflexOuts (v : Mach) (m : Option Nat) : List (Nat × Frame) × Nat :=
  match m with
  | some i => ((keysFrom 0 (v.f (TX_W0_nout_m1 i) + 1)).map (fun o => (o, outputFrame v i o)), v.f (TX_W1_post_id i))
  | none => ([], 0)

/-- A TC0 event frame as it comes to the unit: both copies search, and the outputs go to the stations that take a TC0 frame now (R28,
R469, R473). -/
def reflexOf (s : Mach) (port : Option Nat) (f : Frame) : Reflex :=
  let code := f.word / 65536 % 65536
  let cond := f.word % 65536
  let va := copyView s 0
  let vb := copyView s 1
  let a := reflexFind va f.src code cond
  let b := reflexFind vb f.src code cond
  let x := reflexOuts va a
  { port := port, f := f, t := s.now, a := a, b := b, same := a == b && x == reflexOuts vb b,
    outs := x.1.filter (fun o => stationTakes s o.2.dest 0), post := x.2 }

/-- One output of an entry on one ring: a pair, or on the port that is left; dropped when both are down (Table 01-7). -/
def sendOutput (i t : Nat) (excess : Bool) (o : Nat × Frame) (s : Mach) (n : Nat) : Mach :=
  if ringAlive s n then sendPair s n { f := { o.2 with launch := s.time32 }, ingress := some t, excess := excess, internal := true }
  else ((s.inc (TX_CNT 6)).raise TX_EVENT_out_drop).logC 0x0802 (Config.packDetail [i, o.1])

/-- The outputs of an entry, in index order. A standby sends none (R670). -/
def sendOutputs (s : Mach) (i : Nat) (r : Reflex) (excess : Bool) : Mach :=
  if transitHop s then s else r.outs.foldl (fun u o => (destRings u o.2.dest).foldl (sendOutput i r.t excess o) u) s

/-- R473: the two copies differ on a frame; TX_DIS shows what each answered. The port of an interlock input is a free value. -/
def disagree (s : Mach) (r : Reflex) (e : EvRec) : Mach :=
  let s := ((s.setF TX_DIS_match_a (b2n r.a.isSome)).setF TX_DIS_idx_a (r.a.getD 0)).setF TX_DIS_match_b (b2n r.b.isSome)
  let s := s.setF TX_DIS_idx_b (r.b.getD 0)
  let s := match r.port with
    | some p => s.setF TX_DIS_port p
    | none =>
      let c := s.free
      c.2.setF TX_DIS_port c.1
  let s := (s.setF TX_DIS_code e.id).setF TX_DIS_station e.source
  let s := { s with tocsin := { s.tocsin with dis := r.port.map (fun _ => (r.f.src, r.f.seq)) } }
  let s := ((s.inc (TX_CNT 3)).raise TX_EVENT_disagree).logC 0x0801 (s.n TX_DIS)
  s.push (.event { e with flags := e.flags + 8 })

/-- A TC0 event frame is answered: outputs, post (R26, R469, R470). `excess` marks one served over budget. -/
def tocsinServe (s : Mach) (r : Reflex) (flags : Nat) (excess : Bool) : Mach :=
  let code := r.f.word / 65536 % 65536
  let e : EvRec := { id := code, cond := r.f.word % 65536, source := r.f.src, time := r.t,
                     flags := flags + (if excess then 2 else 0), payload := r.f.payload, urgent := true }
  let s := if excess then s.inc (TX_CNT 4) else s
  if !r.same then disagree s r e
  else
    match r.a with
    | none => (s.inc (TX_CNT 1)).push (.event e)
    | some i =>
      let s := sendOutputs (s.inc (TX_CNT 0)) i r excess
      s.push (.event { e with id := (if r.post = 0 then code else r.post), flags := e.flags + 4, reflex := i })

/-- A TC0 frame within budget waits on some port. -/
def tc0Waits (s : Mach) : Bool := (keysFrom 0 8).any (fun p => (s.rport p).tx.any (fun t => t.f.cls == 0 && !t.excess))

/-- Serve the best-effort queue while no in-budget TC0 frame waits (Table 01-7); the count is fuel. -/
def serveBe : Nat → Mach → Mach
  | 0, s => s
  | n + 1, s =>
    match s.tocsin.be with
    | [] => s
    | r :: rest =>
      if tc0Waits s then s
      else serveBe n (tocsinServe { s with tocsin := { s.tocsin with be := rest } } r 0 true)

/-- An over-budget event frame joins the best-effort queue, or is dropped from the full one (R476). -/
def queueBe (s : Mach) (p : Nat) (f : Frame) : Mach :=
  if s.tocsin.be.length < 256 then serveBe 257 { s with tocsin := { s.tocsin with be := s.tocsin.be ++ [reflexOf s (some p) f] } }
  else
    let x := s.rport p
    let s := (s.inc (TX_CNT 5)).raise TX_EVENT_be_drop
    if x.tc0Drop then s else (s.setRport p { x with tc0Drop := true }).logC 0x0804 p

/-- Answer the frames held during a takeover, in arrival order (Table 01-7, condition 5). -/
def serveHold (s : Mach) : Mach :=
  s.tocsin.hold.foldl (fun t x => tocsinServe t x 0x20 false) { s with tocsin := { s.tocsin with hold := [] } }

/-- A first copy of a TC0 event frame. During a takeover the first 1,024 wait; those beyond are lost and leave no trace (DESIGN CHOICE, log
73). -/
def tc0First (s : Mach) (p : Nat) (f : Frame) (excess : Bool) : Mach :=
  let code := f.word / 65536 % 65536
  if reservedId code then postOutside s { id := code, cond := f.word % 65536, source := f.src, time := s.now }
  else
    let s := if code = 0xFFF0 ∨ code = 0xFFF1 then stationPort s f.src (f.word % 65536) (decide (code = 0xFFF1)) else s
    if s.twin.progress then
      if s.tocsin.hold.length < 1024 then { s with tocsin := { s.tocsin with hold := s.tocsin.hold ++ [reflexOf s (some p) f] } } else s
    else if excess then queueBe s p f
    else tocsinServe s (reflexOf s (some p) f) 0 false

/-- The east port's copy of a frame comes in the same 10 ns as the west port's, and is the one that is kept (R28, R104): what still waits is
the east copy, one within its port's budget is served, and TX_DIS names the east port. -/
def eastCopy (s : Mach) (p : Nat) (f : Frame) (excess : Bool) : Mach :=
  let mine (r : Reflex) : Bool := r.f.src == f.src && r.f.seq == f.seq && r.port == some (p + 1)
  let at_ (r : Reflex) : Reflex := { r with port := some p }
  let s := if s.tocsin.dis = some (f.src, f.seq) then s.setF TX_DIS_port p else s
  let s := { s with tocsin := { s.tocsin with be := mapWhere mine at_ s.tocsin.be, hold := mapWhere mine at_ s.tocsin.hold } }
  if excess then s
  else
    match takeFirst (fun r => r.f.src == f.src && r.f.seq == f.seq && r.port == some p) s.tocsin.be with
    | some (r, rest) => tocsinServe { s with tocsin := { s.tocsin with be := rest } } r 0 false
    | none => s

/-- EVENT_FRAME_TC0 (R469, R475), with the bits of a copy of the reflex table that have flipped since the command before. -/
def onEventFrameTc0 (p : Fin 8) (f : Frame) (upset : Option (Fin 2 × Fin 4096 × Fin 10 × U64)) (s : Mach) : Mach :=
  let p := p.val
  let q := rxFront (reflexUpset s upset) p f
  if q.1 && f.type == 0x8 && f.cls == 0 then
    let east := eastWins q.2 p f
    let r := rxDiscard q.2 p f
    let c := tc0OnPort (if r.1 then tc0Wide r.2 else r.2) p
    if r.1 then tc0First c.2 p f c.1 else if east then eastCopy c.2 p f c.1 else c.2
  else q.2

/-- REFLEX_TABLE_COMPARE (R474): the compare of entry i, with the bits of a copy that have flipped since the command before. -/
def onReflexTableCompare (i : Fin 4096) (upset : Option (Fin 2 × Fin 4096 × Fin 10 × U64)) (s : Mach) : Mach :=
  let s := reflexUpset s upset
  if (keysFrom 0 10).any (fun w => copyBits s 0 i.val w != copyBits s 1 i.val w) then
    ((s.inc (TX_CNT 7)).raise TX_EVENT_table_mismatch).logC 0x0803 i.val
  else s

/-- INTERLOCK_INPUT_CHANGE (R670): line k (2 to 7) takes a level after the filter. -/
def onInterlockInputChange (k : Fin 6) (level : Bool) (s : Mach) : Mach :=
  let x : RF := ⟨PW_DIO, k.val + 2, 1⟩
  if s.b x = level then s
  else
    let s := s.setF x (b2n level)
    tocsinServe s (reflexOf s none { type := 0x8, cls := 0, src := 0, word := (0xFFE8 + k.val) * 65536 + b2n level, len := 0 }) 0 false

/-! ### The downbeat that returns -/

/-- DOWNBEAT_LOOP_RETURN (R60): the module's own downbeat at the other port of its ring; one with an invalid launch time (R71) measures
nothing. -/
def onDownbeatLoopReturn (p : Fin 8) (f : Frame) (s : Mach) : Mach :=
  let p := p.val
  if s.portUp p && f.type == 0x1 && !f.isCal then
    if !frameOk f then badFrame s p f
    else
      let s := fenceStep (rxGood s p f) p f
      if transitHop s then forward s p f
      else
        let n := p / 2
        match expandLaunch s f.launch, (s.rst n).loop with
        | some strike, some (c, a) =>
          let transit := s.now - (strike - f.aux)
          let v := transit - resolveAcc f.acc transit (halfSum s n (ringN s n))
          if 5 < absDiff v (if p % 2 = 1 then c else a) then s.raise BT_EVENT_loop_changed else s
        | _, _ => s
  else s

/-! ### Fences (R408 to R410) -/

/-- The window of a source and class. -/
def winOf (s : Mach) (src cls : Nat) : Option RxWin := (s.ring.rx.find? (fun x => x.1 == rxKey src cls false)).map (fun x => x.2)

/-- A TC1 or TC3 fence value is not newer than the highest number kept, or comes before the first frame (R410). -/
def fenceNotNewer (s : Mach) (src cls v : Nat) : Bool :=
  match winOf s src cls with
  | some w => decide ((v + 65536 - w.h) % 65536 = 0) || decide (32768 ≤ (v + 65536 - w.h) % 65536)
  | none => true

/-- Every TC2 frame of the source up to a number has been kept. -/
def fenceTc2 (s : Mach) (src v : Nat) : Bool :=
  match winOf s src 2 with
  | some w =>
    let age := (w.h + 65536 - v) % 65536
    decide (age < 32768) && (keysFrom age (w.span - age)).all (fun a => w.seen.contains a)
  | none => true

/-- An inbound Uhlux write up to a number is still to be performed. -/
def fenceUx (s : Mach) (u : Nat × Nat) : Bool := (s.uxp u.1).inq.all (fun w => decide (u.2 < w.1))

/-- What a fence still waits for. -/
def fenceLeft (s : Mach) (x : Fenced) : Fenced :=
  { x with tc2 := (match x.tc2 with
                   | some v => if fenceTc2 s x.src v then none else some v
                   | none => none),
           tc1 := (match x.tc1 with
                   | some v => if fenceNotNewer s x.src 1 v then none else some v
                   | none => none),
           tc3 := (match x.tc3 with
                   | some v => if fenceNotNewer s x.src 3 v then none else some v
                   | none => none),
           ux := (match x.ux with
                  | some u => if fenceUx s u then none else some u
                  | none => none) }

/-- Nothing is left to wait for. -/
def Fenced.open (x : Fenced) : Bool := x.tc2.isNone && x.tc1.isNone && x.tc3.isNone && x.ux.isNone

/-- An event with a fence: delivered now, or kept. -/
def postFenced (s : Mach) (x : Fenced) : Mach :=
  let x := fenceLeft s x
  if x.open then postOutside s x.ev else { s with fenced := s.fenced ++ [x] }

/-- EVENT_FENCE_SATISFIED: waiting event i. -/
def onEventFenceSatisfied (i : Nat) (s : Mach) : Mach :=
  match s.fenced[i]? with
  | none => s
  | some x =>
    if (fenceLeft s x).open then postOutside { s with fenced := s.fenced.eraseIdx i } x.ev else s

/-- R409: one tagged number taken as resolved. -/
def fenceLost (s : Mach) (x : Fenced) (cls v : Nat) : Mach :=
  s.logE { cause := 0x0508, station := x.src, flags := 8, detail := Config.packDetail [v, cls] }

/-- The input-complete phase of the beat in which a fenced event arrived has passed. -/
def fencePastInput (s : Mach) (x : Fenced) : Bool := x.beat != s.beatNum || s.beat.done.contains 1 || !s.b BT_STATUS_beat_run

/-- FENCE_TIMEOUT: waiting event i (R409). The numbers whose time has come are taken as lost; the event goes when nothing is
left. -/
def onFenceTimeout (i : Nat) (s : Mach) : Mach :=
  match s.fenced[i]? with
  | none => s
  | some x =>
    let y := fenceLeft s x
    let gone := !s.stValid x.src || s.f (ST_W1_state x.src) == 0
    let l1 := match y.tc1 with
      | some v => if gone || fencePastInput s x then some v else none
      | none => none
    let wait1 := y.tc1.isSome && l1.isNone
    let s := if (y.tc2.isSome || y.tc3.isSome) && !gone && !wait1 then s.upTo (x.at_ + 2000000) else s
    let late := gone || decide (x.at_ + 2000000 ≤ s.now)
    let l2 := if late then y.tc2 else none
    let l3 := if late then y.tc3 else none
    let z := { y with tc1 := (if l1.isSome then none else y.tc1), tc2 := (if late then none else y.tc2), tc3 := (if late then none else y.tc3) }
    let lost := l1.isSome || l2.isSome || l3.isSome
    let ev := if lost && !bitAt x.ev.flags 0 then { x.ev with flags := x.ev.flags + 1 } else x.ev
    let s := match l1 with
      | some v => fenceLost s x 1 v
      | none => s
    let s := match l2 with
      | some v => fenceLost s x 2 v
      | none => s
    let s := match l3 with
      | some v => fenceLost s x 3 v
      | none => s
    if z.open && (lost || bitAt x.ev.flags 0) then
      postOutside (({ s with fenced := s.fenced.eraseIdx i }.inc (BR_CNT 6)).raise BR_EVENT_fence_lost) ev
    else { s with fenced := s.fenced.set i { z with ev := ev } }

/-! ### TC2 event frames -/

/-- R403: a station has dropped a posted write. Its number is looked up in the send history, the newest first. -/
def droppedWrite (s : Mach) (f : Frame) : Mach :=
  let st := (f.payload.headD 0).toNat
  let hit := s.ring.txHist.find? (fun x => x.1 / 4 == f.src && x.2.1 == f.word % 65536)
  let e : LogEntry := { cause := 0x0503, station := f.src, fseq := f.word % 65536, flags := 3, code := st, detail := st }
  match hit with
  | some x =>
    let i := x.2.2.2
    let seen := s.log.any (fun y => y.2.bseq == x.2.2.1 && y.2.cause == 0x0501)
    let s := logOnce s { e with bseq := x.2.2.1, initiator := i }
    if seen then s
    else
      let s := if i = 0xFF then s else s.inc (BR_PERR_CNT i)
      let s := (s.inc (BR_CNT 2)).raise BR_EVENT_posted_err
      if i < 64 then storeFailed s i true false else s
  | none => ((s.logE e).inc (BR_CNT 2)).raise BR_EVENT_posted_err

/-- R146: a coupler reports the loops of a tier-2 ring; its hops and K values follow (R59 steps 3 to 5), and a lead that no
longer fits is reported (R67). -/
def tier2Report (s : Mach) (f : Frame) : Mach :=
  let key := 4 + f.src * 4 + f.word % 4
  let c := beNat (f.payload.take 4)
  let a := beNat ((f.payload.drop 4).take 4)
  let s := s.setRst key { s.rst key with loop := some (c, a), calMode := 1 }
  let s := finishCal s key
  if lead s < dMaxNs s + 2000 then s.raise BT_EVENT_lead_exceeded else s

/-- What a TC2 event of a station asks of the module itself (R403, Table 04-5). -/
def tc2Own (s : Mach) (f : Frame) : Mach :=
  let n := s.stRing f.src
  match f.word / 65536 % 65536 with
  | 0xFFE0 => droppedWrite s f
  | 0xFFF2 => tier2Report s f
  | 0xFFF3 =>
    match (s.rst n).run.tier2 with
    | some (c, i) => if c = f.src ∧ i = f.word % 4 ∧ (s.rst n).run.want = 1 then tier2End s n c i else s
    | none => s
  | _ => s

/-- EVENT_FRAME_TC2 (R408). -/
def onEventFrameTc2 (p : Fin 8) (f : Frame) (s : Mach) : Mach :=
  let q := rxFrame s p.val f
  if q.1 && f.type == 0x8 && f.cls == 2 then
    let s := tc2Own q.2 f
    let r : EvRec := { id := f.word / 65536 % 65536, cond := f.word % 65536, source := f.src, time := s.now, payload := f.payload }
    if reservedId r.id then postOutside s r
    else postFenced s { ev := r, src := f.src, at_ := s.now, beat := s.beatNum, tc2 := some f.seq,
                        tc1 := some (f.aux / 65536 % 65536), tc3 := some (f.aux % 65536) }
  else q.2

/-! ### The event table's timers, engine queues and MSI-X -/

/-- HOLDOFF_TIMER_END: entry id (R463 on_timer_end). -/
def onHoldoffTimerEnd (id : BitVec 16) (s : Mach) : Mach :=
  let id := id.toNat
  let x := s.evSlot id
  match x.timer with
  | none => s
  | some t =>
    let s := s.upTo t
    if s.f (EV_E1_pending id) = 0 then s.setEvSlot id { x with timer := none }
    else
      let s := match x.latest with
        | some r => sendMsix s id r
        | none => s
      let h := s.f (EV_E0_holdoff_us id)
      s.setEvSlot id { x with timer := (if h = 0 then none else some (s.now + h * 1000)) }

/-- EVENT_HELD_DELIVER: the first occurrence held back for an engine whose queue has room (R462, Table 13-7). -/
def onEventHeldDeliver (e : Fin 64) (s : Mach) : Mach :=
  if (s.eng e.val).evq.length < 64 then
    match takeFirst (fun h => h.engine == e.val) s.evHeld with
    | some (h, rest) => engineDeliver { s with evHeld := rest } h.id e.val h.last
    | none => s
  else s

/-- Send one message for each vector that is pending and no longer masked (R465). -/
def releaseVectors (s : Mach) : Mach :=
  (s.mxAcc.map (fun x => x.1)).foldl (fun t v =>
    if t.vectorMasked v then t
    else issueMsix (setPba { t with mxAcc := mapSet (fun _ => 0) t.mxAcc v 0 } v 0) v) s

/-- Send what a cleared mask lets go, and count it (R465). -/
def releaseUnmasked (s : Mach) : Mach :=
  let n := (s.mxAcc.filter (fun x => !s.vectorMasked x.1)).length
  if n = 0 then s else (releaseVectors s).add (MX_CNT 2) n

/-- MSIX_UNMASK: the mask of a vector, or the function's, is cleared. -/
def onMsixUnmask (v : Option (BitVec 11)) (s : Mach) : Mach :=
  match v with
  | some v => releaseUnmasked (s.setF (MX_VCTRL_mask v.toNat) 0)
  | none => releaseUnmasked { s with pcie := { s.pcie with funcMask := false } }

/-- PCIE_LINK_L0_RETURN (R467): the link is in L0 with credit, and what was held goes out in order. -/
def onPcieLinkL0Return (s : Mach) : Mach :=
  let l := s.mxHeld
  let s := { s with pcie := { s.pcie with l0 := true }, mxHeld := [], mxEpisode := false }
  releaseVectors (l.foldl (fun t v => if t.vectorMasked v then setPba { t with mxAcc := mapSet (fun _ => 0) t.mxAcc v (mapGet (fun _ => 0) t.mxAcc v + 1) } v 1
                                      else issueMsix t v) s)

end Sys2Proof.Machine
end

