-- ==== Sys2Proof/Machine/Host.lean ====
section
/-!
DEFINITION. The host's windows (10_host_windows_and_translation.md), the answers of stations, the confirmed write port and
the orphan capture (11_transaction_bridging_and_errors.md), and the SRAM windows of BAR0.
-/
namespace Sys2Proof.Machine

/-! ### Pieces of a host request (R371, R375, R376) -/

/-- Runs of consecutive true flags, as first index and length. -/
def flagRuns : Nat → List Bool → List (Nat × Nat)
  | _, [] => []
  | i, true :: t =>
    match flagRuns (i + 1) t with
    | (a, n) :: r => if a = i + 1 then (i, n + 1) :: r else (i, 1) :: (a, n) :: r
    | [] => [(i, 1)]
  | i, false :: t => flagRuns (i + 1) t

/-- Cut one run of host bytes into the groups it covers in part and the run of whole groups between them, as host offset and
length; the count is fuel. -/
def groupCuts (u : Nat) : Nat → Nat → Nat → List (Nat × Nat)
  | 0, _, _ => []
  | k + 1, a, n =>
    if n = 0 then []
    else if a % u ≠ 0 then
      let m := if n < u - a % u then n else u - a % u
      (a, m) :: groupCuts u k (a + m) (n - m)
    else if n < u then [(a, n)]
    else (a, n / u * u) :: groupCuts u k (a + n / u * u) (n % u)

/-- The fabric offset where a piece of host bytes begins (R369): a part of one group is mirrored inside it. -/
def fabStart (u a n : Nat) : Nat := if a % u = 0 ∧ n % u = 0 then a else a - a % u + (u - a % u - n)

/-- Cut at each 1,024-byte boundary, then into naturally aligned units no larger than w (0: none); the count is fuel. -/
def unitCuts (w : Nat) : Nat → Nat → Nat → List (Nat × Nat)
  | 0, _, _ => []
  | k + 1, a, n =>
    if n = 0 then []
    else
      let room := 1024 - a % 1024
      let m := if n < room then n else room
      let one (z : Nat) : Bool := a % z == 0 && decide (z ≤ m)
      let m := if w = 0 then m
        else if 8 ≤ w ∧ one 8 = true then 8 else if 4 ≤ w ∧ one 4 = true then 4 else if 2 ≤ w ∧ one 2 = true then 2 else 1
      (a, m) :: unitCuts w k (a + m) (n - m)

/-- Largest unit of acc_w in bytes; 0 for a burst. -/
def accUnit (c : Nat) : Nat := if c = 0 then 0 else 2 ^ (c - 1)

/-- Insert a cut in ascending order of its offset. -/
def insCut (c : Nat × Nat) : List (Nat × Nat) → List (Nat × Nat)
  | [] => [c]
  | x :: t => if c.1 < x.1 then c :: x :: t else x :: insCut c t

/-- Cuts in ascending order of their offsets (R373). -/
def sortCuts (l : List (Nat × Nat)) : List (Nat × Nat) := l.foldr insCut []

/-- The pieces of a request, as page offset and length in ascending fabric offset. `a0` is the page offset of the first host
byte, `be` its bytes' flags. -/
def hostCuts (u w a0 : Nat) (be : List Bool) : List (Nat × Nat) :=
  sortCuts (((flagRuns 0 be).flatMap (fun r => groupCuts u (be.length + 3) (a0 + r.1) r.2)).flatMap
    (fun g => unitCuts w (g.2 + 3) (fabStart u g.1 g.2) g.2))

/-- The pieces of a widened read (R376): the whole 64-byte blocks that hold an enabled byte. -/
def wideCuts (u w a0 : Nat) (be : List Bool) : List (Nat × Nat) :=
  let lo := a0 / 64
  let hi := (a0 + be.length + 63) / 64
  let hit (b : Nat) : Bool := (keysFrom 0 be.length).any (fun i => be.getD i false && (a0 + i - (a0 + i) % u) / 64 == b)
  (flagRuns lo ((keysFrom lo (hi - lo)).map hit)).flatMap (fun r => unitCuts w (r.2 * 64 + 3) (r.1 * 64) (r.2 * 64))

/-- The byte of a host write that lies at fabric page offset o. -/
def hostByteAt (u a0 : Nat) (data : List Byte) (o : Nat) : Byte := data.getD (o - o % u + (u - 1 - o % u) - a0) 0

/-- The pieces of a translated request: frames, or for Uhlux the cycles of R378. -/
def hostPieces (uhlux : Bool) (base u a0 : Nat) (cuts : List (Nat × Nat)) (data : List Byte) : List Piece :=
  cuts.flatMap (fun c =>
    let bs := if data.isEmpty then [] else (keysFrom c.1 c.2).map (hostByteAt u a0 data)
    if uhlux then cutCycles (c.2 + 1) (base + c.1) bs c.2 else [{ fa := base + c.1, len := c.2, data := bs }])

/-! ### Translation (Table 10-6) -/

/-- Fabric address of a BAR2 offset through its entry. -/
def attFa (s : Mach) (off : Nat) : Nat := s.f (AT_E0_fab_page (off / mib)) * mib + off % mib

/-- Number of enabled bytes. -/
def enabled (be : List Bool) : Nat := (be.filter id).length

/-- The enabled bytes are exactly one naturally aligned unit of w bytes. -/
def oneUnit (w off : Nat) (be : List Bool) : Bool :=
  match flagRuns off be with
  | [(a, n)] => n == w && a % w == 0
  | _ => false

/-- MPU denials of the request's bytes, by host byte. -/
def hostDeny (s : Mach) (off u : Nat) (need : Need) (be : List Bool) : List Bool :=
  (keysFrom 0 be.length).map (fun i =>
    let a := off + i
    be.getD i false && (mpuByte s 0x40 true (0x800000000000 + attFa s (a - a % u + (u - 1 - a % u))) need).isSome)

/-- The first check that fails (0: none). -/
def attCheck (s : Mach) (off : Nat) (be : List Bool) (write : Bool) : Nat :=
  let i := off / mib
  let u := 2 ^ s.f (AT_E0_swap i)
  if !s.b (AT_E0_valid i) then 2
  else if (if write then !s.b (AT_E0_w i) else !s.b (AT_E0_r i)) then 3
  else if s.b (AT_E0_strict i) && !oneUnit (accUnit (s.f (AT_E0_acc_w i))) off be then 4
  else if !write && decide (faSpace (attFa s off) = 2) && decide (32 < be.length) then 5
  else
    let d := hostDeny s off u (if write then needW else needR) be
    if 0 < enabled be ∧ enabled d = enabled be then 6 else 0

/-- Record the lowest denied byte of a host request. -/
def reportDeny (s : Mach) (off u : Nat) (need : Need) (d : List Bool) : Mach :=
  let l := (keysFrom 0 d.length).filterMap (fun i =>
    let a := off + i
    if d.getD i false then some (0x800000000000 + attFa s (a - a % u + (u - 1 - a % u))) else none)
  match l with
  | [] => s
  | x :: t =>
    let a := t.foldl (fun m y => if y < m then y else m) x
    match mpuByte s 0x40 true a need with
    | some v => mpuReport s 0x40 true need a v
    | none => s

/-- A refused request: AT_FAULT, AT_EVENT, the log (R367). -/
def attRefuse (s : Mach) (rid off c : Nat) (write : Bool) : Mach :=
  let s := (((s.setF AT_FAULT_requester rid).setF AT_FAULT_reason c).setF AT_FAULT_write (b2n write)).setF AT_FAULT_offset off
  let s := match c with
    | 1 => s.raise AT_EVENT_atomic
    | 2 => s.raise AT_EVENT_unmapped
    | 3 => s.raise AT_EVENT_rights
    | 4 => s.raise AT_EVENT_width
    | 5 => s.raise AT_EVENT_uhlux_long
    | _ => s
  s.logE { cause := 0x0509, initiator := 0x40, iaddr := off, att := off / mib, flags := b2n write, detail := c }

/-- A completion without data. -/
def completeBad (s : Mach) (tag status : Nat) : Mach :=
  (if status = statusUR then s.inc (AT_CNT 5) else s.inc (AT_CNT 6)).emit (.completion tag status [] false)

/-- A dropped host write: counted, and for the host's posted errors. -/
def dropWrite (s : Mach) : Mach := (s.inc (AT_CNT 7)).inc (BR_PERR_CNT 0x40)

/-! ### Zero-length reads and the order of host requests (R348, R379) -/

/-- Complete the zero-length reads whose earlier writes have all been sent. -/
def finishZero (s : Mach) : Mach :=
  (s.reqs.filter (fun q => q.pieces.isEmpty && !q.write)).foldl
    (fun t q => if earlierUnsent t q then t else reqEnd t q 0 false) s

/-- FRAME_TRANSMIT (R86): port p starts or resumes a frame; `cut` names the 64-byte boundary at which TC0 work or a link
frame waits, if any. -/
def onFrameTransmit (p : Fin 8) (cut : Option Nat) (s : Mach) : Mach :=
  serveBe 257 (finishZero (pushWaiting (resolveSent (portTransmit s p.val cut))))

/-! ### BAR2 (R364 to R379) -/

/-- The function answers its BARs. -/
def barsOpen (s : Mach) : Bool := s.pcie.mse && !s.pcie.d3hot && !s.hReset

/-- A request of the host on an entry: what its fields give. -/
def hostReq (s : Mach) (off : Nat) (kind : ReqKind) (write posted ack : Bool) (mask deny : List Bool) (pieces : List Piece) : Req :=
  let i := off / mib
  { bseq := 0, init := 0x40, kind := kind, write := write, posted := posted, ack := ack, cls := 2 + s.f (AT_E0_cls i),
    faddr := attFa s off, iaddr := off, att := i, attWord := s.n (AT_E0 i), swap := s.f (AT_E0_swap i), tAcc := 0, hostMask := mask, deny := deny,
    pieces := pieces }

/-- Count a translated TLP. -/
def countHit (s : Mach) (off k : Nat) : Mach := (s.incF (AT_E1_hits (off / mib))).inc (AT_CNT k)

/-- Drop the flags of denied bytes. -/
def allowed (be deny : List Bool) : List Bool := be.zipWith (fun b d => b && !d) deny

/-- HOST_BAR2_READ: tag, requester, offset, and one flag per byte from there. -/
def onHostBar2Read (tag rid : Nat) (off : BitVec 36) (be : List Bool) (s : Mach) : Mach :=
  let off := off.toNat
  if be.isEmpty ∨ 4096 < off % 4096 + be.length then s
  else if !barsOpen s then completeBad s tag statusUR
  else
    let c := attCheck s off be false
    let i := off / mib
    let u := 2 ^ s.f (AT_E0_swap i)
    let d := hostDeny s off u needR be
    if c ≠ 0 then
      let s := if c = 6 then reportDeny s off u needR d else s
      completeBad (attRefuse s rid off c false) tag (if c = 4 ∨ c = 5 then statusCA else statusUR)
    else
      let s := reportDeny (countHit s off 0) off u needR d
      let ok := allowed be d
      let w := accUnit (s.f (AT_E0_acc_w i))
      let a0 := off % mib
      let plain := hostCuts u w a0 ok
      let wide := if s.b (AT_E0_mtype i) && s.b (AT_E0_pf i) then wideCuts u w a0 ok else plain
      let s := if wide = plain then s else s.inc (AT_CNT 4)
      let fa := attFa s off
      let q := hostReq s off (.hostRead tag) false false false be d (hostPieces (decide (faSpace fa = 2)) (fa - fa % mib) u a0 wide [])
      if q.pieces.isEmpty then finishZero (takeBseq s q) else accept s q

/-- The last write frame on a normal page that a new write may be appended to (R374): the request before it, whose last
frame ends where the new piece begins and has not started. -/
def mergeTarget (s : Mach) (off : Nat) (p : Piece) : Option (Req × Nat × Piece) :=
  let i := off / mib
  let prev := (s.reqs.filter (fun q => q.init == 0x40 && q.write && decide (q.kind = .hostWrite) && q.att == i)).getLast?
  match prev with
  | none => none
  | some q =>
    let last := (s.reqs.filter (fun r => r.init == 0x40 && decide (faSpace r.faddr ≠ 2) && faStation r.faddr == faStation p.fa)).getLast?
    match q.pieces.getLast? with
    | some z =>
      if s.b (AT_E0_mtype i) && s.f (AT_E0_acc_w i) == 0 && decide (last = some q) && z.sentAt.isNone && !z.done
          && p.fa == z.fa + z.len && decide (z.len + p.len ≤ 1024) && p.fa % 1024 != 0
          && q.attWord == s.n (AT_E0 i) then some (q, q.pieces.length - 1, z) else none
    | none => none

/-- Append bytes to a piece that has not started, in the request and in the frame that waits for it. -/
def appendPiece (s : Mach) (b i : Nat) (bs : List Byte) : Mach :=
  let one (t : TxFrame) : TxFrame :=
    if t.own = some (b, i) then { t with f := { t.f with len := t.f.len + bs.length, payload := t.f.payload ++ bs } } else t
  let s := s.updReq b (fun q => { q with merged := q.merged + 1,
                                         pieces := q.pieces.modify i (fun p => { p with len := p.len + bs.length, data := p.data ++ bs }) })
  let s := (keysFrom 0 8).foldl (fun t p => t.setRport p { t.rport p with tx := (t.rport p).tx.map one }) s
  (keysFrom 0 4).foldl (fun t n => t.setRst n { t.rst n with held := (t.rst n).held.map one }) s

/-- HOST_BAR2_WRITE: requester, offset, flags and data. While the posted queue is full the host has no credit (R386). -/
def onHostBar2Write (rid : Nat) (off : BitVec 36) (be : List Bool) (data : List Byte) (s : Mach) : Mach :=
  let off := off.toNat
  if be.isEmpty ∨ 4096 < off % 4096 + be.length ∨ postedRoom s = false then s
  else if !barsOpen s then s
  else
    let c := attCheck s off be true
    let i := off / mib
    let u := 2 ^ s.f (AT_E0_swap i)
    let d := hostDeny s off u needW be
    if c ≠ 0 then
      let s := if c = 6 then reportDeny s off u needW d else s
      dropWrite (attRefuse s rid off c true)
    else if enabled be = 0 then countHit s off 1
    else
      let s := reportDeny (countHit s off 1) off u needW d
      let s := if 0 < enabled d then s.inc (BR_PERR_CNT 0x40) else s
      let a0 := off % mib
      let fa := attFa s off
      let ps := hostPieces (decide (faSpace fa = 2)) (fa - fa % mib) u a0 (hostCuts u (accUnit (s.f (AT_E0_acc_w i))) a0 (allowed be d)) data
      let hit := match ps with
        | [p] => (mergeTarget s off p).map (fun x => (x, p))
        | _ => none
      match hit with
      | some ((q, k, _), p) => (appendPiece (s.inc BR_SEQ) q.bseq k p.data).inc (AT_CNT 3)
      | none => accept s (hostReq s off .hostWrite true true (s.b (AT_E0_ack i)) [] [] ps)

/-- HOST_ATOMICOP (R356): UR on every BAR; through BAR2 it is check 1 of Table 10-6. -/
def onHostAtomicop (tag rid : Nat) (bar : Fin 3) (off : BitVec 36) (s : Mach) : Mach :=
  let s := if bar.val = 1 ∧ barsOpen s = true then attRefuse s rid off.toNat 1 false else s
  completeBad s tag statusUR

/-! ### BAR4 (R363) -/

/-- The BAR4 bytes a host access may use. -/
def bar4Deny (s : Mach) (off : Nat) (need : Need) (n : Nat) : List Bool :=
  (keysFrom (0x400000000 + off) n).map (fun a => (mpuByte s 0x40 true a need).isSome)

/-- The DRAM channels of a run, each named by its first byte (R480). -/
def chansOf (off n : Nat) : List Nat := (keysFrom (off / 256) ((off % 256 + n + 255) / 256)).map (fun c => c * 256)

/-- Every channel that a run lies in answers. -/
def chansReach (s : Mach) (off n : Nat) : Bool := (chansOf off n).all (fun c => s.dramReach c)

/-- A host read that a NoC target's isolation ends, with code 0x15 (R395, R497). -/
def completeCA (s : Mach) (tag : Nat) : Mach :=
  (((s.inc (BR_CNT 0)).inc (AT_CNT 6)).raise BR_EVENT_nonposted_err).emit (.completion tag statusCA [] false)

/-- HOST_BAR4_READ: tag, requester, offset, length. -/
def onHostBar4Read (tag rid : Nat) (off : BitVec 34) (n : Nat) (s : Mach) : Mach :=
  let off := off.toNat
  if n = 0 ∨ 4096 < off % 4096 + n then s
  else if !barsOpen s then completeBad s tag statusUR
  else
    let r := mpuCheck s 0x40 true needR (0x400000000 + off) n
    let d := bar4Deny s off needR n
    let s := r.1
    if d.all id ∨ s.dramOk = false then completeBad s tag statusUR
    else if !chansReach s off n then completeCA s tag
    else
      let bad := s.dramPoison off n
      let s := if bad then
          ((((logPoison s 0x40 off).setF AT_FAULT_requester rid).setF AT_FAULT_reason 8).setF AT_FAULT_write 0).setF AT_FAULT_offset off
            |>.raise AT_EVENT_poisoned
        else s
      sendCompletions (n + 1) s tag off ((s.dramRead off n).zipWith (fun b x => if x then 0xFF else b) d) bad

/-- Write the flagged bytes of a run to DRAM. -/
def dramWriteFlags (s : Mach) (m off : Nat) (be : List Bool) (data : List Byte) : Mach :=
  (flagRuns 0 be).foldl (fun t r => dramWriteBy t m (off + r.1) ((data.drop r.1).take r.2)) s

/-- HOST_BAR4_WRITE: offset, flags and data. -/
def onHostBar4Write (off : BitVec 34) (be : List Bool) (data : List Byte) (s : Mach) : Mach :=
  let off := off.toNat
  if be.isEmpty ∨ 4096 < off % 4096 + be.length ∨ barsOpen s = false then s
  else
    let d := (bar4Deny s off needW be.length).zipWith (fun x b => x && b) be
    let s := match ((keysFrom 0 d.length).filter (fun i => d.getD i false)).head? with
      | some i => (mpuCheck s 0x40 true needW (0x400000000 + off + i) 1).1.inc (BR_PERR_CNT 0x40)
      | none => s
    let ok := allowed be d
    (chansOf off be.length).foldl (fun t c =>
      let be' := (keysFrom 0 be.length).map (fun i => ok.getD i false && decide (c ≤ off + i) && decide (off + i < c + 256))
      if enabled be' = 0 then t
      else if t.dramReach c then dramWriteFlags t 0x40 off be' data else nocAbsorb t (dramRouter c) 0x40 none) s

/-! ### SRAM windows of BAR0 (R216, R359, R361, R495) -/

/-- A BAR0 offset in an SRAM window: cluster SRAM or not, engine or cluster, offset within. -/
def windowOf (off : Nat) : Option (Bool × Nat × Nat) :=
  if 0x2000000 ≤ off ∧ off < 0x2400000 then some (false, (off - 0x2000000) / 0x10000, off % 0x10000)
  else if 0x3000000 ≤ off ∧ off < 0x4000000 then some (true, (off - 0x3000000) / 0x100000, off % 0x100000)
  else none

/-- The logical cluster of a window. -/
def windowCluster (w : Bool × Nat × Nat) : Nat := if w.1 then w.2.1 else w.2.1 / 4

/-- Bytes of a window. -/
def windowRead (s : Mach) (w : Bool × Nat × Nat) (n : Nat) : List Byte :=
  if w.1 then mapRange memReset s.csram (clsKey w.2.1 w.2.2) n else mapRange memReset s.isram (isrKey w.2.1 w.2.2) n

/-- R216: the instruction SRAM of an engine takes writes. -/
def isramOpen (s : Mach) (e : Nat) : Bool := (s.eng e).state == 0 || decide (5 ≤ (s.eng e).state)

/-- R216: a write to an engine's instruction SRAM. -/
def isramWrite (s : Mach) (m e a : Nat) (bs : List Byte) : Mach :=
  if isramOpen s e then { s with isram := mapSetRange memReset s.isram (isrKey e a) bs }
  else (s.raiseEng EN_EVENT_isram_refused e).logE
    { cause := 0x0A00 + Config.openCause 5 % 256, initiator := m, iaddr := 0x2000000 + e * 0x10000 + a, flags := 1, detail := e }

/-- A write to a window. -/
def windowWrite (s : Mach) (m : Nat) (w : Bool × Nat × Nat) (bs : List Byte) : Mach :=
  if w.1 then csramWriteBy s m (clsKey w.2.1 w.2.2) bs
  else isramWrite s m w.2.1 w.2.2 bs

/-- A malformed BAR0 write is dropped and logged (R361); the spec gives no cause number. -/
def badBar0Write (s : Mach) (m off : Nat) : Mach :=
  s.logE { cause := 0x0400 + Config.openCause 4 % 256, initiator := m, iaddr := off, flags := 1 }

/-- Send what a host read of BAR0 has returned, all-ones where it was denied. -/
def bar0Complete (s : Mach) (tag off : Nat) (bs : List Byte) : Mach :=
  sendCompletions (bs.length + 1) s tag off (mpuMask s 0x40 true needR (0x40000000 + off) bs) false

/-- The accesses that waited at a port are performed in arrival order (R495, Table 14-7). -/
def windowRelease (s : Mach) (r : Nat) : Mach :=
  let l := s.noc.waiting.filter (fun g => g.router == r)
  let s := { s with noc := { s.noc with waiting := s.noc.waiting.filter (fun g => g.router != r) } }
  l.foldl (fun t g =>
    match g.post, windowOf g.off with
    | some (id, r, e), _ => engineDeliver t id e r
    | none, some w => if g.write then windowWrite t g.master w (leBytes g.n g.value) else bar0Complete t g.value g.off (windowRead t w g.n)
    | none, none => t) s

/-- A wake request of a cluster (R500, R501); an aborted power-down delivers what waits at once. -/
def wakeRelease (s : Mach) (c : Nat) : Mach :=
  let r := s.clRouter c
  let s := clusterWake s c
  if s.port r = 0 then windowRelease (nocRelease s r) r else s

/-- A host access to a window: its cluster's port answers, absorbs it (R497), or keeps it waiting and asks for a wake
(R495). -/
def windowAccess (s : Mach) (tag off n : Nat) (data : Option (List Byte)) (w : Bool × Nat × Nat) : Mach :=
  let r := s.clRouter (windowCluster w)
  if s.port r = 2 then
    match data with
    | some _ => nocAbsorb s r 0x40 none
    | none => completeCA s tag
  else if s.port r ≠ 0 then
    let item : GateItem := match data with
      | some d => ⟨r, 0x40, off, n, leNat d, true, none⟩
      | none => ⟨r, 0x40, off, n, tag, false, none⟩
    let s := { s with noc := { s.noc with waiting := s.noc.waiting ++ [item] } }
    wakeRelease ((s.satF (NC_PORT_STATUS_waiting r)).setF (NC_PORT_STATUS_wake_req r) 1) (windowCluster w)
  else
    match data with
    | some d => windowWrite s 0x40 w d
    | none => bar0Complete s tag off (windowRead s w n)

/-- SRAM_WINDOW_ACCESS: a host read (no data) or write of n bytes. -/
def onSramWindowAccess (tag : Nat) (off : BitVec 26) (n : Nat) (data : Option (List Byte)) (s : Mach) : Mach :=
  let off := off.toNat
  match windowOf off with
  | none => s
  | some w =>
    let good := decide (off % 4 = 0 ∧ n % 4 = 0 ∧ 0 < n ∧ n ≤ 512 ∧ off % 4096 + n ≤ 4096)
    match data with
    | some d =>
      if !barsOpen s then s
      else if !good || d.length != n then badBar0Write s 0x40 off
      else
        let c := mpuCheck s 0x40 true needW (0x40000000 + off) n
        if c.2.isNone then windowAccess c.1 tag off n data w
        else
          let s := c.1.inc (BR_PERR_CNT 0x40)
          let ok := (keysFrom 0 n).map (fun i => (mpuByte s 0x40 true (0x40000000 + off + i) needW).isNone)
          (flagRuns 0 ok).foldl (fun t x => windowAccess t tag (off + x.1) x.2 (some ((d.drop x.1).take x.2)) (w.1, w.2.1, w.2.2 + x.1)) s
    | none =>
      if !barsOpen s || !good then completeBad s tag statusUR
      else
        let c := mpuCheck s 0x40 true needR (0x40000000 + off) n
        if mpuAllDenied s 0x40 true needR (0x40000000 + off) n then completeBad c.1 tag statusUR
        else windowAccess c.1 tag off n none w

/-- ISRAM_WRITE (R216): bytes of engine e's instruction SRAM through its window. -/
def onIsramWrite (e : Fin 64) (a : BitVec 16) (data : List Byte) (s : Mach) : Mach :=
  onSramWindowAccess 0 (BitVec.ofNat 26 (0x2000000 + e.val * 0x10000 + a.toNat)) data.length (some data) s

/-! ### Answers of stations (R95, R342, R389) -/

/-- A read-response at the bridge while the H-die cannot be reached: the read ends with code 0x15, its data waits for
retraining (Table 11-10). -/
def lateResponse (s : Mach) (b i : Nat) (data : List Byte) : Mach :=
  let s := match s.req b with
    | some q =>
      if s.lateResp.length < 16 then
        { heldNext s 2 with lateResp := s.lateResp ++ [reqOrphan q ((q.orphan).getD (Config.openCause 6 % 256)) data] } else s
    | none => s
  pieceEnd s b i 0x15 [] true

/-- READ_RESPONSE_RECEIVE (R95). -/
def onReadResponseReceive (p : Fin 8) (f : Frame) (s : Mach) : Mach :=
  let q := rxFrame s p.val f
  if q.1 && f.type == 0x5 then
    let s := q.2
    match findPiece s false f.src f.cls (f.aux % 65536) with
    | none => s
    | some (b, i) =>
      let len := ((s.req b).bind (fun q => q.pieces[i]?)).map (fun p => p.len)
      if bitAt f.flags 1 then pieceEnd s b i (f.aux / 2 ^ 24 % 256) [] false
      else if len ≠ some f.len then pieceEnd s b i 0x05 [] false
      else if !s.diesJoined then lateResponse s b i f.payload
      else pieceEnd s b i 0 f.payload false
  else q.2

/-- WRITE_ACK_RECEIVE (R389; R136 and R139 for the station table engine's own writes). -/
def onWriteAckReceive (p : Fin 8) (f : Frame) (s : Mach) : Mach :=
  let q := rxFrame s p.val f
  if q.1 && f.type == 0x7 then
    let s := q.2
    let st := f.aux / 2 ^ 24 % 256
    match findPiece s true f.src f.cls (f.aux % 65536) with
    | some (b, i) => pieceEnd s b i st [] false
    | none =>
      match s.ring.adopts.find? (fun a => a.stn == f.src && a.sent && a.seq == f.aux % 65536 && (a.step == 4) == (f.cls == 3)
          && decide (4 ≤ a.step) && decide (a.step ≤ 7)) with
      | some a => adoptAck s a st
      | none => s
  else q.2

/-- When the first frame of a request left. -/
def firstSent (q : Req) : Option Nat :=
  q.pieces.foldl (fun m p => match m, p.sentAt with
    | some a, some b => some (if b < a then b else a)
    | none, x => x
    | x, none => x) none

/-- R396: the module takes an open host read as abandoned. -/
def abandonRead (s : Mach) (q : Req) : Mach :=
  let s := ((s.logE (reqLog q 0x0506 0 (s.f BR_HRD_TO_limit_us))).inc (BR_CNT 1)).raise BR_EVENT_host_abandon
  brStatus (if q.pieces.isEmpty then s.dropReq q.bseq else s.updReq q.bseq (fun q => { q with orphan := some 1 }))

/-- A host read that is still open at BR_HRD_TO (R396). -/
def overHostLimit (s : Mach) (q : Req) : Bool :=
  q.init == 0x40 && !q.write && q.orphan.isNone && s.f BR_HRD_TO_limit_us != 0 && decide (q.tAcc + s.f BR_HRD_TO_limit_us * 1000 ≤ s.now)

/-- STATION_TIMEOUT: request b (R393); a host read whose BR_HRD_TO ends at the same time is abandoned (Table 11-10). -/
def onStationTimeout (b : Nat) (s : Mach) : Mach :=
  match s.req b with
  | none => s
  | some q =>
    if decide (faSpace q.faddr ≠ 2) && decide (2 ≤ q.cls) && (!q.posted || q.ack) && !q.pieces.isEmpty then
      let s := s.upTo ((firstSent q).getD q.tAcc + tStn s)
      reqFail (if overHostLimit s q then abandonRead s q else s) b 0x10 true
    else s

/-- HOST_READ_ABANDON: the open host read with a tag (R396). -/
def onHostReadAbandon (tag : Nat) (s : Mach) : Mach :=
  let lim := s.f BR_HRD_TO_limit_us
  match s.reqs.find? (fun q => decide (q.kind = .hostRead tag) && q.orphan.isNone) with
  | none => s
  | some q =>
    if lim = 0 then s
    else
      let s := s.upTo (q.tAcc + lim * 1000)
      abandonRead s q

/-! ### The confirmed write port (R405 to R407) and the orphan capture -/

/-- A refused go. -/
def cwpRefuse (s : Mach) (k code : Nat) : Mach :=
  let s := (s.setF (BR_CWP_STATUS_code k) code).setF (BR_CWP_PEEK_code k) code
  (s.logE { cause := 0x050A, initiator := 0x40, iaddr := s.f (BR_CWP_ADDR_offset k), flags := 1, detail := code }).raise BR_EVENT_cwp_refused

/-- CWP_GO: a write of 1 to BR_CWP_CTRL.go of slot k. -/
def onCwpGo (k : Fin 8) (s : Mach) : Mach :=
  let k := k.val
  let off := s.f (BR_CWP_ADDR_offset k)
  let n := 2 ^ s.f (BR_CWP_CTRL_size k)
  let be := List.replicate n true
  let i := off / mib
  let u := 2 ^ s.f (AT_E0_swap i)
  if s.b (BR_CWP_PEEK_busy k) then cwpRefuse s k 0x82
  else if off % n ≠ 0 then cwpRefuse s k 0x81
  else
    let c := attCheck s off be true
    let d := hostDeny s off u needW be
    let s := if c = 0 ∨ c = 6 then reportDeny s off u needW d else s
    if c ≠ 0 then cwpRefuse s k 0x80
    else
      let a0 := off % mib
      let fa := attFa s off
      let ps := hostPieces (decide (faSpace fa = 2)) (fa - fa % mib) u a0 (hostCuts u (accUnit (s.f (AT_E0_acc_w i))) a0 (allowed be d))
                  (leBytes n (s.f (BR_CWP_DATA_data k)))
      let s := ((countHit s off 1).setF (BR_CWP_PEEK_busy k) 1).inc (BR_CNT 4)
      accept s (hostReq s off (.cwp k) true false true [] [] ps)

/-- CWP_STATUS_READ by a master: it completes only while the slot is not busy. -/
def onCwpStatusRead (m : BitVec 7) (k : Fin 8) (s : Mach) : Mach :=
  if s.b (BR_CWP_PEEK_busy k.val) then s
  else s.emit (.regRead m.toNat (BR_CWP_STATUS k.val) (s.n (BR_CWP_STATUS k.val)))

/-- ORPHAN_POP (R400). -/
def onOrphanPop (s : Mach) : Mach := { s with orphans := s.orphans.drop 1 }

/-! ### The PCI Express function (R357, R358) -/

/-- PCIE_D3HOT_ENTER. -/
def onPcieD3hotEnter (s : Mach) : Mach := { s with pcie := { s.pcie with d3hot := true } }
/-- PCIE_D0_RETURN. -/
def onPcieD0Return (s : Mach) : Mach := releaseVectors { s with pcie := { s.pcie with d3hot := false } }
/-- PCIE_BUS_MASTER_DISABLE. -/
def onPcieBusMasterDisable (s : Mach) : Mach :=
  if s.pcie.bme then { s with pcie := { s.pcie with bme := false, bmeAt := s.cycles } } else s
/-- PCIE_BUS_MASTER_ENABLE. -/
def onPcieBusMasterEnable (s : Mach) : Mach := releaseVectors { s with pcie := { s.pcie with bme := true } }

end Sys2Proof.Machine
end

