-- ==== Sys2Proof/Machine/Uhlux.lean ====
section
/-!
DEFINITION. The Uhlux backplane ports (12_uhlux_backplane_port.md): outbound cycles, arbitration, card masters' cycles,
vectored interrupts, absence and rack reset.
-/
namespace Sys2Proof.Machine

/-! ### Outbound cycles (R424 to R430) -/

/-- The port may run cycles. -/
def uxLive (s : Mach) (p : Nat) : Bool := uxEnabled s p && (s.uxp p).sysreset.isNone

/-- The highest enabled level that is asserted and may be sampled now; 0 for none. -/
def irqLevel (s : Mach) (p : Nat) : Nat :=
  (keysFrom 1 7).foldl (fun m l =>
    if bitAt (s.f (UX_STATUS_irq p)) (l - 1) && bitAt (s.f (UX_IRQ_CFG_en p)) (l - 1)
      && decide (mapGet (fun _ => 0) (s.uxp p).blocked l ≤ s.now) then l else m) 0

/-- Start an acknowledge cycle when one is due and the bus is the module's (R444). -/
def iackStart (s : Mach) (p : Nat) : Mach :=
  let x := s.uxp p
  let l := irqLevel s p
  if uxLive s p && decide (l ≠ 0) && x.cur.isNone && x.iack.isNone && !x.bbsy && !x.bgOut then
    (s.setUxp p { x with iack := some (l, s.now) }).emit (.uxIack p l)
  else s

/-- A request leaves a port's queue; the next one is due from now, after an acknowledge that is due (R444). -/
def uxDrop (s : Mach) (p b : Nat) : Mach :=
  let x := s.uxp p
  let own := match x.cur with
    | some c => c.1 == b
    | none => false
  let s := s.setUxp p { x with queue := x.queue.filter (fun c => c != b), cur := (if own then none else x.cur), waitSince := s.now }
  if own then iackStart s p else s

/-- End a request of a port with a code and a port cause. -/
def uxFail (s : Mach) (p b code cause detail : Nat) : Mach :=
  match s.req b with
  | none => uxDrop s p b
  | some q => reqFail (uxLog (uxDrop s p b) q cause detail) b code true

/-- Card address and number of the cycle in progress (Table 12-10). -/
def uxWhere (s : Mach) (c : Nat × Nat × Nat) : Nat :=
  match (s.req c.1).bind (fun q => q.pieces[c.2.1]?) with
  | some z => Config.packDetail [faCard z.fa, c.2.1]
  | none => 0

/-- Slot of a card address (R421). -/
def slotOf (card : Nat) : Nat := card / 0x80000 % 16

/-- A cycle on the bus (R424): a word drives both strobes, a byte that of its half; the even address has D[15:8]. -/
def cycleOut (p : Nat) (write : Bool) (z : Piece) : Out :=
  let odd := z.fa % 2 == 1
  let d := beNat z.data
  .uxCycle p (faCard z.fa) (z.len == 2 || !odd) (z.len == 2 || odd) write (if z.len = 2 ∨ odd = true then d else d * 256)

/-- Start cycle i of request b. -/
def uxCycle (s : Mach) (p b i : Nat) : Mach :=
  let s := s.setUxp p { s.uxp p with cur := some (b, i, s.now) }
  let s := match (s.req b).bind (fun q => (q.pieces[i]?).map (cycleOut p q.write)) with
    | some o => s.emit o
    | none => s
  if i = 0 then markSent s (some (b, 0)) 0xFF 0
  else s.updReq b (fun q => { q with pieces := q.pieces.modify i (fun z => { z with sentAt := some s.now }) })

/-- UHLUX_OUTBOUND_START: the front request of a port starts its cycles (R425), after an acknowledge that is due (R444). -/
def onUhluxOutboundStart (p : Fin 2) (s : Mach) : Mach :=
  let p := p.val
  let s := iackStart s p
  let x := s.uxp p
  if !uxLive s p || x.cur.isSome || x.iack.isSome || x.bbsy || x.bgOut then s
  else
    match x.queue with
    | [] => s
    | b :: _ =>
      match s.req b with
      | none => uxDrop s p b
      | some q => if uxRefused s q.faddr then uxFail s p b 0x12 0x0D05 (faCard q.faddr) else uxCycle s p b 0

/-- Miss count of a slot. -/
def setMiss (s : Mach) (p slot n : Nat) : Mach :=
  let x := s.uxp p
  s.setUxp p { x with misses := mapSet (fun _ => 0) x.misses slot n }

/-- Read it. -/
def missOf (s : Mach) (p slot : Nat) : Nat := mapGet (fun _ => 0) (s.uxp p).misses slot

/-- Increment a saturating port counter (R451). -/
def uxCount (s : Mach) (p k : Nat) : Mach := s.satF (UX_CNT_count p k)

/-- The bytes a read cycle brings: the even address uses D[15:8] (R424). -/
def cycleBytes (z : Piece) (d : BitVec 16) : List Byte :=
  if z.len = 2 then beBytes 2 d.toNat else if z.fa % 2 = 0 then (beBytes 2 d.toNat).take 1 else (beBytes 2 d.toNat).drop 1

/-- A spurious acknowledge (R446). -/
def iackSpurious (s : Mach) (p level : Nat) : Mach :=
  let x := s.uxp p
  let n := mapGet (fun _ => 0) x.spur level + 1
  let s := s.setUxp p { x with iack := none, spur := mapSet (fun _ => 0) x.spur level n,
                               blocked := mapIns x.blocked level (s.now + 1000), waitSince := s.now }
  let s := (s.setF (UX_LAST_IACK_spurious p) 1).setF (UX_LAST_IACK_level p) level
  iackStart (((uxCount s p 7).logC 0x0D07 level).raise (UX_EVENT_spurious p)) p

/-- A vector: its event goes behind the port's accepted inbound writes (R445, R408). -/
def iackVector (s : Mach) (p level vec : Nat) : Mach :=
  let x := s.uxp p
  let s := s.setUxp p { x with iack := none, spur := mapSet (fun _ => 0) x.spur level 0,
                               blocked := mapIns x.blocked level (s.now + 1000), waitSince := s.now }
  let s := ((s.setF (UX_LAST_IACK_spurious p) 0).setF (UX_LAST_IACK_level p) level).setF (UX_LAST_IACK_vector p) vec
  let s := uxCount s p 6
  let base := s.f (UX_IRQ_CFG_ev_base p) / 0x200 * 0x200
  let id := Nat.lor (Nat.lor base (p * 0x100)) vec
  iackStart (postFenced s { ev := { id := id, cond := level, source := 0x405C + p, time := s.now }, src := 0, at_ := s.now, beat := s.beatNum,
                            ux := (s.uxp p).lastIn.map (fun n => (p, n)) }) p

/-- UHLUX_ACK: ACK_N ends the cycle in progress as performed, with the data lines. -/
def onUhluxAck (p : Fin 2) (data : BitVec 16) (s : Mach) : Mach :=
  let p := p.val
  let x := s.uxp p
  match x.iack, x.cur with
  | some (l, _), _ => iackVector s p l (data.toNat % 256)
  | none, some (b, i, _) =>
    match (s.req b).bind (fun q => (q.pieces[i]?).map (fun z => (q, z))) with
    | none => uxDrop s p b
    | some (q, z) =>
      let s := setMiss (uxCount s p 0) p (slotOf (faCard z.fa)) 0
      let more := match q.pieces[i + 1]? with
        | some y => !y.done
        | none => false
      let s := if more then uxCycle s p b (i + 1) else uxDrop s p b
      pieceEnd s b i 0 (if q.write then [] else cycleBytes z data) false
  | none, none => s

/-- UHLUX_BERR: BERR_N or RETRY_N from the card (Table 12-5). -/
def onUhluxBerr (p : Fin 2) (s : Mach) : Mach :=
  let p := p.val
  let x := s.uxp p
  match x.iack, x.cur with
  | some (l, _), _ => iackSpurious s p l
  | none, some (b, i, t) =>
    let w := uxWhere s (b, i, t)
    let s := match (s.req b).bind (fun q => q.pieces[i]?) with
      | some z => setMiss s p (slotOf (faCard z.fa)) 0
      | none => s
    uxFail ((uxCount s p 3).raise (UX_EVENT_berr p)) p b 0x12 0x0D02 w
  | none, none => s

/-- UHLUX_CYCLE_TIMEOUT: no answer within t_to (Table 12-5). -/
def onUhluxCycleTimeout (p : Fin 2) (s : Mach) : Mach :=
  let p := p.val
  let x := s.uxp p
  match x.iack, x.cur with
  | some (l, t), _ => iackSpurious (s.upTo (t + 10000)) p l
  | none, some (b, i, t) =>
    let s := s.upTo (t + 10000)
    let w := uxWhere s (b, i, t)
    let s := match (s.req b).bind (fun q => q.pieces[i]?) with
      | some z => setMiss s p (slotOf (faCard z.fa)) (missOf s p (slotOf (faCard z.fa)) + 1)
      | none => s
    uxFail ((uxCount s p 4).raise (UX_EVENT_timeout p)) p b 0x12 0x0D01 w
  | none, none => s

/-- The waiting requests of a port that may no longer run cycles end with code 0x12 (R423, Table 12-8). -/
def uxSweep (s : Mach) (p : Nat) : Mach :=
  (s.uxp p).queue.foldl (fun t b =>
    match t.req b with
    | none => uxDrop t p b
    | some q =>
      let busy := match (t.uxp p).cur with
        | some c => c.1 == b
        | none => false
      if uxRefused t q.faddr && !busy then uxFail t p b 0x12 0x0D05 (faCard q.faddr) else t) s

/-- UHLUX_SLOT_ABSENT (R447). -/
def onUhluxSlotAbsent (p : Fin 2) (slot : Fin 16) (s : Mach) : Mach :=
  let p := p.val
  let lim := if s.f (UX_CFG_absent_after p) = 0 then 1 else s.f (UX_CFG_absent_after p)
  if lim ≤ missOf s p slot.val then
    let s := (setMiss s p slot.val 0).setF ⟨UX_SLOT p, 16 + slot.val, 1⟩ 1
    uxSweep (s.raise (UX_EVENT_absent p)) p
  else s

/-- UHLUX_READ_TIMEOUT: a read of the port is still open 100 µs after acceptance (R429). -/
def onUhluxReadTimeout (b : Nat) (s : Mach) : Mach :=
  match s.req b with
  | none => s
  | some q =>
    if faSpace q.faddr = 2 ∧ q.write = false then
      let s := s.upTo (q.tAcc + 100000)
      reqFail (uxDrop s (faPort q.faddr) b) b 0x13 true
    else s

/-- UHLUX_BUS_HOG_TIMEOUT (R434). -/
def onUhluxBusHogTimeout (p : Fin 2) (s : Mach) : Mach :=
  let p := p.val
  let x := s.uxp p
  match x.queue, x.cur, x.bbsy || x.bgOut with
  | b :: _, none, true =>
    let s := s.upTo (x.waitSince + 10000)
    uxFail (s.raise (UX_EVENT_bus_hog p)) p b 0x12 0x0D03 0
  | _, _, _ => s

/-! ### Arbitration (R432 to R436) -/

/-- The module has work due on a port: a request, or an acknowledge that is under way or may start (R434). -/
def uxDue (s : Mach) (p : Nat) : Bool :=
  !(s.uxp p).queue.isEmpty || (s.uxp p).cur.isSome || (s.uxp p).iack.isSome || (uxLive s p && decide (irqLevel s p ≠ 0))

/-- A card that asks for the bus gets the grant once the module owns no cycle and has none due (R432). -/
def busGrant (s : Mach) (p : Nat) : Mach :=
  let x := s.uxp p
  if x.br && uxLive s p && s.b (UX_CFG_arb_en p) && !uxDue s p && !x.bbsy && !x.bgOut then s.setUxp p { x with bgOut := true } else s

/-- UHLUX_BUS_REQUEST (R432): BR_N is asserted. -/
def onUhluxBusRequest (p : Fin 2) (s : Mach) : Mach := busGrant (s.setUxp p.val { s.uxp p.val with br := true }) p.val

/-- UHLUX_BBSY: a card takes BBSY_N low, or releases it (R432, R433). -/
def onUhluxBbsy (p : Fin 2) (low : Bool) (s : Mach) : Mach :=
  let p := p.val
  if low then s.setUxp p { s.uxp p with bgOut := false, bbsy := true, br := false }
  else iackStart (s.setUxp p { s.uxp p with bbsy := false }) p

/-- BCLR_N is asserted: a card owns the bus while work is due (R434). -/
def uxBclr (s : Mach) (p : Nat) : Bool := (s.uxp p).bbsy && uxDue s p

/-! ### Card masters (R437 to R441) -/

/-- What the module answers on a card's cycle: 0 ACK_N with data, 1 BERR_N, 2 RETRY_N. -/
def cardAnswer (s : Mach) (p code data : Nat) : Mach := s.emit (.card p code data)

/-- RETRY_N. -/
def cardRetry (s : Mach) (p : Nat) : Mach := cardAnswer (uxCount s p 2) p 2 0

/-- A refused inbound cycle (Table 12-6). -/
def cardRefuse (s : Mach) (p cause detail : Nat) (ev : RF) : Mach :=
  cardAnswer ((uxCount (s.logE { cause := cause, initiator := 0x5C + p, detail := detail }) p 5).raise ev) p 1 0

/-- The valid window that holds a card address. -/
def windowAt (s : Mach) (p a : Nat) : Option Nat :=
  (keysFrom 0 4).find? (fun w => s.b (UX_IWIN_valid p w) && decide (s.f (UX_IWIN_base p w) ≤ a / 0x10000)
    && decide (a / 0x10000 ≤ s.f (UX_IWIN_base p w) + s.f (UX_IWIN_size_m1 p w)))

/-- DRAM offset of a card byte in a window (R437). -/
def windowDram (s : Mach) (p w a : Nat) : Nat :=
  let u := 2 ^ s.f (UX_IWIN_swap p w)
  let o := a - s.f (UX_IWIN_base p w) * 0x10000
  s.f (UX_IWIN_dram_off p w) * 0x10000 + (o - o % u + (u - 1 - o % u))

/-- DRAM offsets of a cycle's bytes, in card address order. -/
def cycleDram (s : Mach) (p w a n : Nat) : List Nat := (keysFrom a n).map (windowDram s p w)

/-- UX_STATUS.inq is kept current. -/
def uxInq (s : Mach) (p : Nat) : Mach := s.setF (UX_STATUS_inq p) (s.uxp p).inq.length

/-- UHLUX_INBOUND_CYCLE: a card master's cycle at card address a, of a word or one byte, LOCK_N low or not, with the data lines
of a write. -/
def onUhluxInboundCycle (p : Fin 2) (a : BitVec 24) (word lock : Bool) (data : Option (BitVec 16)) (s : Mach) : Mach :=
  let p := p.val
  let a := if word then a.toNat / 2 * 2 else a.toNat
  let n := if word then 2 else 1
  if !uxEnabled s p || decide (a < 0x800000) then s
  else if lock then cardRefuse s p 0x0D06 a (UX_EVENT_lock_rejected p)
  else if uxBclr s p then cardRetry s p
  else
    let no (k : Nat) : Mach := cardRefuse s p 0x0D04 (Config.packDetail [a, k]) (UX_EVENT_inbound_denied p)
    match (if s.b (UX_CFG_inbound_en p) then windowAt s p a else none) with
    | none => no 2
    | some w =>
      if (if data.isSome then !s.b (UX_IWIN_w p w) else !s.b (UX_IWIN_r p w)) then no 3
      else
        let l := cycleDram s p w a n
        let lo := l.foldl (fun m x => if x < m then x else m) (l.headD 0)
        let need := if data.isSome then needW else needR
        let c := mpuCheck s (0x5C + p) true need (0x400000000 + lo) n
        if c.2.isSome then
          cardRefuse c.1 p 0x0D04 (Config.packDetail [a, 4]) (UX_EVENT_inbound_denied p)
        else
          let x := s.uxp p
          match data with
          | some d =>
            if 64 ≤ x.inq.length then cardRetry s p
            else
              let bs := if word then beBytes 2 d.toNat else if a % 2 = 0 then (beBytes 2 d.toNat).take 1 else (beBytes 2 d.toNat).drop 1
              let put := if l.headD 0 = lo then bs else bs.reverse
              let b := s.n BR_SEQ
              let s := s.inc BR_SEQ
              let s := s.setUxp p { x with inq := x.inq ++ [(b, lo, put)], lastIn := some b }
              cardAnswer (uxInq (uxCount s p 1) p) p 0 0
          | none =>
            if x.inq.isEmpty && s.dramReach lo && !s.dramPoison lo n then
              let bs := l.map (fun o => mapGet memReset s.dram o)
              let d := if word then beNat bs else if a % 2 = 0 then beNat bs * 256 else beNat bs
              cardAnswer (uxCount s p 1) p 0 d
            else cardRetry (if x.inq.isEmpty && s.dramReach lo then logPoison s (0x5C + p) lo else s) p

/-- UHLUX_INBOUND_WRITE_PERFORM (R440). -/
def onUhluxInboundWritePerform (p : Fin 2) (s : Mach) : Mach :=
  let p := p.val
  let x := s.uxp p
  match x.inq with
  | [] => s
  | (b, o, bs) :: t =>
    let s := uxInq (s.setUxp p { x with inq := t }) p
    if s.dramReach o then dramWriteBy s (0x5C + p) o bs else nocAbsorb s (dramRouter o) (0x5C + p) (some b)

/-- UHLUX_SLAVE_ACK_TIMEOUT: an inbound cycle that cannot be answered within t_sack (R435). -/
def onUhluxSlaveAckTimeout (p : Fin 2) (s : Mach) : Mach := if uxEnabled s p.val then cardRetry s p.val else s

/-- UHLUX_BUS_TIMER: a cycle between cards at address a (R436). -/
def onUhluxBusTimer (p : Fin 2) (a : BitVec 24) (s : Mach) : Mach :=
  let p := p.val
  if uxEnabled s p then
    cardAnswer (((uxCount s p 4).raise (UX_EVENT_timeout p)).logC 0x0D08 a.toNat) p 1 0
  else s

/-! ### Vectored interrupts (R442 to R446) -/

/-- UHLUX_IRQ: the levels asserted now, level k in bit k - 1. -/
def onUhluxIrq (p : Fin 2) (levels : BitVec 7) (s : Mach) : Mach := iackStart (s.setF (UX_STATUS_irq p.val) levels.toNat) p.val

/-- UHLUX_IRQ_RESAMPLE: a level is sampled again, 1 µs after its acknowledge (R444). -/
def onUhluxIrqResample (p : Fin 2) (level : Fin 8) (s : Mach) : Mach :=
  let p := p.val
  let t := mapGet (fun _ => 0) (s.uxp p).blocked level.val
  if t = 0 then s
  else
    let s := s.upTo t
    iackStart (s.setUxp p { s.uxp p with blocked := mapSet (fun _ => 0) (s.uxp p).blocked level.val 0 }) p

/-- UHLUX_IRQ_AUTO_DISABLE: the third consecutive spurious acknowledge of a level (R446). -/
def onUhluxIrqAutoDisable (p : Fin 2) (level : Fin 8) (s : Mach) : Mach :=
  let p := p.val
  let x := s.uxp p
  if level.val ≠ 0 ∧ 3 ≤ mapGet (fun _ => 0) x.spur level.val then
    let s := s.setUxp p { x with spur := mapSet (fun _ => 0) x.spur level.val 0 }
    (s.setF ⟨UX_IRQ_CFG p, level.val, 1⟩ 0).raise (UX_EVENT_irq_disabled p)
  else s

/-! ### Rack reset, readmission, a port that goes off -/

/-- Every request of a port ends with code 0x12; the grant and an acknowledge cycle are released (R448, R449). -/
def uxStop (s : Mach) (p cause : Nat) : Mach :=
  let l := (s.uxp p).queue
  let s := l.foldl (fun t b =>
    match t.req b with
    | some q => uxFail t p b 0x12 cause (faCard q.faddr)
    | none => uxDrop t p b) s
  s.setUxp p { s.uxp p with cur := none, iack := none, bgOut := false }

/-- Start a rack reset. -/
def sysresetStart (s : Mach) (p : Nat) : Mach :=
  uxStop (s.setUxp p { s.uxp p with sysreset := some (s.now + 1000000) }) p (0x0D00 + Config.openCause 7 % 256)

/-- UHLUX_SYSRESET: a write of 1 to UX_CTRL.sysreset (R448). -/
def onUhluxSysreset (p : Fin 2) (s : Mach) : Mach := sysresetStart s p.val

/-- UHLUX_SYSRESET_END. -/
def onUhluxSysresetEnd (p : Fin 2) (s : Mach) : Mach :=
  match (s.uxp p.val).sysreset with
  | some t =>
    let s := s.upTo t
    iackStart (s.setUxp p.val { s.uxp p.val with sysreset := none, waitSince := s.now }) p.val
  | none => s

/-- UX_SLOT_READMIT: absent bits written 1 (R447). -/
def onUxSlotReadmit (p : Fin 2) (mask : BitVec 16) (s : Mach) : Mach :=
  let p := p.val
  let v := BitVec.ofNat 16 (s.f (UX_SLOT_absent p)) &&& ~~~mask
  let s := s.setF (UX_SLOT_absent p) v.toNat
  let x := s.uxp p
  s.setUxp p { x with misses := x.misses.filter (fun m => !bitAt mask.toNat m.1) }

end Sys2Proof.Machine
end

