-- ==== Sys2Proof/Machine/Img.lean ====
section
/-!
DEFINITION. The image unit (16_process_image_and_journal.md, R530 to R539), the status mirrors (R411 to R413), the
one-way break check (R149), and the no-journal mode (R552, R553).
-/
namespace Sys2Proof.Machine

/-! ### Input banks (R532, R533) -/

/-- Stations with image service in the no-journal mode: the 1,024 lowest-numbered running ones whose image fits 240 KiB. -/
def servedList (s : Mach) : List Nat :=
  (s.stations.filter (fun k => s.f (ST_W1_state k) == 3 && decide (s.f (ST_W6_in_off k) * 64 + s.f (ST_W5_in_size k) ≤ smallBank)
    && decide (s.f (ST_W6_out_off k) * 64 + s.f (ST_W5_out_size k) ≤ smallBank))).take 1024

/-- A station has image service. -/
def imgServed (s : Mach) (k : Nat) : Bool := !s.noJournal || (servedList s).contains k

/-- The input window of the present beat is open (R532). -/
def inputOpen (s : Mach) : Bool := s.b BT_STATUS_beat_run && !s.beat.starting && !s.beat.done.contains 1

/-- R532: an image-in frame that the unit writes. -/
def imageInOk (s : Mach) (f : Frame) : Bool :=
  inputOpen s && f.aux == s.beatNum && s.stValid f.src && (s.f (ST_W1_state f.src) == 3 || s.f (ST_W1_state f.src) == 4)
    && decide (f.word % 2 ^ 31 + f.len ≤ s.f (ST_W5_in_size f.src)) && imgServed s f.src

/-- The byte ranges of a station received in this beat. -/
def coverOf (s : Mach) (k : Nat) : List (Nat × Nat) := mapGet (fun _ => ([] : List (Nat × Nat))) s.img.cover k

/-- Write an image-in frame. -/
def imageInWrite (s : Mach) (f : Frame) : Mach :=
  let o := f.word % 2 ^ 31
  let a := stIn s f.src s.beatNum + o
  if imgReach s a then
    let s := (imgWrite s a f.payload).inc (JN_CNT 2)
    let l := (o, o + f.len) :: coverOf s f.src
    { s with img := { s.img with cover := mapSet (fun _ => ([] : List (Nat × Nat))) s.img.cover f.src l } }
  else s

/-- IMAGE_IN_RECEIVE (R532); with out_ok 1 it is a vote for the next beat (R171). At a standby it passes, and a copy counts (R185). -/
def onImageInReceive (p : Fin 8) (f : Frame) (s : Mach) : Mach :=
  let copy := s.standby && linkTakes s p.val f && f.type == 0x2
  let q := rxFrame s p.val f
  if q.1 && f.type == 0x2 then
    let s := if bitAt f.flags 0 then takeVote q.2 f.src ((f.aux + 1) % 2 ^ 32) true else q.2
    if imageInOk s f then imageInWrite s f else s.inc (JN_CNT 3)
  else if copy then transitCopy q.2 p.val f
  else q.2

/-- Ranges cover all of n bytes from o on; the count is fuel. -/
def covers : Nat → List (Nat × Nat) → Nat → Nat → Bool
  | 0, _, o, n => decide (n ≤ o)
  | k + 1, l, o, n =>
    if n ≤ o then true
    else
      match l.find? (fun r => decide (r.1 ≤ o) && decide (o < r.2)) with
      | some r => covers k l r.2 n
      | none => false

/-- A station is stale (R533). -/
def isStale (s : Mach) (k : Nat) : Bool :=
  let l := coverOf s k
  !covers (l.length + 1) l 0 (s.f (ST_W5_in_size k))

/-- Running and held stations. -/
def liveStations (s : Mach) : List Nat := s.stations.filter (fun k => s.f (ST_W1_state k) == 3 || s.f (ST_W1_state k) == 4)

/-- Copy image bytes; a poisoned word stays poisoned (R554). -/
def imgCopy (s : Mach) (src dst n : Nat) : Mach :=
  let bad := s.dramBad.filter (fun w => decide (src < w * 8 + 8) && decide (w * 8 < src + n))
  let c := unitCheck s 0x51 needR (imgAddr s src) n
  if !c.2 then c.1 else
  let s := imgWrite c.1 dst (imgBytes s src n)
  if s.noJournal ∨ bad = [] then s
  else { logPoison s 0x51 (bad.headD 0 * 8) with dramBad := s.dramBad ++ bad.map (fun w => w + dst / 8 - src / 8) }

/-- The stale stations a bank's bitmap names. -/
def markedIn (s : Mach) (k : Nat) : List Nat := (s.stations.filter (recBit s k))

/-- A copy of n bytes that began at a phase of the present beat is over: 32 B are copied in 1 ns (R533). -/
def copyTime (s : Mach) (ph n : Nat) (now : Bool) : Mach :=
  if now then s.upTo (s.beat.strike + phaseOff s ph + (n + 31) / 32) else s

/-- The copies of R533 for beat b are performed; filled is set. -/
def staleCopies (s : Mach) (b : Nat) : Mach :=
  let k := inBank b
  let l := (markedIn s k).filter (fun j => !s.img.changed.contains j && imgServed s j)
  let s := copyTime s 1 (l.foldl (fun n j => n + s.f (ST_W5_in_size j)) 0) (b == s.beatNum)
  let s := l.foldl (fun t j => imgCopy t (stIn t j (b + 1)) (stIn t j b) (t.f (ST_W5_in_size j))) s
  let s := setRecFlags s k (Nat.lor (recFlags s k) 2)
  { s with img := { s.img with inCopy := none } }

/-- The carries of R536 into the output bank of beat b are performed; carried is set. -/
def outCarries (s : Mach) (b : Nat) : Mach :=
  let l := s.stations.filter (fun j => !s.img.changed.contains j && imgServed s j)
  let s := copyTime s 3 (l.foldl (fun n j => n + s.f (ST_W5_out_size j)) 0) ((s.beatNum + 2) % 2 ^ 32 == b)
  let s := l.foldl (fun t j => imgCopy t (stOut t j (b + 1)) (stOut t j b) (t.f (ST_W5_out_size j))) s
  let s := setRecFlags s (outBank b) 2
  { s with img := { s.img with outCopy := none } }

/-- IMAGE_COPY_COMPLETE: the stale-station copy, or the output carry, is finished. -/
def onImageCopyComplete (out : Bool) (s : Mach) : Mach :=
  if out then
    match s.img.outCopy with
    | some b => if imgReach s (bankRec s (outBank b)) then outCarries s b else s
    | none => s
  else
    match s.img.inCopy with
    | some b => if imgReach s (bankRec s (inBank b)) then staleCopies s b else s
    | none => s

/-- R533 at input-complete of beat n. -/
def closeBank (s : Mach) : Mach :=
  let n := s.beatNum
  let k := inBank n
  if imgReach s (bankRec s k) then
    let l := (liveStations s).filter (fun j => isStale s j && imgServed s j)
    let s := setRecBits s k l
    let s := (setRecFlags s k 1).add (JN_CNT 4) l.length
    let s := { s with img := { s.img with inCopy := some n, cover := [] } }
    if l.isEmpty then staleCopies s n else s
  else { s with img := { s.img with cover := [] } }

/-! ### The one-way check and the healing wait (R149, R154, Table 04-10) -/

/-- What arrived from one running station in the beat: clockwise, counter-clockwise, all pairs in both directions. -/
def seenDirs (s : Mach) (n k : Nat) : Bool × Bool × Bool :=
  let l := s.ring.pairs.filter (fun x => x.ring == n && x.src == k)
  (l.any (fun x => x.cw), l.any (fun x => x.ccw),
   l.all (fun x => x.cw && x.ccw) && (!l.isEmpty || s.f (ST_W5_in_size k) == 0 || s.b (RG_RING_CFG_single_dir n)))

/-- The running stations of a ring, tier-2 ones included, with the position of each on the direct ring. -/
def runningCarried (s : Mach) (n : Nat) : List (Nat × Nat) :=
  ((carried s n).filter (fun k => s.f (ST_W1_state k) == 3)).map (fun k => (k, s.f (ST_W0_position (s.stDirect k))))

/-- The failed segments that the beat's copies show on a ring (R149). -/
def oneWay (s : Mach) (n : Nat) : List Nat :=
  let l := runningCarried s n
  let cw := l.filter (fun x => (seenDirs s n x.1).1)
  let cc := l.filter (fun x => (seenDirs s n x.1).2.1)
  let lostCw := l.filter (fun x => !(seenDirs s n x.1).1 && (seenDirs s n x.1).2.1)
  let lostCc := l.filter (fun x => (seenDirs s n x.1).1 && !(seenDirs s n x.1).2.1)
  let low := cw.foldl (fun m x => if m = 0 ∨ x.2 < m then x.2 else m) 0
  let high := cc.foldl (fun m x => if m < x.2 then x.2 else m) 0
  (if lostCw.isEmpty then [] else if cw.isEmpty then [ringN s n + 1] else if lostCw.any (fun x => decide (x.2 < low)) then [low] else []) ++
  (if lostCc.isEmpty then [] else if cc.isEmpty then [1] else if lostCc.any (fun x => decide (high < x.2)) then [high + 1] else [])

/-- 1,024-byte parts of a station's image-in of which nothing whole arrived. -/
def lostParts (s : Mach) (k : Nat) : Nat :=
  let z := s.f (ST_W5_in_size k)
  let l := coverOf s k
  ((keysFrom 0 ((z + 1023) / 1024)).filter (fun i =>
    !covers (l.length + 1) l (i * 1024) (if z < (i + 1) * 1024 then z else (i + 1) * 1024))).length

/-- The pairs of the beat on one ring: counters, failed segments, and the healing count. Votes stay paired in single-direction mode, and
show a one-way failure there too (R149, R156). Once every pair arrives in both directions again, the segments that this check alone had
marked are up (R154; DEDUCED, log 78). -/
def judgePairs (s : Mach) (n : Nat) : Mach :=
  let l := s.ring.pairs.filter (fun x => x.ring == n && x.cls == 1)
  let s := s.add (RG_RING_CNT n 9) (l.filter (fun x => x.cw && x.ccw)).length
  let s := s.add (RG_RING_CNT n 10) (l.filter (fun x => x.cw && !x.ccw)).length
  let s := s.add (RG_RING_CNT n 11) (l.filter (fun x => !x.cw && x.ccw)).length
  let run := runningCarried s n
  let s := s.add (RG_RING_CNT n 12) (run.foldl (fun a x => a + lostParts s x.1) 0)
  let both := run.all (fun x => (seenDirs s n x.1).2.2)
  let s := if both && !(s.rst n).oneWay.isEmpty then segUp s n (s.rst n).oneWay else s
  let s := (oneWay s n).foldl (fun t j => segFail t n j true) s
  if s.b (RG_RING_STATUS_heal_wait n) then s.setRst n { s.rst n with heal := if both && (failedNow s n).isEmpty then (s.rst n).heal + 1 else 0 }
  else s

/-! ### Status mirrors (R411 to R413) -/

/-- The valid mirrors of a direction that are due in this beat. -/
def mirrorsDue (s : Mach) (dir : Nat) : List Nat :=
  (listed s (BR_MCFG 0) 0x80 256).filter (fun m => s.b (BR_MCFG_valid m) && s.f (BR_MCFG_dir m) == dir
    && s.beatNum % (s.f (BR_MCFG_period_m1 m) + 1) == 0)

/-- A mirror's access is outstanding. -/
def mirrorBusy (s : Mach) (m : Nat) : Bool := s.reqs.any (fun q => decide (q.kind = .mirror m))

/-- A mirror skips a period. -/
def mirrorSkip (s : Mach) (m : Nat) : Mach := (s.incF (BR_MSTAT_skipped m)).inc (BR_CNT 7)

/-- The request of a mirror. -/
def mirrorReq (s : Mach) (m : Nat) (write : Bool) (data : List Byte) : Req :=
  let fa := s.f (BR_MFAB_faddr m)
  { bseq := 0, init := 0xFF, kind := .mirror m, write := write, posted := false, ack := write, cls := 2, faddr := fa,
    iaddr := 0x400000000 + s.f (BR_MDST_rec m) * 64, swap := s.f (BR_MCFG_swap m), tAcc := 0,
    beat := s.n BT_BEAT_NUM, pieces := cut1024 3 fa data (s.f (BR_MCFG_len_w m) * 4) }

/-- R411 for one mirror. -/
def mirrorIn (s : Mach) (m : Nat) : Mach := if mirrorBusy s m then mirrorSkip s m else accept s (mirrorReq s m false [])

/-- R412 for one mirror. -/
def mirrorOut (s : Mach) (m : Nat) : Mach :=
  let base := s.f (BR_MDST_rec m) * 64
  let gen := s.dramNat (base + 1) 3
  if mirrorBusy s m ∨ gen % 2 = 1 ∨ gen = s.f (BR_MSTAT_sent_gen m) ∨ s.dramReach base = false then mirrorSkip s m
  else
    let n := s.f (BR_MCFG_len_w m) * 4
    let u := 2 ^ s.f (BR_MCFG_swap m)
    let d := s.dramRead (base + 8) n
    let data := (keysFrom 0 n).map (fun i => d.getD (i - i % u + (u - 1 - i % u)) 0)
    accept (s.setF (BR_MSTAT_sent_gen m) gen) (mirrorReq s m true data)

/-! ### The phases -/

/-- A phase of the present beat may take place now: beats run, a strike has fallen, and it has not been. -/
def phaseDue (s : Mach) (ph : Nat) : Bool := s.b BT_STATUS_beat_run && !s.beat.starting && !s.beat.done.contains ph

/-- A phase takes place. -/
def phaseAt (s : Mach) (ph : Nat) : Mach :=
  let s := s.upTo (s.beat.strike + phaseOff s ph)
  { s with beat := { s.beat with done := s.beat.done ++ [ph] } }

/-- PHASE_INPUT_COMPLETE (R533, R149, R411). A carry that is not complete by now is late (Table 16-7). -/
def onPhaseInputComplete (s : Mach) : Mach :=
  if phaseDue s 1 then
    let s := phaseAt s 1
    if transitHop s then s
    else
      let s := match s.img.outCopy with
        | some b => if b = (s.beatNum + 1) % 2 ^ 32 then (s.raise JN_EVENT_carry_late).logC 0x0E04 b else s
        | none => s
      let s := (keysFrom 0 4).foldl judgePairs s
      let s := { s with ring := { s.ring with pairs := [] } }
      let s := closeBank s
      (mirrorsDue s 0).foldl mirrorIn s
  else s

/-- One image-out frame (R535); `over` marks one beyond its direction's budget (R157). -/
def imageOutFrame (s : Mach) (k o n : Nat) (last excess : Bool) (data : List Byte) : TxFrame :=
  { f := { type := 0x3, cls := 1, flags := b2n last, dest := k, launch := s.time32, word := 2 ^ 31 + o, len := n,
           aux := (s.beatNum + 1) % 2 ^ 32, payload := data }, excess := excess, internal := true }

/-- Bytes already claimed on each direction of a ring in single-direction mode: the image-in load that way (R158). -/
def dirBase (s : Mach) (n : Nat) : Nat × Nat := (ringLoads s n).1

/-- Send the frames of one station; the loads of the directions go on. -/
def imageOutFrames (k z : Nat) (data : List Byte) : Nat → Nat → Mach × List (Nat × Nat) → Mach × List (Nat × Nat)
  | 0, _, a => a
  | c + 1, o, a =>
    if z ≤ o then a
    else
      let s := a.1
      let n := if z - o < 1024 then z - o else 1024
      let r := s.stRing k
      let d := (routeOf s k).getD 0
      let key := 2 * r + d
      let used := mapGet (fun _ => if d = 0 then (dirBase s r).1 else (dirBase s r).2) a.2 key + n + 56
      let excess := s.b (RG_RING_CFG_single_dir r) && decide (5 * period s < 2 * used)
      let t := imageOutFrame s k o n (decide (z ≤ o + n)) excess ((data.drop o).take n)
      imageOutFrames k z data c (o + n) ((sendCyclic s r t).inc (JN_CNT 5), mapIns a.2 key used)

/-- A station's image-out cannot be sent now. -/
def outBlocked (s : Mach) (k : Nat) : Bool :=
  let a := stOut s k (s.beatNum + 1)
  let n := s.f (ST_W5_out_size k)
  !imgReach s a || imgPoison s a n || !ringAlive s (s.stRing k) || !imgServed s k || s.img.noOut == some s.beatNum
    || (s.b (RG_RING_CFG_single_dir (s.stRing k)) && (routeOf s k).isNone) || !s.diesJoined

/-- R535: image-out of one station; the stations not sent are collected. -/
def imageOutStation (a : Mach × List (Nat × Nat) × List Nat) (k : Nat) : Mach × List (Nat × Nat) × List Nat :=
  let s := a.1
  let n := s.f (ST_W5_out_size k)
  let at_ := stOut s k (s.beatNum + 1)
  if outBlocked s k then
    (if imgReach s at_ && imgPoison s at_ n then logPoison s 0x51 at_ else s, a.2.1, a.2.2 ++ [k])
  else
    let c := unitCheck s 0x51 needR (imgAddr s at_) n
    if c.2 then
      let r := imageOutFrames k n (imgBytes s at_ n) 65 0 (c.1, a.2.1)
      (r.1, r.2, a.2.2)
    else (c.1, a.2.1, a.2.2 ++ [k])

/-- At the output deadline (R535, R536, R412). -/
def outputDeadline (s : Mach) : Mach :=
  if phaseDue s 3 then
    let s := phaseAt s 3
    if transitHop s then s
    else
      let l := s.stations.filter (fun k => s.f (ST_W1_state k) == 3 && decide (0 < s.f (ST_W5_out_size k)))
      let r := l.foldl imageOutStation (s, [], [])
      let s := r.1
      let k := outBank (s.beatNum + 1)
      let b := (s.beatNum + 2) % 2 ^ 32
      let s := if imgReach s (bankRec s k) then
          let s := setRecBits s k r.2.2
          let s := setRecFlags s k (Nat.lor (recFlags s k) 1)
          let s := setRecStrike (setRec s (outBank b) b 0) (outBank b) (s.beat.strike + 2 * period s)
          { s with img := { s.img with outCopy := some b } }
        else s
      (mirrorsDue s 1).foldl mirrorOut s
  else s

/-- R532 and R536 at the strike of beat n: the input bank's record is begun, and the strike time of the output bank rewritten. -/
def imageStrike (s : Mach) : Mach :=
  if transitHop s then s else
  let n := s.beatNum
  let s := { s with img := { s.img with cover := [] } }
  let k := inBank n
  if imgReach s (bankRec s k) then
    let s := setRecStrike (setRec s k n 0) k s.beat.strike
    let o := outBank (n + 1)
    if recBeat s o = (n + 1) % 2 ^ 32 then setRecStrike s o (nextStrike s) else s
  else s

/-! ### The no-journal mode (R552, R553) -/

/-- Why the mode is due: 1 degrade, 2 DRAM training failed, 3 DRAM clamped; 0 for none. -/
def degradeReason (s : Mach) : Nat :=
  if s.b JN_CTRL_degrade then 1 else if s.b GL_BOOT_STATUS_dram_fail then 2 else if s.b CT_CLAMP_dram then 3 else 0

/-- Copy the records and the served stations' bytes between DRAM and the cluster SRAM: `f` reads and `g` writes one run. -/
def bankMove (s : Mach) (l : List Nat) (f : Mach → Nat → Nat → List Byte) (g : Mach → Nat → List Byte → Mach) : Mach :=
  let s := (keysFrom 0 4).foldl (fun t k => g t (bankRec t k) (f t (bankRec t k) 0x1000)) s
  l.foldl (fun t j =>
    let run (u : Mach) (a n : Nat) : Mach := g u a (f u a n)
    let t := run (run t (stIn t j 0) (t.f (ST_W5_in_size j))) (stIn t j 1) (t.f (ST_W5_in_size j))
    run (run t (stOut t j 0) (t.f (ST_W5_out_size j))) (stOut t j 1) (t.f (ST_W5_out_size j))) s

/-- Stop the engines of a logical cluster. -/
def stopCluster (s : Mach) (c : Nat) : Mach :=
  (clusterEngines c).foldl stopEngine s

/-- NO_JOURNAL_ENTER. -/
def noJournalEnter (s : Mach) (why : Nat) : Mach :=
  let on (t : Mach) : Mach := (t.setF JN_STATUS_nojrn 1).setF JN_STATUS_reason why
  let l := servedList s
  let s := stopCluster s (s.f JN_DEGRADED_cluster)
  let s := if s.dramOk then
      on (bankMove s l (fun t a n => t.dramRead a n)
        (fun t a bs => csramWriteBy t 0x51 (smallKey t a) bs))
    else { on s with img := { s.img with noOut := some s.beatNum } }
  (s.raise JN_EVENT_nojrn).logC 0x0E07 why

/-- Leaving the mode: the banks are copied back, and the journal resumes with a gap entry of subtype 2. -/
def noJournalLeave (s : Mach) : Mach :=
  let l := servedList s
  let s := bankMove s l (fun t a n => mapRange memReset t.csram (smallKey t a) n) (fun t a bs => t.dramWrite a bs)
  let n := s.jDropNojrn
  let s := { (s.setF JN_STATUS_nojrn 0).setF JN_STATUS_reason 0 with jDropNojrn := 0 }
  s.jpush s.now 0x3E (gapRest 2 n)

/-- R552, R553 at a beat edge. -/
def noJournalEdge (s : Mach) : Mach :=
  if s.noJournal then (if !s.b JN_CTRL_degrade && s.dramOk then noJournalLeave s else s)
  else
    let why := degradeReason s
    if why = 0 then s else noJournalEnter s why

/-! ### Transit frames -/

/-- A ring frame at a standby or fenced module (R114 to R116, R573); a downbeat that passes ends a run
of missing ones (R579). -/
def transitForward (p : Fin 8) (f : Frame) (s : Mach) : Mach :=
  if transitHop s && f.type != 0xF then
    let p := p.val
    let fresh := linkTakes s p f
    let s := (rxFrame s p f).2
    let s := if fresh && f.type == 0x1 && !f.isCal && f.src == 0 then { s with twin := { s.twin with missed := 0 } } else s
    if fresh && s.standby && (f.type == 0x9 || f.type == 0x2) then transitCopy s p f else s
  else s

end Sys2Proof.Machine
end

