-- ==== Sys2Proof/Machine/Journal.lean ====
section
/-!
DEFINITION. The journal's writer and reader ports (R546 to R551), the image movers (R542 to R545) and the scrubber (R555).
-/
namespace Sys2Proof.Machine

/-! ### The journal -/

/-- Journal slots: the journal's size divided by 32 (R546). -/
def jSlots (s : Mach) : Nat := s.f JN_JRN_REGION_size_mib * 32768

/-- DRAM offset of the slot of a sequence number. -/
def jSlot (s : Mach) (seq : Nat) : Nat := s.f JN_JRN_REGION_base_mib * mib + seq % jSlots s * 32

/-- The 32 bytes of an entry (R546). -/
def jBytes (e : JEntry) : List Byte := leBytes 8 e.seq ++ leBytes 8 e.time ++ leBytes 1 e.kind ++ (e.rest ++ leBytes 15 0).take 15

/-- R548: the oldest entry that can be read whole. -/
def jLow (s : Mach) : Nat := s.n JN_DONE + 1 - jSlots s

/-- R549: entries dropped at a full queue are accounted for by one gap entry once the queue has room. -/
def jGapFull (s : Mach) : Mach :=
  if 0 < s.jDropFull ∧ s.b JN_CTRL_jrn_en ∧ s.jq.length < 4096 then
    let n := s.jDropFull
    ({ s with jDropFull := 0 }.logC 0x0E06 n).jpush s.now 0x3E (gapRest 1 n)
  else s

/-- The three writes of an entry (R547): seq all-ones and the time; the second half; the real seq. -/
def jStore (s : Mach) (a : Nat) (b : List Byte) : Mach :=
  let s := dramWriteBy s 0x51 a (leBytes 8 (2 ^ 64 - 1) ++ (b.drop 8).take 8)
  dramWriteBy (dramWriteBy s 0x51 (a + 16) (b.drop 16)) 0x51 a (b.take 8)

/-- JOURNAL_ENTRY_WRITE (R547, R548). In the no-journal mode no entry is written (R552), and while DRAM cannot be reached the
queue waits. -/
def onJournalEntryWrite (s : Mach) : Mach :=
  match s.jq with
  | [] => s
  | e :: t =>
    if s.noJournal || jSlots s == 0 || !s.dramReach (jSlot s e.seq) then s
    else
      let c := unitCheck s 0x51 needW (0x400000000 + jSlot s e.seq) 32
      let s := if c.2 then jStore c.1 (jSlot s e.seq) (jBytes e) else c.1
      let s := ({ s with jq := t }.setF JN_STATUS_queue t.length).inc (JN_CNT 0)
      let s := s.setN JN_DONE (e.seq + 1)
      jGapFull (s.setN JN_LOW (jLow s))

/-- The four words a reader port finds at its cursor, and the cursor after it (R551). -/
def jReader (s : Mach) (r : Nat) : List Nat × Nat :=
  let c := s.n (JN_RD_CUR r)
  if c < s.n JN_LOW then ([c, s.n JN_LOW - 1, 0x40, 0], s.n JN_LOW)
  else if c = s.n JN_DONE then ([0, 0, 0, 0], c)
  else
    let bs := s.dramRead (jSlot s c) 32
    let bs := if mpuOpen s 0x51 then bs else mpuMask s 0x51 true needR (0x400000000 + jSlot s c) bs
    ((keysFrom 0 4).map (fun k => leNat ((bs.drop (8 * k)).take 8)), c + 1)

/-- R551: a read of word 0 by a master: the reply's value, and the state with words 1 to 3 latched and the cursor moved. -/
def jReadWord (s : Mach) (master r : Nat) : Mach × Nat :=
  let x := jReader s r
  let s := s.setN (JN_RD_CUR r) x.2
  ({ s with jLatch := mapIns s.jLatch (master * 4 + r) (x.1.drop 1) }, x.1.getD 0 0)

/-- JOURNAL_READER_READ: the read does not complete while the entry's DRAM cannot be reached. -/
def onJournalReaderRead (master : BitVec 7) (r : Fin 4) (s : Mach) : Mach :=
  if s.dramReach (jSlot s (s.n (JN_RD_CUR r.val))) then
    let x := jReadWord s master.toNat r.val
    x.1.emit (.regRead master.toNat (JN_RD_ENTRY r.val 0) x.2)
  else s

/-- JOURNAL_CURSOR_WRITE (R551). -/
def onJournalCursorWrite (r : Fin 4) (v : U64) (s : Mach) : Mach :=
  s.setN (JN_RD_CUR r.val) (if s.n JN_DONE < v.toNat then s.n JN_DONE else v.toNat)

/-- JN_DEGRADE_WRITE (R552): entry or exit at the next beat edge. -/
def onJnDegradeWrite (v : Bool) (s : Mach) : Mach := s.setF JN_CTRL_degrade (b2n v)

/-- Table 16-6: the journal is enabled again: a gap entry of subtype 3 accounts for what was dropped. -/
def jEnable (s : Mach) (on : Bool) : Mach :=
  if on && !s.b JN_CTRL_jrn_en then
    let n := s.jDropDis
    ({ s with jDropDis := 0 }.setF JN_CTRL_jrn_en 1).jpush s.now 0x3E (gapRest 3 n)
  else s.setF JN_CTRL_jrn_en (b2n on)

/-- A write of the whole register JN_CTRL. -/
def jnCtrlWrite (s : Mach) (v : Nat) : Mach :=
  onJnDegradeWrite (bitAt v 1) ((jEnable s (bitAt v 0)).setF JN_CTRL_scrub_en (v / 256))

/-! ### Image movers -/

/-- A mover channel. -/
def Mach.mover (s : Mach) (c : Nat) : Mover := mapGet (fun _ => ({} : Mover)) s.movers c

/-- Replace it; JN_MV_COUNT shows descriptors queued or running. -/
def Mach.setMover (s : Mach) (c : Nat) (x : Mover) : Mach :=
  { s with movers := mapSet (fun _ => ({} : Mover)) s.movers c x }.setF (JN_MV_COUNT_count c) x.q.length

/-- The descriptor of four words (Table 16-3). -/
def mvDesc (w0 w1 w2 : Nat) : MvDesc :=
  ⟨w0, w1 % 2 ^ 48, w2 % 2 ^ 24, w2 / 2 ^ 32 % 4, w2 / 2 ^ 34 % 2, bitAt w2 39, bitAt w2 43, w2 / 2 ^ 40 % 8⟩

/-- Words 0 to 2 are held for each master (R542). -/
def mvHold (s : Mach) (master c k v : Nat) : Mach :=
  { s with mvWords := mapSet (fun _ => 0) s.mvWords ((master * 8 + c) * 4 + k) v }

/-- MOVER_DESC_ENQUEUE (R542): word 3 enqueues; at a full queue the write waits for a free slot. Word 3 has reserved bytes
only. -/
def onMoverDescEnqueue (master : BitVec 7) (c : Fin 8) (_word3 : U64) (s : Mach) : Mach :=
  let w (k : Nat) : Nat := mapGet (fun _ => 0) s.mvWords ((master.toNat * 8 + c.val) * 4 + k)
  let d := mvDesc (w 0) (w 1) (w 2)
  let x := s.mover c.val
  s.setMover c.val (if x.q.length < 16 then { x with q := x.q ++ [d] } else { x with late := x.late ++ [d] })

/-- The running descriptor is over: the next waiting word 3 write completes. -/
def mvPop (s : Mach) (c : Nat) : Mach :=
  let x := s.mover c
  s.setMover c { q := x.q.drop 1 ++ x.late.take 1, late := x.late.drop 1, run := none }

/-- R545: a descriptor ends early. -/
def mvFail (s : Mach) (c code done : Nat) : Mach :=
  let s := (s.setF (JN_MV_ERR_code c) code).setF (JN_MV_ERR_done c) done
  mvPop ((s.logC 0x0E05 (Config.packDetail [c, code, done])).raise JN_EVENT_mv_err) c

/-- R545: ends for which Table 08-7 has no code: the code is a free value. -/
def mvFailFree (s : Mach) (c done : Nat) : Mach :=
  let v := s.free
  mvFail v.2 c (v.1 % 256) done

/-- The instant of the next occurrence of a phase (Table 02-6); 0 is the strike. -/
def phaseNext (s : Mach) (ph : Nat) : Nat :=
  if ph = 0 then s.n BT_STRIKE_TIME
  else if s.now ≤ s.beat.strike + phaseOff s ph then s.beat.strike + phaseOff s ph
  else s.n BT_STRIKE_TIME + phaseOff s ph

/-- The ranges of the image region or of DRAM a descriptor covers, from the bank chosen at its start: offset and length. -/
def mvRanges (s : Mach) (d : MvDesc) (bank : Nat) : List (Nat × Nat) :=
  let stn := d.loc % 2 ^ 14
  let off := d.loc / 2 ^ 32
  match d.kind with
  | 0 => [(d.loc % 2 ^ 34, d.len)]
  | 1 => [(bankBase s bank + s.f (ST_W6_in_off stn) * 64 + off, d.len)]
  | 2 => [(bankBase s bank + s.f (ST_W6_out_off stn) * 64 + off, d.len)]
  | _ =>
    let h := satAt d.len 0x1000
    [(bankRec s bank, h), (bankBase s bank + d.loc % 2 ^ 34, d.len - h)]

/-- MOVER_START (R543): at once or at its phase; none starts in D3hot (R357). -/
def onMoverStart (c : Fin 8) (s : Mach) : Mach :=
  let c := c.val
  let x := s.mover c
  match x.q, x.run with
  | d :: _, none =>
    if s.pcie.d3hot || s.b CT_CLAMP_movers || (d.wait && (decide (5 < d.ph) || !s.b BT_STATUS_beat_run)) then s
    else
      let s := if d.wait then s.upTo (phaseNext s d.ph) else s
      if d.dir = 1 ∧ (d.kind = 1 ∨ d.kind = 3) then mvFail s c 0x07 0
      else if d.kind = 0 ∧ (s.noJournal ∨ ¬ s.dramOk) then mvFail s c 0x15 0
      else s.setMover c { x with run := some (if d.kind = 2 then outBank (s.beatNum + 1) else inBank s.beatNum) }
  | _, _ => s

/-- Bytes of a range before the first one the MPU denies, an uncorrectable word, or memory that does not answer, and why:
0 none, 1 denied, 2 uncorrectable, 3 unreachable. -/
def mvGood (s : Mach) (m : Nat) (need : Need) (read : Bool) (a n : Nat) : Nat × Nat :=
  if !imgReach s a then (0, 3)
  else
    let k := match mpuFirst s m true need (imgAddr s a) n with
      | some (x, _) => x - imgAddr s a
      | none => n
    let z := if read && imgPoison s a k then
        ((keysFrom 0 (k / 8 + 2)).find? (fun i => imgPoison s (a / 8 * 8 + i * 8) 8)).map (fun i => a / 8 * 8 + i * 8 - a)
      else none
    match z with
    | some i => (i, 2)
    | none => (k, if k < n then 1 else 0)

/-- The outcome of a transfer over its ranges: bytes good and why it ends. -/
def mvRun (s : Mach) (m : Nat) (need : Need) (read : Bool) : List (Nat × Nat) → Nat × Nat × Nat
  | [] => (0, 0, 0)
  | (a, n) :: t =>
    let g := mvGood s m need read a n
    if g.2 = 0 then
      let r := mvRun s m need read t
      (n + r.1, r.2)
    else (g.1, g.2, a + g.1)

/-- Bytes of ranges. -/
def mvRead (s : Mach) (l : List (Nat × Nat)) : List Byte := l.foldl (fun bs x => bs ++ imgBytes s x.1 x.2) []

/-- Write bytes over ranges, in order. -/
def mvWrite (m : Nat) : Mach → List (Nat × Nat) → List Byte → Mach
  | s, [], _ => s
  | s, (a, n) :: t, bs =>
    let b := bs.take n
    let s := imgWriteBy s m a b
    mvWrite m s t (bs.drop n)

/-- How a transfer that did not complete ends (R545): what is recorded, then the descriptor. -/
def mvStop (s : Mach) (c m : Nat) (need : Need) (done why at_ : Nat) : Mach :=
  match why with
  | 1 => mvFailFree (mpuCheck s m true need (imgAddr s at_) 1).1 c done
  | 2 => mvFailFree (logPoison s m at_) c done
  | _ => mvFail s c 0x15 done

/-- A completed descriptor (R544). -/
def mvDone (s : Mach) (c : Nat) (ev : Bool) : Mach :=
  let s := mvPop (s.incF (JN_MV_DONE_count c)) c
  if ev then s.raise ⟨JN_EVENT, c, 1⟩ else s

/-- MOVER_DONE (R544, R545): the last write of the running descriptor is performed. For dir 1, `data` is what the host reads
returned, and `ok` that none ended with UR, CA or a timeout. -/
def onMoverDone (c : Fin 8) (data : List Byte) (ok : Bool) (s : Mach) : Mach :=
  let c := c.val
  let x := s.mover c
  match x.q, x.run with
  | d :: _, some bank =>
    if !s.pcie.bme then s
    else
      let m := 0x48 + c
      let l := mvRanges s d bank
      if d.dir = 0 then
        let r := mvRun s m needR true l
        let s := if 0 < r.1 then s.emit (.memWrite d.host ((mvRead s l).take r.1)) else s
        if r.2.1 = 0 then mvDone s c d.ev else mvStop s c m needR r.1 r.2.1 r.2.2
      else
        let n := satAt d.len data.length
        let r := mvRun s m needW false l
        let k := satAt n r.1
        let s := s.emit (.memRead d.host d.len)
        let s := mvWrite m s l (data.take k)
        if r.2.1 ≠ 0 ∧ r.1 ≤ n then mvStop s c m needW r.1 r.2.1 r.2.2
        else if ok ∧ n = d.len then mvDone s c d.ev
        else mvFailFree s c k
  | _, _ => s

/-- MOVER_BME_TIMEOUT (R545): Bus Master Enable 0 for more than 1 s ends the running descriptor. -/
def onMoverBmeTimeout (c : Fin 8) (s : Mach) : Mach :=
  if s.pcie.bme || (s.mover c.val).run.isNone then s
  else mvFailFree (s.upToC (s.pcie.bmeAt + 1000000001)) c.val 0

/-! ### Scrubbing -/

/-- SCRUB_LINE (R554, R555): one 64-byte line is read; `corr` marks words with a single-bit error, `bad` words with an
uncorrectable one. -/
def onScrubLine (line : BitVec 28) (corr bad : BitVec 8) (s : Mach) : Mach :=
  let a := line.toNat * 64
  let c := unitCheck s 0x51 needR (0x400000000 + a) 64
  if !s.b JN_CTRL_scrub_en || !s.dramReach a then s
  else if !c.2 then c.1
  else
    let s := c.1
    let fix := (keysFrom 0 8).filter (fun i => bitAt corr.toNat i && !bitAt bad.toNat i)
    let dead := (keysFrom 0 8).filter (bitAt bad.toNat)
    let s := fix.foldl (fun s i => ((s.inc (JN_CNT 6)).raise JN_EVENT_ecc_corr).logFold 0x0E010000 { cause := 0x0E01, detail := a + 8 * i }) s
    let fresh := dead.filter (fun i => !s.dramBad.contains (a / 8 + i))
    let s := { s with dramBad := s.dramBad ++ fresh.map (fun i => a / 8 + i) }
    (dead ++ (keysFrom 0 8).filter (fun i => s.dramBad.contains (a / 8 + i) && !dead.contains i)).foldl
      (fun s i => logPoison s 0x51 (a + 8 * i)) s

end Sys2Proof.Machine
end

