-- ==== Sys2Proof/Machine/NocCtl.lean ====
section
/-!
DEFINITION. The commands of the on-die network (14_on_die_network.md).
-/
namespace Sys2Proof.Machine

/-- NOC_PACKET_INJECT (R486, R487, R491). -/
def onNocPacketInject (src dst : Fin 24) (sport dport : Fin 4) (master : BitVec 7) (cls : Fin 4) (op : BitVec 4) (tag : BitVec 10)
    (addr : BitVec 48) (bseq : U64) (code : Byte) (data : List Byte) (s : Mach) : Mach :=
  nocInject s { src := src.val, dst := dst.val, sport := sport.val, dport := dport.val, master := master.toNat, cls := cls.val,
                op := op.toNat, tag := tag.toNat, addr := addr.toNat, bseq := bseq.toNat, code := code.toNat, data := data }

/-- NOC_PACKET_DELIVER (R489, R495, R504): packet number i of those under way, `noise` what changes its flits at stage `hop` of its path. -/
def onNocPacketDeliver (i hop : Nat) (noise : List (BitVec 264)) (s : Mach) : Mach := nocDeliver s i hop noise

/-- NOC_TARGET_TIMEOUT (R496). -/
def onNocTargetTimeout (i : Nat) (s : Mach) : Mach := nocTimeout s i

/-- NOC_PORT_ISOLATE (R496). -/
def onNocPortIsolate (r : Fin 24) (s : Mach) : Mach := nocPortIsolate s r.val

/-- NC_PORT_ISOLATE_WRITE (R495, R506): an isolated port stays as it is. -/
def onNcPortIsolateWrite (r : Fin 24) (s : Mach) : Mach := if s.port r.val = 2 then s else nocIsolate s r.val 2

/-- NC_PORT_RELEASE (R498). -/
def onNcPortRelease (r : Fin 24) (s : Mach) : Mach := nocOpen s r.val

/-- DOVETAIL_PORT_HOLD_EXPIRE (R499): of the request with bridge number i, or of packet i of the network. -/
def onDovetailPortHoldExpire (bridge : Bool) (i : Nat) (s : Mach) : Mach := if bridge then holdEnds s i else dovetailHoldExpire s i

/-- CLUSTER_GATE_IDLE_EXPIRE: steps 1 to 3 of Table 14-7: the port is held and the write queue drained. A migration that holds the port
comes first (R506). -/
def onClusterGateIdleExpire (c : Fin 16) (s : Mach) : Mach :=
  let c := c.val
  if s.b (EN_CL_CTRL_gate_en c) && clusterIdle s c && (s.clPower c).1 == 0 && s.port (s.clRouter c) == 0 then
    let s := s.upToC (gateDue s c)
    (drainPortAll (s.setClPower c 1) c).setF (NC_PORT_STATUS_state (s.clRouter c)) 1
  else s

/-- CLUSTER_SWITCH_OPEN (R500). -/
def onClusterSwitchOpen (c : Fin 16) (s : Mach) : Mach := switchOpen s c.val

/-- CLUSTER_WAKE (R501). -/
def onClusterWake (c : Fin 16) (s : Mach) : Mach := wakeRelease s c.val

/-- CLUSTER_WAKE_DONE (R501): the port opens, and what waited there is delivered in arrival order. -/
def onClusterWakeDone (c : Fin 16) (s : Mach) : Mach :=
  let c := c.val
  if (s.clPower c).1 = 3 ∧ s.port (s.clRouter c) ≠ 2 then
    let r := s.clRouter c
    let s := s.upToC ((s.clPower c).2 + 3500)
    windowRelease (nocRelease (setPort (s.setClPower c 0) r 0) r) r
  else s

end Sys2Proof.Machine
end

