-- ==== Sys2Proof/Machine/EngineCtl.lean ====
section
/-!
DEFINITION. Starting and stopping engines, clamps and migration of clusters, bindings and their dispatch
(06_tyten_programming_model.md).
-/
namespace Sys2Proof.Machine

/-! ### Migration (R220, R221) -/

/-- The migration is over with a result (Table 06-8); what waited at the cluster's router port is delivered (R221, R222). The idle timer of
its cluster restarts (R506). -/
def migrateEnd (s : Mach) (src result : Nat) : Mach :=
  let s := { (s.setF EN_MIGRATE_busy 0).setF EN_MIGRATE_result result with mig := none }
  let s := (clusterEngines src).foldl (fun t e => t.updEng e (fun x => { x with restAt := s.cycles })) s
  let r := s.clRouter src
  let s := if s.port r = 0 then windowRelease (nocRelease s r) r else s
  s.raiseEng (if result = 1 then EN_EVENT_migrate_done else EN_EVENT_migrate_refused) (4 * src)

/-- Every engine of the source has finished its activation: the source's port is held, its write queue drains (R352) and the copy begins. -/
def migrateCheck (s : Mach) : Mach :=
  match s.mig with
  | some m =>
    if m.phase = 1 ∧ ∀ e ∈ clusterEngines m.src, (s.eng e).state = 0 ∨ (s.eng e).state = 2 then
      drainPortAll (setPort { s with mig := some { m with phase := 2, at_ := s.cycles } } (s.clRouter m.src) 1) m.src
    else s
  | none => s

/-- An accepted migration starts: at a beat edge, or at once while beat_en is 0 (R220). -/
def migrateStart (s : Mach) : Mach :=
  match s.mig with
  | some m => if m.phase = 0 then migrateCheck { s with mig := some { m with phase := 1, at_ := s.cycles } } else s
  | none => s

/-- The refusal of a migration request, 0 for none (Table 06-8). -/
def migrateRefusal (s : Mach) (src : Nat) : Nat :=
  let sp := s.f EN_SPARE_cluster
  if s.f EN_SPARE_valid = 0 ∨ s.test.bad.contains (s.phys sp)
      ∨ (clusterEngines sp).any (fun e => (s.eng e).state != 0 || (keysFrom 0 16).any (fun b => s.b (EN_BIND_A_valid e b))) then 2
  else if src = sp ∨ s.b (EN_CL_CLAMP_clamp src) then 3
  else if s.mig.isSome then 4
  else 0

/-- Accept or refuse a migration of a logical cluster; `test` when the self-test asks (R567). -/
def migrateRequest (s : Mach) (src : Nat) (test : Bool) : Mach :=
  let c := migrateRefusal s src
  if c ≠ 0 then (s.setF EN_MIGRATE_result c).raiseEng EN_EVENT_migrate_refused (4 * src)
  else
    let s := { s.setF EN_MIGRATE_busy 1 with mig := some { src := src, spare := s.f EN_SPARE_cluster, test := test } }
    if s.b BT_CTRL_beat_en then s else migrateStart s

/-- MIGRATE_REQUEST (R220): a write of 1 to EN_MIGRATE.go. -/
def onMigrateRequest (src : Fin 16) (s : Mach) : Mach :=
  migrateRequest (s.setF EN_MIGRATE_source src.val) src.val false

/-- EN_MIGRATE.grace_us in ns; 0 acts as 1. -/
def graceNs (s : Mach) : Nat := (if s.f EN_MIGRATE_grace_us = 0 then 1 else s.f EN_MIGRATE_grace_us) * 1000

/-- R221: an engine of the source is not idle in time. -/
def migrateAbandon (s : Mach) : Mach :=
  match s.mig with
  | some m => if m.phase = 1 then migrateEnd (s.upToC (m.at_ + graceNs s)) m.src 5 else s
  | none => s

/-- Copy a run of keys of a sparse memory onto another run. -/
def copyKeys (m : List (Nat × Byte)) (src dst n : Nat) : List (Nat × Byte) :=
  let mid := (m.filter (fun x => decide (src ≤ x.1) && decide (x.1 < src + n))).map (fun x => (x.1 - src + dst, x.2))
  m.filter (fun x => decide (x.1 < dst)) ++ mid ++ m.filter (fun x => decide (dst + n ≤ x.1))

/-- The old physical cluster keeps what was copied from it, under the spare's logical number, clamped. -/
def leaveBehind (s : Mach) (m : Migration) : Mach :=
  let s := { s with csram := copyKeys s.csram (clsKey m.src 0) (clsKey m.spare 0) 0x100000,
                    scratch := copyKeys s.scratch (scrKey (4 * m.src) 0) (scrKey (4 * m.spare) 0) 0x80000,
                    isram := copyKeys s.isram (isrKey (4 * m.src) 0) (isrKey (4 * m.spare) 0) 0x40000 }
  (keysFrom 0 4).foldl (fun t i =>
    let x := t.eng (4 * m.src + i)
    t.setEng (4 * m.spare + i) { x with state := 7, binds := [], evq := [], sb := [], rob := [], inbox := [], active := none }) s

/-- R218: the router port of a cluster is closed by a clamp. -/
def clampPort (s : Mach) (c : Nat) : Mach := if s.port (s.clRouter c) = 2 then s else nocIsolate s (s.clRouter c) 3

/-- The stores of engine e drain in order up to the first that a register takes (R218, R330); the count is fuel. -/
def drainStores : Nat → Mach → Nat → Mach
  | 0, s, _ => s
  | n + 1, s, e =>
    match (s.eng e).sb with
    | [] => s
    | t :: rest =>
      if t.kind = 0 then
        let s := s.updEng e (fun y => { y with sb := rest })
        drainStores n (match locate t.addr with
          | .dram o =>
            let s := if (s.portq (e / 4)).length < 16 then s else drainPort s (e / 4)
            s.setPortq (e / 4) (s.portq (e / 4) ++ [⟨e, o, t.data⟩])
          | _ => performNormal s e t.addr t.data) e
      else if t.kind = 2 then
        match submitFst s e t with
        | some s => drainStores n (s.updEng e (fun y => { y with sb := rest })) e
        | none => s
      else s

/-- The router port of a clamped cluster closes once its store buffers and its write queue have drained (R218, R352). -/
def clampClose (s : Mach) (c : Nat) : Mach :=
  if s.b (EN_CL_CLAMP_clamp c) && (clusterEngines c).all (fun e => (s.eng e).sb.isEmpty) then clampPort (drainPortAll s c) c else s

/-- MIGRATION_COPY_DONE (R221 steps 4 to 6): the logical cluster keeps its number and state and lies on the spare's
physical cluster. -/
def onMigrationCopyDone (s : Mach) : Mach :=
  match s.mig with
  | some m =>
    if m.phase = 2 then
      let s := s.upToC (m.at_ + 57344)
      let a := s.clRouter m.src
      let b := s.clRouter m.spare
      let p := s.phys m.src
      let q := s.phys m.spare
      let s := (s.setF ⟨EN_CL_MAP, 4 * m.src, 4⟩ q).setF ⟨EN_CL_MAP, 4 * m.spare, 4⟩ p
      let s := leaveBehind s m
      let item (g : GateItem) : GateItem := if g.router = a then { g with router := b } else g
      let s := nocRehome s a b
      let s := { s with noc := { s.noc with waiting := s.noc.waiting.map item } }
      let s := (s.setF (NC_PORT_STATUS_waiting a) 0).setF (NC_PORT_STATUS_wake_req a) 0
      let s := clampPort ((setPort s a 0).setF (EN_CL_CLAMP_clamp m.spare) 1) m.spare
      let s := if m.test then
          let r := s.test.run.map (fun r => { r with moving := false, target := m.spare, at_ := s.cycles })
          { s with test := { s.test with run := r } }
        else s
      migrateEnd s m.src 1
    else s
  | none => s

/-! ### Start, stop, clamp -/

/-- ENGINE_START (R200): from stopped, halted or faulted to init: supervisor level, CAPS 0, at EN_START_PC. -/
def onEngineStart (e : Fin 64) (s : Mach) : Mach :=
  let x := s.eng e
  if x.state = 0 ∨ x.state = 5 ∨ x.state = 6 then
    let pc := s.f (EN_START_PC_word e) * 4
    asyncCheck (s.setEng e { x with state := 1, level := 1, caps := 0, budget := 0, stopReq := false, wait := .none,
                                    arch := { x.arch with pc := pc } }) e
  else s

/-- ENGINE_STOP (R217). -/
def onEngineStop (e : Fin 64) (s : Mach) : Mach := stopEngine s e

/-- ENGINE_STOP_COMPLETE (R217): the store buffer has drained and the engine is stopped. -/
def onEngineStopComplete (e : Fin 64) (s : Mach) : Mach :=
  let x := s.eng e
  if x.stopReq && x.sb.isEmpty then
    migrateCheck ((leaveAct s e).updEng e (fun x => { x with state := 0, stopReq := false, active := none, overrunDue := false, restAt := s.cycles }))
  else s

/-- R218: the engines of a cluster stop, their store buffers drain, and they are clamped. A store to a register still in a buffer, and
what stands behind it, drains by STORE_BUFFER_DRAIN before the port closes. -/
def clusterClamp (s : Mach) (c : Nat) : Mach :=
  let s := (clusterEngines c).foldl (fun t e =>
    drainStores 8 ((leaveAct (haltIssue t e) e).updEng e (fun x =>
      { x with state := 7, stopReq := false, binds := [], active := none, overrunDue := false })) e) s
  clampClose (s.setF (EN_CL_CLAMP_clamp c) 1) c

/-- The clamp is cleared: the engines are left stopped and the port opens (R498). -/
def clusterUnclamp (s : Mach) (c : Nat) : Mach :=
  let s := (clusterEngines c).foldl (fun t e => t.updEng e (fun x => { x with state := 0, restAt := s.cycles })) (s.setF (EN_CL_CLAMP_clamp c) 0)
  nocOpen s (s.clRouter c)

/-- CLUSTER_CLAMP: a write to EN_CL_CLAMP. -/
def onClusterClamp (c : Fin 16) (set : Bool) (s : Mach) : Mach :=
  if set = s.b (EN_CL_CLAMP_clamp c.val) then s
  else if set then clusterClamp s c.val else clusterUnclamp s c.val

/-- MACHINE_CHECK: an uncorrectable ECC error in an engine's memory (R208, R211): vector 0x01, not maskable. In an engine that runs no
instruction it stays pending until it runs. -/
def onMachineCheck (e : Fin 64) (s : Mach) : Mach :=
  asyncCheck (s.updEng e (fun x => { x with mcDue := true })) e

/-- BUDGET_EXPIRE (R206): the budget of the activation reaches 0; the exception is raised once for the activation. -/
def onBudgetExpire (e : Fin 64) (s : Mach) : Mach :=
  let x := s.eng e
  if (x.state = 3 ∨ x.state = 4) ∧ x.budget ≠ 0 then
    let s := s.upToC (s.cycles + x.budgetLeft s.cycles)
    if x.overran then s.updEng e (fun x => { x with budget := 0, budgetAt := s.cycles })
    else
      let s := (s.inc (EN_CNT e 7)).raiseEng EN_EVENT_budget e
      asyncCheck (s.updEng e (fun x => { x with budget := 0, budgetAt := s.cycles, overrunDue := true, overran := true })) e
  else s

/-! ### Bindings -/

/-- No binding fires or is dispatched on a standby, a fenced module, or before a takeover's first downbeat (R573, R580,
R581). -/
def bindingsHeld (s : Mach) : Bool := s.standby || s.b TW_STATUS_fenced || s.twin.progress

/-- Beat b suits binding k of engine e (R198): the difference of the two numbers is a multiple of every_m1 + 1. -/
def bindingBeat (s : Mach) (e k b : Nat) : Bool :=
  (Int.ofNat b - Int.ofNat (s.f (EN_BIND_B_match e k) / 256)) % Int.ofNat (s.f (EN_BIND_A_every_m1 e k) + 1) == 0

/-- When binding k of engine e fires in the present beat (R198). -/
def bindingTime (s : Mach) (e k : Nat) : Nat :=
  s.beat.strike + phaseOff s (s.f (EN_BIND_A_phase e k)) + s.f (EN_BIND_A_t e k) * 10

/-- BINDING_FIRE (R198, R201, R205, R207): once in each beat that suits the binding. -/
def onBindingFire (e : Fin 64) (k : Fin 16) (s : Mach) : Mach :=
  let b := s.beatNum
  let x := s.eng e
  let runs := x.state == 2 || x.state == 3 || x.state == 4 || x.state == 6
  let key := (e.val * 16 + k.val, b)
  if s.b (EN_BIND_A_valid e k) && !s.b (EN_BIND_A_kind e k) && s.b BT_CTRL_beat_en && s.b BT_STATUS_beat_run
      && !s.beat.starting && !bindingsHeld s && runs && !x.stopReq && decide (s.f (EN_BIND_A_phase e k) ≤ 5)
      && bindingBeat s e k b && !s.beat.fired.contains key then
    let t := bindingTime s e k
    let s := s.upToH t
    let s := { s with beat := { s.beat with fired := key :: s.beat.fired } }
    let active := match x.active with
      | some p => p.b == k.val && !p.event
      | none => false
    if decide (x.state = 6) || active || x.binds.any (fun (p : PendBind) => p.b == k.val) then
      (s.inc (EN_CNT e 1)).raiseEng EN_EVENT_overrun e
    else s.setEng e { x with binds := x.binds ++ [{ b := k.val, time := t, beat := b }] }
  else s

/-- Binding k of engine e is an event binding that matches an event word (R199). -/
def bindingMatches (s : Mach) (e : Nat) (word k : Nat) : Bool :=
  s.b (EN_BIND_A_valid e k) && s.b (EN_BIND_A_kind e k)
    && evMatch (word / 2 ^ 48) (s.f (EN_BIND_B_match e k)) (s.f (EN_BIND_B_mask e k))

/-- R203: head events that match no valid event binding are discarded and counted. -/
def dropUnmatched : Nat → Mach → Nat → Mach
  | 0, s, _ => s
  | n + 1, s, e =>
    match (s.eng e).evq with
    | [] => s
    | (w, _) :: t =>
      if (keysFrom 0 16).any (bindingMatches s e w) then s
      else dropUnmatched n (((s.updEng e (fun x => { x with evq := t })).inc (EN_CNT e 6)).raiseEng EN_EVENT_unmatched e) e

/-- The bindings that can be dispatched: pending phase bindings, and event bindings that match the head event. -/
def readyBindings (s : Mach) (e : Nat) : List Nat :=
  let x := s.eng e
  let evs := match x.evq with
    | (w, _) :: _ => (keysFrom 0 16).filter (bindingMatches s e w)
    | [] => []
  (keysFrom 0 16).filter (fun k => x.binds.any (fun p => p.b == k) || evs.contains k)

/-- R201: lowest priority value, then lowest index. -/
def pickBinding (s : Mach) (e : Nat) : Option Nat :=
  (readyBindings s e).foldl (fun b k =>
    match b with
    | none => some k
    | some j => if s.f (EN_BIND_A_prio e k) < s.f (EN_BIND_A_prio e j) then some k else b) none

/-- R202: an activation starts. Whether asynchronous exceptions are enabled in it is not stated: a free bit. -/
def dispatch (s : Mach) (e k g2 g3 : Nat) (p : PendBind) : Mach :=
  let fr := s.free
  let s := fr.2.inc (EN_CNT e 0)
  let x := s.eng e
  let arch := { x.arch with pc := s.f (EN_BIND_A_entry e k) * 4 }
  let arch := ((arch.put 1 (BitVec.ofNat 64 k)).put 2 (BitVec.ofNat 64 g2)).put 3 (BitVec.ofNat 64 g3)
  s.setEng e { x with state := 3, level := s.f (EN_BIND_A_level e k), ie := fr.1 % 2, caps := s.f (EN_BIND_A_caps e k),
                      budget := s.f (EN_BIND_B_budget_cycles e k), budgetAt := s.cycles, actAt := s.cycles,
                      overrunDue := false, overran := false, active := some p, arch := arch }

/-- BINDING_DISPATCH (R201 to R203): an idle engine takes its next binding; exceptions that are pending come first (R208). -/
def onBindingDispatch (e : Fin 64) (s : Mach) : Mach :=
  if (s.eng e).state != 2 || (s.eng e).stopReq || migrating s e || bindingsHeld s || (s.clPower (e / 4)).1 != 0 then s
  else
    let s := dropUnmatched (s.eng e).evq.length s e
    let x := s.eng e
    match pickBinding s e with
    | none => s
    | some k =>
      if s.b (EN_BIND_A_kind e k) then
        match x.evq with
        | (w, t) :: rest => asyncCheck (dispatch (s.setEng e { x with evq := rest }) e k w t ⟨k, t, 0, true⟩) e
        | [] => s
      else
        match x.binds.find? (fun p => p.b == k) with
        | some p => asyncCheck (dispatch (s.setEng e { x with binds := x.binds.filter (fun p => p.b != k) }) e k p.beat p.time p) e
        | none => s

/-- R266: the engine returns to idle at a cycle. -/
def yieldEngine (now : Nat) (x : Engine) : Engine :=
  { x.retire (x.arch.pc + 4) with state := 2, restAt := now, inExc := 0, resv := none, overrunDue := false, active := none }

/-- YIELD: ends the activation, from init or active (R204, R266); a migration of the cluster goes on once all are idle. -/
def execYield (e : Fin 64) : State → Host.Outcome State Fault Refusal :=
  onI (.yield e) e (fun s => if (s.eng e).canIssueAlone [] then migrateCheck ((leaveAct s e).updEng e (yieldEngine s.cycles)) else stall s e)

end Sys2Proof.Machine
end

