-- ==== Sys2Proof/Machine/Twin.lean ====
section
/-!
DEFINITION. Twin operation over the tenon link (R571 to R583), and the two beat phases in which a primary or a new primary
does more than a single module: the output deadline and the downbeat launch.
-/
namespace Sys2Proof.Machine

/-- The tenon link is up. -/
def Mach.tenonUp (s : Mach) : Bool := s.b TW_STATUS_tenon_up

/-- The twin frame of a message (Table 03-6): type 0xC in TC2, with the message code in bytes 11 to 14. -/
def twinFrame (s : Mach) (code : Nat) (data : List Byte) : Frame :=
  { type := 0xC, cls := 2, origin := (if s.twin.origin2 then 2 else 0), seq := s.twin.seq, word := code, len := data.length, payload := data }

/-- Send a twin message (R578). -/
def twinSend (s : Mach) (code : Nat) (data : List Byte) : Mach :=
  { s.emit (.twin (twinFrame s code data)) with twin := { s.twin with seq := (s.twin.seq + 1) % 65536 } }

/-! ### The primary's side (R574) -/

/-- Messages that carry bytes: an index, an offset and up to 1,016 bytes each. -/
def twinBytes (code idx : Nat) : Nat → Nat → List Byte → List (Nat × List Byte)
  | 0, _, _ => []
  | k + 1, off, bs =>
    if bs.isEmpty then []
    else (code, beBytes 4 idx ++ beBytes 4 off ++ bs.take 1016) :: twinBytes code idx k (off + 1016) (bs.drop 1016)

/-- Messages that carry numbered values: what stands in front of each, then at most n pairs of a number and a value (log 80). -/
def twinPairs (code : Nat) (front : List Byte) (n : Nat) : Nat → List (Nat × Nat) → List (Nat × List Byte)
  | 0, _ => []
  | k + 1, l =>
    (code, (l.take n).foldl (fun b x => b ++ beBytes 8 x.1 ++ beBytes 8 x.2) front)
      :: (if l.length ≤ n then [] else twinPairs code front n k (l.drop n))

/-- Where a declared region is checked: DRAM, or the window of its cluster SRAM. -/
def declAddr (s : Mach) (d : Nat) : Nat :=
  match locate (s.f (TW_DECL_addr d)) with
  | .csram o => 0x43000000 + clsKey (Config.declCluster d) o
  | _ => s.f (TW_DECL_addr d)

/-- The bytes of a declared region (TW_DECL). An engine address of cluster SRAM names no cluster: which one is meant is open
(log entry 12). -/
def declBytes (s : Mach) (d : Nat) : List Byte :=
  let n := s.f (TW_DECL_len_64 d) * 64
  match locate (s.f (TW_DECL_addr d)) with
  | .dram o => s.dramRead o n
  | .csram o => mapRange memReset s.csram (clsKey (Config.declCluster d) o) n
  | _ => []

/-- Registers of the station table the module sets, and the commit bitmap. -/
def twinRegs (s : Mach) : List (Nat × U64) :=
  s.regs.filter (fun x => x.1 / 0x100000000 == 1 || (keysFrom 0 4).any (fun i => x.1 == SK_COMMIT i))

/-- The messages of a beat, but for the seal. -/
def twinSet (s : Mach) : List (Nat × List Byte) :=
  let n := s.beatNum
  let bank (b : Nat) (f : Mach → Nat → Nat → Nat) (z : Mach → Nat → Nat) (beat : Nat) : List (Nat × List Byte) :=
    s.stations.foldl (fun l k =>
      if (unitCheck s 0x61 needR (imgAddr s (f s k beat)) (z s k)).2 then
        l ++ twinBytes 2 b (z s k) (f s k beat - bankBase s b) (imgBytes s (f s k beat) (z s k))
      else l) []
  let ins := bank (inBank n) stIn (fun s k => s.f (ST_W5_in_size k)) n
  let outs := bank (outBank (n + 1)) stOut (fun s k => s.f (ST_W5_out_size k)) (n + 1)
  let nat (l : List (Nat × U64)) : List (Nat × Nat) := l.map (fun x => (x.1, x.2.toNat))
  let pairs (code : Nat) (front : List Byte) (n : Nat) (l : List (Nat × Nat)) : List (Nat × List Byte) := twinPairs code front n (l.length + 1) l
  let regs := if s.twin.applied.isEmpty then [] else pairs 3 [] 64 (nat s.twin.applied)
  let decl := (keysFrom 0 8).foldl (fun l d =>
    if s.b (TW_DECL_valid d) && (unitCheck s 0x61 needR (declAddr s d) (s.f (TW_DECL_len_64 d) * 64)).2 then l ++ twinBytes 4 d (s.f (TW_DECL_len_64 d)) 0 (declBytes s d) else l) []
  let cnt := pairs 5 (beBytes 8 (s.n JN_NEXT) ++ beBytes 8 (s.n BR_SEQ)) 63 (s.ring.txSeq.map (fun x => (x.1 + 2 ^ 63, x.2)) ++ nat (twinRegs s))
  ins ++ outs ++ regs ++ decl ++ cnt

/-- R574: after the output deadline the primary sends the beat's set and seals it. -/
def twinMirror (s : Mach) : Mach :=
  if s.f TW_STATUS_role = 1 ∧ s.tenonUp ∧ ¬ s.b TW_STATUS_fenced then
    let l := twinSet s
    let s := l.foldl (fun t m => twinSend t m.1 m.2) s
    let s := twinSend s 7 (beBytes 4 s.beatNum ++ beBytes 4 l.length)
    let s := (s.inc (TW_CNT 0)).add (TW_CNT 3) (mirrorBytes s)
    { s with twin := { s.twin with applied := [] } }
  else s

/-- PHASE_OUTPUT_DEADLINE (R535, R536, R412, R574). -/
def onPhaseOutputDeadline (s : Mach) : Mach :=
  let d := phaseDue s 3
  let s := outputDeadline s
  if d then twinMirror s else s

/-- Message 0x06 goes out once for a failure (R579); its cause numbers are not in the spec: a free value. -/
def twinGiveUp (s : Mach) : Mach :=
  if s.f TW_STATUS_role = 1 ∧ s.tenonUp ∧ ¬ s.twin.told then
    let v := s.free
    twinSend { v.2 with twin := { v.2.twin with told := true } } 6 (beBytes 2 v.1)
  else s

/-- R579: the primary's own reasons: more than half of its engines faulted, DRAM clamped, dovetail link down for 3 beats. -/
def twinFailing (s : Mach) : Bool :=
  decide (32 < (s.engines.filter (fun x => x.2.state == 6)).length) || s.b CT_CLAMP_dram || decide (3 ≤ s.twin.downBeats)

/-- TW_RESIGN (R579). -/
def onTwResign (s : Mach) : Mach := if s.f TW_STATUS_role = 1 then twinGiveUp { s with twin := { s.twin with told := false } } else s

/-- R576: K values from the standby's ring ports go to a station's twin timing block; the spec does not say how the primary
measures them: free values (log 12), as is the D_max from the standby's place. -/
def twinTiming (s : Mach) (k : Nat) : Mach :=
  let v := s.free
  unitWrite v.2 k 0x3FFFFF20 (beBytes 8 v.1)

/-- TWIN_SEAL_ACK (R578): the standby is synchronised; the stations are calibrated from its place when it becomes so. -/
def onTwinSealAck (_beat : BitVec 32) (s : Mach) : Mach :=
  if s.f TW_STATUS_role = 1 ∧ s.tenonUp then
    let first := !s.b TW_STATUS_sync
    let s := (s.inc (TW_CNT 1)).setF TW_STATUS_sync 1
    let s := { s with twin := { s.twin with sealed := true } }
    if first then
      let v := s.free
      let s := { v.2 with twin := { v.2.twin with dMax := v.1 } }
      (s.stations.filter (fun k => decide (2 ≤ s.f (ST_W1_state k)) && decide (s.f (ST_W1_state k) ≤ 4))).foldl twinTiming s
    else s
  else s

/-! ### The standby's side -/

/-- A twin message is accepted into the unsealed set. -/
def twinHold (s : Mach) (m : TwMsg) : Mach :=
  if s.standby && s.tenonUp then { s with twin := { s.twin with buf := s.twin.buf ++ [m] } } else s

/-- The unsealed set is discarded (R574). -/
def twinDiscard (s : Mach) : Mach :=
  if s.twin.buf.isEmpty then s else { s.inc (TW_CNT 2) with twin := { s.twin with buf := [] } }

/-- TWIN_TIME (R578, R41): the primary's fabric time at the first bit. -/
def onTwinTime (t : U64) (s : Mach) : Mach :=
  if s.tenonUp && srcOn s 4 then
    let s := s.setSrc 4 { s.src 4 with flag := true }
    if srcQual s 4 then servoSample s 4 (Int.ofNat t.toNat - Int.ofNat s.now) else s
  else s

/-- TWIN_BANK_DATA (R574). -/
def onTwinBankData (bank : Fin 4) (off : Nat) (data : List Byte) (s : Mach) : Mach :=
  twinHold s { code := 2, a := bank.val, off := off, data := data.take 1016 }

/-- TWIN_STAGED_SET (R574): register and value pairs. -/
def onTwinStagedSet (pairs : List (Nat × U64)) (s : Mach) : Mach := twinHold s { code := 3, pairs := pairs }

/-- TWIN_DECL_DATA (R574). -/
def onTwinDeclData (region : Fin 8) (off : Nat) (data : List Byte) (s : Mach) : Mach :=
  twinHold s { code := 4, a := region.val, off := off, data := data }

/-- TWIN_COUNTERS (R574): JN_NEXT, BR_SEQ, the sequence counters, and the station table state and commit bitmap. -/
def onTwinCounters (jn br : U64) (seqs : List (Nat × Nat)) (regs : List (Nat × U64)) (s : Mach) : Mach :=
  twinHold s { code := 5, a := jn.toNat, off := br.toNat, seqs := seqs, pairs := regs }

/-- A mirrored register value: RWS fields of a staged set, active and staged. -/
def twinReg (s : Mach) (x : Nat × U64) : Mach :=
  let w := rwsMask x.1
  (s.setR x.1 ((s.r x.1 &&& ~~~w) ||| (x.2 &&& w))).setSt x.1 ((s.st x.1 &&& ~~~w) ||| (x.2 &&& w))

/-- A mirrored value the module itself sets: station table state or the commit bitmap. -/
def twinState (s : Mach) (x : Nat × U64) : Mach :=
  if x.1 / 0x100000000 = 1 then s.setR x.1 ((s.r x.1 &&& rwsMask x.1) ||| (x.2 &&& ~~~(rwsMask x.1)))
  else if (keysFrom 0 4).any (fun i => x.1 == SK_COMMIT i) then s.setR x.1 x.2
  else s

/-- Apply one message of a sealed set. -/
def twinApply (s : Mach) (m : TwMsg) : Mach :=
  match m.code with
  | 2 =>
    let a := bankBase s m.a + m.off
    let c := unitCheck s 0x61 needW (imgAddr s a) m.data.length
    if imgReach s a && c.2 then imgWriteBy c.1 0x61 a m.data else c.1
  | 3 => m.pairs.foldl twinReg s
  | 4 =>
    let c := unitCheck s 0x61 needW (declAddr s m.a + m.off) m.data.length
    if !c.2 then c.1
    else if s.b (TW_DECL_valid m.a) ∧ m.off + m.data.length ≤ s.f (TW_DECL_len_64 m.a) * 64 then
      match locate (s.f (TW_DECL_addr m.a)) with
      | .dram o => if s.dramReach (o + m.off) then dramWriteBy s 0x61 (o + m.off) m.data else s
      | .csram o => csramWriteBy s 0x61 (clsKey (Config.declCluster m.a) (o + m.off)) m.data
      | _ => s
    else s
  | _ =>
    let s := m.pairs.foldl twinState s
    { s with twin := { s.twin with jnNext := m.a, brSeq := m.off, seqs := m.seqs.foldl (fun l x => mapIns l x.1 x.2) s.twin.seqs } }

/-- TWIN_BEAT_SEALED (R574): the set is applied as one whole and acknowledged; one with messages missing is discarded. -/
def onTwinBeatSealed (beat : BitVec 32) (count : Nat) (s : Mach) : Mach :=
  if s.standby && s.tenonUp then
    if s.twin.buf.length = count then
      let b := beat.toNat
      let l := s.twin.buf
      let s := (l.filter (fun m => m.code == 3) ++ l.filter (fun m => m.code != 3)).foldl twinApply s
      let s := (keysFrom 0 8).foldl (fun t p => portRefresh t p 6) (countStations s)
      let s := if s.dramOk then setRec (setRec s (inBank b) b 3) (outBank (b + 1)) ((b + 1) % 2 ^ 32) 2 else s
      let s := ((s.inc (TW_CNT 0)).setF TW_STATUS_mirror_age 0).setF TW_STATUS_sync 1
      twinSend { s with twin := { s.twin with buf := [], sealed := true } } 8 (beBytes 4 b)
    else twinDiscard s
  else s

/-! ### Takeover (R579, R580, R583) -/

/-- R580 step 5: the journal goes on at the mirrored JN_NEXT plus 2^32 with a gap entry of subtype 0; the entries not written
are not known to the new primary: a free value. -/
def takeJournal (s : Mach) : Mach :=
  let v := s.free
  let n := (s.twin.jnNext + 2 ^ 32) % 2 ^ 64
  let s := ({ v.2 with jq := [], jStarted := true }.setN JN_NEXT n).setN JN_DONE n
  (s.setF JN_STATUS_queue 0).jpush s.now 0x3E (gapRest 0 v.1)

/-- R580, R583: takeover is declared; trigger 1 downbeats, 2 message 0x06, 3 host. -/
def takeover (s : Mach) (trigger : Nat) : Mach :=
  let s := twinDiscard s
  let age := s.f TW_STATUS_mirror_age
  let s := ((s.inc (TW_CNT 4)).raise TW_EVENT_takeover).logC 0x1201 trigger
  let s := if s.f TW_CFG_max_age < age then
      let s := (keysFrom 0 4).foldl (fun t i => t.setN (SK_FORCE_HOLD i) (2 ^ 64 - 1)) s
      (s.raise TW_EVENT_old_mirror).logC 0x1202 age
    else s
  let bump (x : Nat × Nat) : Nat × Nat := (x.1, (x.2 + 4096) % 65536)
  let seqs := s.twin.seqs.map bump
  let s := { s with ring := { s.ring with txSeq := seqs.foldl (fun m (x : Nat × Nat) => mapIns m x.1 x.2) s.ring.txSeq, silent := [] },
                    strike := { s.strike with yes := [], nay := [], decided := none } }
  let s := s.setN BR_SEQ s.twin.brSeq
  let s := (keysFrom 0 4).foldl (fun t n => if (t.ringStations n).isEmpty then t else setBreak t n [(ringN t n + 1, 1)]) s
  let s := { (s.setF TW_STATUS_role 1).setF TW_STATUS_sync 0 with
             twin := { s.twin with origin2 := true, progress := true, missed := 0, told := false } }
  takeJournal (reselect s)

/-- TWIN_FAILURE_DECL: message 0x06 (R579). -/
def onTwinFailureDecl (_cause : BitVec 16) (s : Mach) : Mach :=
  if s.standby && s.tenonUp then takeover s 2 else s

/-- TWIN_DOWNBEAT_MISSING (R579): two beats in a row without a copy of the expected downbeat by its nominal launch, the standby's own K and
1 µs; a module that read a reserved role never takes over on them (R572). What its own K is, is not stated: a free value within the lead. -/
def onTwinDownbeatMissing (s : Mach) : Mach :=
  if s.standby then
    let v := s.free
    let s := v.2.upTo (nextStrike s - lead s + v.1 % (lead s + 1) + 1000)
    let n := s.twin.missed + 1
    if 2 ≤ n ∧ ¬ s.twin.blind then takeover s 1 else { s with twin := { s.twin with missed := n } }
  else s

/-- TW_TAKEOVER (R579): the host's request, while the standby is synchronised. -/
def onTwTakeover (s : Mach) : Mach := if s.standby && s.b TW_STATUS_sync then takeover s 3 else s

/-! ### The link -/

/-- TENON_LINK_UP: the twin source may be used (R41). -/
def onTenonLinkUp (s : Mach) : Mach :=
  if s.f TW_STATUS_role = 0 ∨ s.b CT_CLAMP_tenon then s else s.setF TW_STATUS_tenon_up 1

/-- R582: mirroring stops; it is no takeover. -/
def tenonDown (s : Mach) : Mach :=
  if s.tenonUp then
    let s := (twinDiscard s).setF TW_STATUS_tenon_up 0
    let s := ((s.setF TW_STATUS_sync 0).inc (TW_CNT 5)).raise TW_EVENT_tenon_down
    disqualify ((s.logC 0x1203 0).setSrc 4 { s.src 4 with flag := false }) 4
  else s

/-- TENON_LINK_DOWN (R582). -/
def onTenonLinkDown (s : Mach) : Mach := tenonDown s

/-! ### Beat edges and downbeats -/

/-- The primary's time message of a beat (Table 17-5, R41): its fabric time at the first bit. -/
def twinClock (s : Mach) : Mach :=
  if s.f TW_STATUS_role = 1 ∧ s.tenonUp ∧ ¬ s.b TW_STATUS_fenced then twinSend s 1 (beBytes 8 s.now) else s

/-- What the twin unit does at a beat edge: the age of the mirror (R582), the primary's time message, the run of time messages (R41),
the primary's own failures (R579). -/
def twinEdge (s : Mach) : Mach :=
  let s := twinClock s
  let s := if s.standby then
      let age := if s.twin.sealed then 0 else s.f TW_STATUS_mirror_age + 1
      let s := (s.setF TW_STATUS_mirror_age (satAt 65535 age)).setF TW_STATUS_sync (b2n s.twin.sealed)
      let s := twinDiscard { s with twin := { s.twin with sealed := false } }
      let q := s.src 4
      let s := s.setSrc 4 { q with flag := false, good := (if q.flag then q.good + 1 else 0), bad := (if q.flag then 0 else q.bad + 1) }
      if s.tenonUp ∧ 4 ≤ (s.src 4).good then qualify s 4 else if 2 ≤ (s.src 4).bad then disqualify s 4 else s
    else if s.f TW_STATUS_role = 1 then
      { s.setF TW_STATUS_sync (b2n s.twin.sealed) with twin := { s.twin with sealed := false } }
    else s
  let s := { s with twin := { s.twin with downBeats := (if s.f DV_STATUS_state = 2 then 0 else s.twin.downBeats + 1) } }
  if twinFailing s then twinGiveUp s else { s with twin := { s.twin with told := false } }

/-- DOWNBEAT_LAUNCH (R54); the first one of a new primary ends its takeover (R580). -/
def onDownbeatLaunch (s : Mach) : Mach :=
  let due := willLaunch s
  let s := launchDownbeats s
  if due && s.twin.progress then serveHold { s with twin := { s.twin with progress := false } } else s

/-- The standby follows the beat of the downbeats that pass: their beat is the coming one, with its strike time. One with an invalid
launch time (R71), or whose strike has passed, gives none. -/
def followBeat (s : Mach) (f : Frame) : Mach :=
  match expandLaunch s f.launch with
  | none => s
  | some t =>
    if t ≤ s.now then s
    else
    let s := ((s.setN BT_STRIKE_TIME t).setF BT_CTRL_beat_en 1).setF BT_STATUS_beat_run 1
    let s := s.setN BT_BEAT_NUM ((f.word + 2 ^ 32 - 1) % 2 ^ 32)
    { s with beat := { s.beat with starting := false, final := false } }

/-- TRANSIT_FRAME_FORWARD (R573, R114 to R116, R185). -/
def onTransitFrameForward (p : Fin 8) (f : Frame) (s : Mach) : Mach :=
  let fresh := linkTakes s p.val f && f.type == 0x1 && !f.isCal && f.src == 0
  let s := transitForward p f s
  if fresh && s.standby then followBeat s f else s

end Sys2Proof.Machine
end

