-- ==== Sys2Proof/Machine/Contain.lean ====
section
/-!
DEFINITION. Clamps (R558 to R561), the error log's readout and clearing (R563, R564), self-test (R566 to R569), and
PT_FIRST's clearing.
-/
namespace Sys2Proof.Machine

/-! ### Clamps -/

/-- A clamp bit is set: counted and logged. -/
def clampSet (s : Mach) (bit : Nat) : Mach := ((s.setF ⟨CT_CLAMP, bit, 1⟩ 1).inc (CT_CNT 0)).logC 0x0F03 bit

/-- CLAMP_RING_PORT (R559). -/
def onClampRingPort (p : Fin 8) (set : Bool) (s : Mach) : Mach :=
  let p := p.val
  if set = bitAt (s.n CT_CLAMP) p then s
  else portRefresh (if set then clampSet s p else s.setF ⟨CT_CLAMP, p, 1⟩ 0) p 6

/-- CLAMP_UHLUX_PORT (R560): acts as UX_CFG.enable 0; requests under way end in `uxCheck`. -/
def onClampUhluxPort (p : Fin 2) (set : Bool) (s : Mach) : Mach :=
  let b := 8 + p.val
  if set = bitAt (s.n CT_CLAMP) b then s
  else if set then clampSet s b else s.setF ⟨CT_CLAMP, b, 1⟩ 0

/-- CLAMP_DRAM (R560): DRAM is unreachable until the clamp is released and the controller has trained again. -/
def onClampDram (set : Bool) (s : Mach) : Mach :=
  if set = s.b CT_CLAMP_dram then s
  else if set then
    let s := (clampSet s 10).setF JN_STATUS_dram_ok 0
    if twinFailing s then twinGiveUp s else s
  else s.setF CT_CLAMP_dram 0

/-- One mover channel's descriptors end (R560): the running one with code 0x15, the others are removed and counted. -/
def moverClear (s : Mach) (c : Nat) : Mach :=
  let x := s.mover c
  let run := x.run.isSome
  let n := x.q.length + x.late.length - b2n run
  let s := if run then
      let s := (s.setF (JN_MV_ERR_code c) 0x15).setF (JN_MV_ERR_done c) 0
      (s.logC 0x0E05 (Config.packDetail [c, 0x15, 0])).raise JN_EVENT_mv_err
    else s
  (s.setMover c {}).add (CT_CNT 3) n

/-- CLAMP_MOVERS (R560). -/
def onClampMovers (set : Bool) (s : Mach) : Mach :=
  if set = s.b CT_CLAMP_movers then s
  else if set then (keysFrom 0 8).foldl moverClear (clampSet s 11) else s.setF CT_CLAMP_movers 0

/-- CLAMP_TENON (R559). -/
def onClampTenon (set : Bool) (s : Mach) : Mach :=
  if set = s.b CT_CLAMP_tenon then s
  else if set then tenonDown (clampSet s 12) else s.setF CT_CLAMP_tenon 0

/-- R449: requests, acknowledge cycles and grants of an Uhlux port that is not enabled end; one that is gives the grant that is due (R432). -/
def uxCheck (s : Mach) : Mach :=
  (keysFrom 0 2).foldl (fun t p =>
    let x := t.uxp p
    if !uxEnabled t p && (!x.queue.isEmpty || x.cur.isSome || x.iack.isSome || x.bgOut) then uxStop t p 0x0D05 else busGrant t p) s

/-! ### The error log -/

/-- Bytes of a log entry (Table 11-5). -/
def logBytes (e : LogEntry) : List Byte :=
  leBytes 8 e.tFail ++ leBytes 8 e.tAcc ++ leBytes 8 e.bseq ++ leBytes 8 (e.iaddr % 2 ^ 48)
    ++ leBytes 8 (match e.faddr with
                  | some a => a % 2 ^ 47 + 2 ^ 63
                  | none => 0)
    ++ leBytes 1 e.initiator ++ leBytes 1 e.plane ++ leBytes 2 e.cause ++ leBytes 2 e.att ++ leBytes 1 e.flags
    ++ leBytes 1 e.code ++ leBytes 2 (e.station % 2 ^ 14 + e.cls % 4 * 2 ^ 14) ++ leBytes 2 e.fseq ++ leBytes 4 e.rep
    ++ leBytes 8 e.detail

/-- The bytes at a position; zeros for an empty one. -/
def logAt (s : Mach) (pos : Nat) : List Byte :=
  match s.log.find? (fun x => x.1 == pos) with
  | some x => logBytes x.2
  | none => leBytes 64 0

/-- Word k of the entry at a position (CT_LOG_ENTRY). -/
def logWord (s : Mach) (pos k : Nat) : Nat := leNat (((logAt s pos).drop (8 * k)).take 8)

/-- ERROR_LOG_CLEAR (R564). -/
def onErrorLogClear (s : Mach) : Mach := { s.setN CT_LOG_STATUS 0 with log := [], folds := [] }

/-- PT_CLEAR_FIRST (R525). -/
def onPtClearFirst (s : Mach) : Mach := s.setF PT_FIRST_valid 0

/-! ### Self-test -/

/-- Show the code of a request. -/
def testCode (s : Mach) (c : Nat) : Mach := s.setF CT_TEST_STATUS_code c

/-- Begin a test. -/
def testRun (s : Mach) (r : TestRun) : Mach :=
  testCode ({ s with test := { s.test with run := some { r with at_ := s.cycles } } }.inc (CT_CNT 1)) 2

/-- The other port of the ring is up, and the ring is whole and not in single-direction mode (Table 17-4, 0xB). -/
def recalSafe (s : Mach) (p : Nat) : Bool :=
  !s.b (RG_RING_CFG_single_dir (p / 2)) &&   s.portUp (p / 2 * 2 + (1 - p % 2)) && s.f (RG_RING_STATUS_state (p / 2)) == 1

/-- R567, R569: a request whose turn has come begins or is refused. -/
def testStart (s : Mach) (r : TestRun) : Mach :=
  if r.kind = 0 then
    if s.b (EN_CL_CLAMP_clamp r.target) then testRun s r
    else if !r.migrate then testCode s 0x8
    else
      let c := migrateRefusal s r.target
      if c ≠ 0 then testCode (migrateRequest s r.target true) 0xA
      else migrateRequest (testRun s { r with moving := true }) r.target true
  else if recalSafe s r.target then testRun s r
  else testCode s 0xB

/-- R566: a write to CT_TEST_REQ. -/
def testRequest (s : Mach) (kind target : Nat) (migrate : Bool) : Mach :=
  if 2 ≤ kind ∨ (kind = 1 ∧ 8 ≤ target) then testCode s 0xC
  else
    let r : TestRun := { kind := kind, target := target, migrate := migrate }
    if s.test.run.isNone then testStart s r
    else if s.test.next.isSome then testCode s 0x9
    else (testCode { s with test := { s.test with next := some r } } 1).setF CT_TEST_STATUS_queued 1

/-- The held request follows the test that ended. -/
def testNext (s : Mach) : Mach :=
  let s := { s with test := { s.test with run := none } }
  match s.test.next with
  | some r => testStart ({ s with test := { s.test with next := none } }.setF CT_TEST_STATUS_queued 0) r
  | none => s

/-- SELF_TEST_CLUSTER_BIST: a request of kind 0. -/
def onSelfTestClusterBist (c : Fin 16) (migrate : Bool) (s : Mach) : Mach := testRequest s 0 c.val migrate

/-- SELF_TEST_RING_RECAL: a request of kind 1. -/
def onSelfTestRingRecal (p : Fin 16) (s : Mach) : Mach := testRequest s 1 p.val false

/-- MIGRATION_GRACE_EXPIRE (R221): abandoned; a BIST that waited for it is refused. -/
def onMigrationGraceExpire (s : Mach) : Mach :=
  let waits := match s.mig, s.test.run with
    | some m, some r => m.test && r.moving && m.phase == 1
    | _, _ => false
  let s := migrateAbandon s
  if waits then testNext (testCode s 0xA) else s

/-- A test has passed. -/
def testPass (s : Mach) : Mach := testNext ((testCode s 0x3).raise CT_EVENT_test_done)

/-- A test has failed. -/
def testFail (s : Mach) (kind target element : Nat) : Mach :=
  let s := ((testCode s 0x4).setF CT_TEST_STATUS_element element).inc (CT_CNT 2)
  let s := (s.logC 0x0F01 (Config.packDetail [kind, target, element])).raise CT_EVENT_test_fail
  testNext (s.raise CT_EVENT_test_done)

/-- BIST_DONE (R568): a cluster BIST ends 20 ms after it began. -/
def onBistDone (ok : Bool) (element : BitVec 8) (s : Mach) : Mach :=
  match s.test.run with
  | some r =>
    if r.kind = 0 ∧ ¬ r.moving then
      let s := s.upToC (r.at_ + 20000000)
      if ok then testPass (clusterUnclamp s r.target)
      else testFail { s with test := { s.test with bad := s.phys r.target :: s.test.bad } } 0 r.target element.toNat
    else s
  | none => s

/-- R569: at the first beat edge at least 2 µs after the request, the port's segment is failed, TC2 and TC3 move away and the
port goes down. -/
def recalEdge (s : Mach) : Mach :=
  match s.test.run with
  | some r =>
    if r.kind = 1 ∧ ¬ r.down ∧ r.at_ + 2000 ≤ s.cycles then
      let p := r.target
      let n := p / 2
      let j := if p % 2 = 0 then 1 else ringN s n + 1
      let s := segFail s n j false
      let s := reroute s n ((s.rst n).detect.filter (fun d => d.1 == j) ++ rerouteDue s n).eraseDups
      let s := portRefresh { s with test := { s.test with run := some { r with down := true, at_ := s.cycles } } } p 6
      s.setRst n { s.rst n with failed := (s.rst n).failed.filter (fun x => x != j), detect := (s.rst n).detect.filter (fun d => d.1 != j) }
    else s
  | none => s

/-- RECAL_DONE (R569): the port comes up again through Table 03-1. -/
def onRecalDone (s : Mach) : Mach :=
  match s.test.run with
  | some r =>
    if r.kind = 1 ∧ r.down then
      let s := s.upToC (r.at_ + 4000000)
      let s := portRefresh { s with test := { s.test with run := none } } r.target 6
      testPass s
    else s
  | none => s

end Sys2Proof.Machine
end

