-- ==== Sys2Proof/Machine/Dovetail.lean ====
section
/-!
DEFINITION. The dovetail link between the dies (18_dovetail_and_clock_crossings.md). Direction 0 is H-die to F-die, 1 F-die
to H-die.
-/
namespace Sys2Proof.Machine

/-- Link states (Table 18-4). -/
def dvDown : Nat := 0
/-- Training. -/
def dvTraining : Nat := 1
/-- Up. -/
def dvUp : Nat := 2
/-- Retrain. -/
def dvRetrain : Nat := 3

/-- Failed lanes of a direction (DV_LANE_MAP). -/
def dvLanes (d : Nat) : RF := if d = 0 then DV_LANE_MAP_h2f else DV_LANE_MAP_f2h
/-- Width of a direction. -/
def dvWidth (d : Nat) : RF := if d = 0 then DV_STATUS_width_h2f else DV_STATUS_width_f2h

/-- A loss of lock or training failure of a physical lane is counted. -/
def laneErr (s : Mach) (d l : Nat) : Mach := s.satF (DV_LANE_ERR_count (17 * d + l))

/-- The main link enters a state. -/
def dvEnter (s : Mach) (st : Nat) : Mach := { s.setF DV_STATUS_state st with dv := { s.dv with at_ := s.cycles } }

/-- R35: the H-die copy of fabric time runs on without correction. -/
def timeFree (s : Mach) : Mach := s.setF BT_STATUS_hdie_time_free 1

/-- The packets whose flits a direction holds for replay: those concerned when it discards them (R599). -/
def dvConcerned (s : Mach) (d : Nat) : List Nat := ((s.dvDir d).held.map (fun f => f.packet)).eraseDups

/-- R499, R599: a packet whose flits are lost with the link ends as if absorbed. -/
def dvEnd (s : Mach) (id : Nat) : Mach :=
  match s.noc.coming.find? (fun k => k.id == id), s.nocPacket id with
  | some k, _ =>
    nocEndPacket { dvForget s id with noc := { (dvForget s id).noc with coming := s.noc.coming.filter (fun x => x.id != id) } } k
  | none, some k => nocEndPacket (nocTake s id) k
  | none, none => s

/-- R599: both directions discard what they hold for replay, and start again with sequence number 0 and full credits; flits that were not
sent wait on. The receivers pass every flit on as it comes and hold none. The number discarded. -/
def dvClear (s : Mach) : Mach × Nat :=
  let n := (s.dvDir 0).held.length + (s.dvDir 1).held.length
  let gone := dvConcerned s 0 ++ dvConcerned s 1
  let s := (s.setDvDir 0 { queue := (s.dvDir 0).queue }).setDvDir 1 { queue := (s.dvDir 1).queue }
  ((gone.foldl dvEnd s).add (DV_CNT 5) n, n)

/-- Entry to down (R599, R600); training is due again after 100 µs. -/
def dvGoDown (s : Mach) : Mach :=
  let s := if s.dvState = dvUp then timeFree s else s
  let c := dvClear (dvEnter s dvDown)
  let s := ((c.1.setF DV_STATUS_width_h2f 0).setF DV_STATUS_width_f2h 0).logC 0x1003 c.2
  { s.raise DV_EVENT_down with dv := { s.dv with due := s.cycles + 100000 } }

/-- Entry to retrain with its trigger (R596, R600). -/
def dvGoRetrain (s : Mach) (trigger : Nat) : Mach :=
  if s.dvState = dvUp then
    let s := dvEnter (timeFree s) dvRetrain
    ((s.inc (DV_CNT 4)).raise DV_EVENT_retrain).logC 0x1001 trigger
  else s

/-! ### Lanes -/

/-- The active physical lanes of a direction: the first 16, or at half width the first 8, that are not marked failed
(R597): logical lane i is the i-th of them. -/
def dvActive (s : Mach) (d : Nat) : List Nat :=
  ((keysFrom 0 17).filter (fun l => !bitAt (s.f (dvLanes d)) l)).take (if s.f (dvWidth d) = 1 then 8 else 16)

/-- The bits of a flit that noise on the physical lanes changes, 40 bits of noise a lane: a logical lane carries 20 bits of the flit at full
width and 40 at half width (R589). The noise is that of the bits after descrambling. -/
def laneNoise (w : Nat) : List Nat → Nat → Nat → Nat
  | [], _, _ => 0
  | l :: t, i, noise => (noise / 2 ^ (40 * l)) % 2 ^ w * 2 ^ (w * i) + laneNoise w t (i + 1) noise

/-! ### Flits -/

/-- A flit on the link (Table 18-2). -/
structure DvBits where
  kind : Nat
  vn : Nat := 0
  urgent : Nat := 0
  seq : Nat := 0
  ack : Nat := 0
  cch : Nat := 0
  credits : Nat := 0
  payload : Nat := 0
deriving DecidableEq, Repr

/-- Flit bits [319:16]. -/
def DvBits.body (f : DvBits) : Nat :=
  f.kind * 2 ^ 300 + f.vn * 2 ^ 298 + f.urgent * 2 ^ 297 + f.seq * 2 ^ 288 + f.ack * 2 ^ 280 + f.cch * 2 ^ 277 + f.credits * 2 ^ 272 +
  f.payload

/-- The CRC of flit bits [319:16] (R590). -/
def dvCrc (body : Nat) : BitVec 16 := (beBytes 38 body).foldl crc16 0xFFFF#16

/-- The 320 bits of a flit. -/
def DvBits.wire (f : DvBits) : BitVec 320 := BitVec.ofNat 320 (f.body * 2 ^ 16 + (dvCrc f.body).toNat)

/-- Bits [hi:lo] of a flit, w of them. -/
def dvField (x : BitVec 320) (lo w : Nat) : Nat := x.toNat / 2 ^ lo % 2 ^ w

/-- The fields of a received flit. -/
def dvParse (x : BitVec 320) : DvBits :=
  { kind := dvField x 316 4, vn := dvField x 314 2, urgent := dvField x 313 1, seq := dvField x 304 8, ack := dvField x 296 8,
    cch := dvField x 293 3, credits := dvField x 288 5, payload := dvField x 16 256 }

/-- A received flit's CRC is good. -/
def dvGood (x : BitVec 320) : Bool := dvCrc (x.toNat / 2 ^ 16) == x.setWidth 16

/-- Credits of a channel: 8 flits for an urgent one, 64 for a normal one (R593). -/
def dvBuffer (ch : Nat) : Nat := if ch % 2 = 1 then 8 else 64

/-- The sender of a direction holds a credit for a channel. -/
def dvCredit (x : DvDir) (ch : Nat) : Bool := decide (mapGet (fun _ => 0) x.used ch < dvBuffer ch)

/-- The next new flit of a direction (R592 to R594): none while 64 are held; the first that waits on an urgent channel with a credit, else
on a normal one. -/
def dvNew (x : DvDir) : Option DvFlit :=
  if 64 ≤ x.held.length then none
  else
    match x.queue.find? (fun f => f.ch % 2 == 1 && dvCredit x f.ch) with
    | some f => some f
    | none => x.queue.find? (fun f => f.ch % 2 == 0 && dvCredit x f.ch && !x.queue.any (fun g => g.ch % 2 == 1 && dvCredit x g.ch))

/-- The fields that every flit of direction d carries: the ack of what its side received, and the credits of one channel, the lowest that has
any to return (log entry 75). The credits are then returned. -/
def dvCarry (s : Mach) (d : Nat) (f : DvBits) : Mach × DvBits :=
  let y := s.dvDir (1 - d)
  let f := { f with ack := (y.want + 255) % 256 }
  match y.freed with
  | [] => (s, f)
  | (ch, n) :: _ =>
    let c := satAt 31 n
    (s.setDvDir (1 - d) { y with freed := mapSet (fun _ => 0) y.freed ch (n - c) }, { f with cch := ch, credits := c })

/-- A noc flit as it is sent. -/
def DvFlit.bitsOf (f : DvFlit) : DvBits :=
  { kind := 1, vn := f.ch / 2, urgent := f.ch % 2, seq := f.seq, payload := f.bits.toNat }

/-- A held flit is sent again (R592): the replay goes on to the next. -/
def dvAgain (s : Mach) (d i : Nat) (start : Nat) (f : DvFlit) : Mach :=
  let x := s.dvDir d
  let next := match x.held[i + 1]? with
    | some g => some (start, g.seq)
    | none => none
  (s.setDvDir d { x with held := x.held.set i { f with sent := f.sent + 1 }, replay := next }).inc (DV_CNT 3)

/-- A new flit is sent: it is numbered, held and charged to its channel's credit (R592, R593). -/
def dvFirst (s : Mach) (d : Nat) (f : DvFlit) : Mach :=
  let x := s.dvDir d
  let u := mapGet (fun _ => 0) x.used f.ch
  (s.setDvDir d { x with next := (x.next + 1) % 256, held := x.held ++ [{ f with seq := x.next, sent := 1 }],
                         queue := x.queue.erase f, used := mapSet (fun _ => 0) x.used f.ch (u + 1) }).inc (DV_CNT 0)

/-- What the sender of a direction sends in one flit time: a nak that is due, the next flit of a replay, a new flit, idle. -/
def dvSend (s : Mach) (d : Nat) : Mach × DvBits :=
  let x := s.dvDir d
  let y := s.dvDir (1 - d)
  if y.nakDue then (s.setDvDir (1 - d) { y with nakDue := false }, { kind := 2, payload := y.want * 2 ^ 248 })
  else
    match x.replay with
    | some (start, q) =>
      (match x.held.findIdx? (fun f => f.seq == q) with
       | some i =>
         (match x.held[i]? with
          | some f => (dvAgain s d i start f, f.bitsOf)
          | none => (s, { kind := 0 }))
       | none => (s.setDvDir d { x with replay := none }, { kind := 0 }))
    | none =>
      match dvNew x with
      | some f => (dvFirst s d f, { f with seq := x.next }.bitsOf)
      | none => (s, { kind := 0 })

/-- An ack covers the held flits up to its number, in order (R592). -/
def ackHeld (l : List DvFlit) (ack : Nat) : List DvFlit :=
  match l.findIdx? (fun x => x.seq == ack) with
  | some i => l.drop (i + 1)
  | none => l

/-- The sender of a direction takes an ack and returned credits (R591 to R593). -/
def dvAck (s : Mach) (d : Nat) (f : DvBits) : Mach :=
  let x := s.dvDir d
  let held := ackHeld x.held f.ack
  let replay := match x.replay with
    | some (a, b) => if held.any (fun h => h.seq == b) then some (a, b) else none
    | none => none
  let u := mapGet (fun _ => 0) x.used f.cch
  s.setDvDir d { x with held := held, replay := replay, used := mapSet (fun _ => 0) x.used f.cch (u - f.credits) }

/-- The held flits from a sequence number on are to be sent again, in order (R592). -/
def dvResend (s : Mach) (d seq : Nat) : Mach :=
  let x := s.dvDir d
  if x.held.any (fun h => h.seq == seq) then s.setDvDir d { x with replay := some (seq, seq) } else s

/-- A nak reaches the sender of a direction: one that names a later seq than the replay in progress is ignored. -/
def dvNak (s : Mach) (d seq : Nat) : Mach :=
  let x := s.dvDir d
  let pos (q : Nat) : Nat := (x.held.findIdx? (fun h => h.seq == q)).getD x.held.length
  match x.replay with
  | some (a, _) => if pos a < pos seq then s else dvResend s d seq
  | none => dvResend s d seq

/-- A discarded flit: the first after an accepted one is answered by a nak that names the seq expected (R591). -/
def dvDiscard (s : Mach) (d : Nat) : Mach :=
  let x := s.dvDir d
  if x.nakOut then s else s.setDvDir d { x with nakOut := true, nakDue := true }

/-- A flit of a packet has crossed the link in a direction: it is passed on. A packet of the F-die that has crossed comes to its port
at router 5; one for the F-die has reached its target. -/
def dvPass (s : Mach) (d id : Nat) : Mach :=
  if d = 1 then
    match s.noc.coming.find? (fun k => k.id == id) with
    | none => s
    | some k =>
      if k.link ≤ 1 then nocArrive { s with noc := { s.noc with coming := s.noc.coming.filter (fun x => x.id != id) } } { k with link := 0 }
      else { s with noc := { s.noc with coming := mapWhere (fun x => x.id == id) (fun x => { x with link := x.link - 1 }) s.noc.coming } }
  else
    match s.nocPacket id with
    | none => s
    | some k =>
      let s := s.updPacket id (fun x => { x with link := x.link - 1 })
      if k.link ≤ 1 then nocPerform s k else s

/-- An accepted noc flit (R591, R593): its buffer is free at once. -/
def dvAccept (s : Mach) (d : Nat) (f : DvBits) : Mach :=
  let x := s.dvDir d
  let ch := f.vn * 2 + f.urgent
  let id := ((x.held.find? (fun h => h.seq == f.seq)).map (fun h => h.packet)).getD 0
  let s := s.setDvDir d { x with want := (x.want + 1) % 256, nakOut := false, nakDue := false,
                                 freed := mapSet (fun _ => 0) x.freed ch (mapGet (fun _ => 0) x.freed ch + 1) }
  dvPass (s.inc (DV_CNT 1)) d id

/-- The receiver of a direction takes 320 bits (R591). A flit of a reserved kind is discarded and counted as a CRC error (Table 18-3). -/
def dvTake (s : Mach) (d : Nat) (bits : BitVec 320) : Mach :=
  let f := dvParse bits
  let err (t : Mach) : Mach := { t.inc (DV_CNT 2) with dv := { t.dv with errs := t.dv.errs + 1 } }
  if !dvGood bits then dvDiscard (err s) d
  else
    let s := dvAck s (1 - d) f
    match f.kind with
    | 0 => s
    | 1 => if f.seq = (s.dvDir d).want then dvAccept s d f else dvDiscard s d
    | 2 => dvNak s (1 - d) (f.payload / 2 ^ 248)
    | 3 => dvGoRetrain s 4
    | _ => err s

/-- R596: a flit has now been sent for the fourth time without an ack that covers it. -/
def dvWorn (s : Mach) (d : Nat) : Bool := (s.dvDir d).held.any (fun f => decide (4 ≤ f.sent))

/-- DOVETAIL_FLIT_RECEIVE (R589 to R594): one flit time of direction d: its sender sends a flit, and its receiver takes it with the bits
changed that `noise` gives per physical lane. -/
def onDovetailFlitReceive (d : Fin 2) (noise : BitVec 680) (s : Mach) : Mach :=
  let d := d.val
  if s.dvState ≠ dvUp then s
  else
    let w := if s.f (dvWidth d) = 1 then 40 else 20
    let x := BitVec.ofNat 320 (laneNoise w (dvActive s d) 0 noise.toNat)
    let p := dvSend s d
    let q := dvCarry p.1 d p.2
    let s := dvTake q.1 d (q.2.wire ^^^ x)
    if dvWorn s d then dvGoRetrain s 2 else s

/-! ### Lanes, training, retraining -/

/-- DOVETAIL_LANE_LOCK_LOSS (R596). -/
def onDovetailLaneLockLoss (d : Fin 2) (lane : Fin 17) (s : Mach) : Mach :=
  if s.dvState = dvUp ∧ (dvActive s d).contains lane.val then dvGoRetrain (laneErr s d lane) 1 else s

/-- DOVETAIL_ERROR_RATE_CHECK (R596): the end of one ms. -/
def onDovetailErrorRateCheck (s : Mach) : Mach :=
  let lim := if s.f DV_CFG_err_thresh = 0 then 1 else s.f DV_CFG_err_thresh
  let n := s.dv.errs
  let s := { s with dv := { s.dv with errs := 0 } }
  if lim < n then dvGoRetrain s 3 else s

/-- Lanes that do not lock are marked failed, with cause 0x1002 for each newly marked one (R597, R600). -/
def dvMark (s : Mach) (d : Nat) (bad : BitVec 17) : Mach :=
  (keysFrom 0 17).foldl (fun t l =>
    if bitAt bad.toNat l then
      let t := laneErr t d l
      if bitAt (t.f (dvLanes d)) l then t
      else
        let m := t.f (dvLanes d) + 2 ^ l
        ((t.setF (dvLanes d) m).raise DV_EVENT_spared).logC 0x1002 (Config.packDetail [d, l])
    else t) s

/-- The width a direction can run at: 2 full, 1 half, 0 none (R597). -/
def dvFit (s : Mach) (d : Nat) : Nat :=
  let n := ((keysFrom 0 17).filter (fun l => !bitAt (s.f (dvLanes d)) l)).length
  if 16 ≤ n then 2 else if 8 ≤ n ∧ s.b DV_CFG_half_en then 1 else 0

/-- A direction takes its width; the start of half width is logged (R600). -/
def dvSetWidth (s : Mach) (d : Nat) : Mach :=
  let w := dvFit s d
  let s' := s.setF (dvWidth d) w
  if w = 1 ∧ s.f (dvWidth d) ≠ 1 then (s'.raise DV_EVENT_half_width).logC 0x1004 d else s'

/-- Deliver the held items in the order in which they came (R610). -/
def heldDeliver : List Nat → List LogEntry → List EvRec → List Orphan → Mach → Mach
  | [], _, _, _, s => s
  | k :: t, ls, ps, os, s =>
    match k, ls, ps, os with
    | 0, e :: ls, ps, os => heldDeliver t ls ps os (logStore s none e)
    | 1, ls, r :: ps, os => heldDeliver t ls ps os (postEvent s r)
    | 2, ls, ps, o :: os => heldDeliver t ls ps os (orphanPut s o)
    | _, ls, ps, os => heldDeliver t ls ps os s

/-- What the F-die held while the link was not up is delivered, then what it could not hold is reported (R565, R610, Table
01-7, Table 11-10). -/
def dvDeliver (s : Mach) : Mach :=
  let lost := s.heldLogLost
  let gone := s.heldPostsLost
  let t := { s with heldLogs := [], heldLogLost := 0, heldPosts := [], heldPostsLost := 0, lateResp := [], dv := { s.dv with order := [] } }
  let s := heldDeliver s.dv.order s.heldLogs s.heldPosts s.lateResp t
  let s := if 0 < lost then (s.logC 0x0F02 lost).raise CT_EVENT_fdie_lost else s
  if 0 < gone then s.logC (0x0600 + Config.openCause 8 % 256) gone else s

/-- Training or a retrain has found the lanes that lock: up, or down (R597). -/
def dvFinish (s : Mach) (h2f f2h : BitVec 17) : Mach :=
  let s := if s.dv.unspare then { s.setN DV_LANE_MAP 0 with dv := { s.dv with unspare := false } } else s
  let s := dvMark (dvMark s 0 h2f) 1 f2h
  if dvFit s 0 = 0 ∨ dvFit s 1 = 0 then dvGoDown s
  else
    let s := dvEnter (dvSetWidth (dvSetWidth s 0) 1) dvUp
    releaseHeld (dvDeliver (s.raise DV_EVENT_up))

/-- R598: a direction resends from the first flit that no ack covers; its flits are counted from here as sent once. -/
def dvReplayAll (s : Mach) (d : Nat) : Mach :=
  let x := s.dvDir d
  match x.held with
  | h :: _ => dvResend (s.setDvDir d { x with held := x.held.map (fun y => { y with sent := 0 }) }) d h.seq
  | [] => s

/-- DOVETAIL_RETRAIN_DONE (R597, R598): lanes that did not lock per direction. -/
def onDovetailRetrainDone (h2f f2h : BitVec 17) (s : Mach) : Mach :=
  if s.dvState = dvRetrain then
    let s := dvFinish s h2f f2h
    if s.dvState = dvUp then dvReplayAll (dvReplayAll s 0) 1 else s
  else s

/-- DOVETAIL_RETRAIN_TIMEOUT (R595). -/
def onDovetailRetrainTimeout (s : Mach) : Mach := if s.dvState = dvRetrain then dvGoDown (s.upToC (s.dv.at_ + 2000)) else s

/-- Training starts. -/
def dvTrain (s : Mach) : Mach :=
  if s.dvState = dvDown ∧ s.b DV_STATUS_sb_up then dvEnter s dvTraining else s

/-- DOVETAIL_TRAINING_START (R595): every 100 µs in down. -/
def onDovetailTrainingStart (s : Mach) : Mach :=
  if s.dvState = dvDown ∧ s.b DV_STATUS_sb_up then dvTrain (s.upToC s.dv.due) else s

/-- DOVETAIL_TRAINING_DONE (R595, R597). -/
def onDovetailTrainingDone (h2f f2h : BitVec 17) (s : Mach) : Mach := if s.dvState = dvTraining then dvFinish s h2f f2h else s

/-- DOVETAIL_TRAINING_TIMEOUT (R595). -/
def onDovetailTrainingTimeout (s : Mach) : Mach := if s.dvState = dvTraining then dvGoDown (s.upToC (s.dv.at_ + 50000)) else s

/-- DOVETAIL_RETRAIN_REQUEST (R596, R610): in down, training starts at once. -/
def onDovetailRetrainRequest (s : Mach) : Mach := if s.dvState = dvDown then dvTrain s else dvGoRetrain s 5

/-- DOVETAIL_UNSPARE (R597). -/
def onDovetailUnspare (s : Mach) : Mach := { s with dv := { s.dv with unspare := true } }

/-- DIE_READY (R607): die 0 the H-die, 1 the F-die main domain, leaves reset; the crossings of a clock domain discard the data
they held. With both ready the main link trains. A die that is held in reset is not ready (R633, R645, R658). -/
def onDieReady (die : Fin 2) (dom : Fin 12) (entries : Nat) (s : Mach) : Mach :=
  if s.pw.hold || s.pw.held.contains (2 - die.val) then s else
  let s := if die = 0 then { s with hReset := false, dv := { s.dv with readyH := true } }
           else { s with dv := { s.dv with readyF := true } }
  let s := s.setF DV_STATUS_sb_up (b2n (s.dv.readyH && s.dv.readyF))
  let s := ((s.add (DV_CNT 6) entries).raise DV_EVENT_xing_drop).logC 0x1005 (Config.packDetail [dom.val, entries])
  dvTrain s

/-! ### Clock domains (R602, R608, R609) -/

/-- The domain a block's registers lie in (Table 18-7, Table 01-2); PW_DIO acts with the F-die main domain
(Table 21-11). -/
def domainOf (off : Nat) : Nat :=
  if off / 4 * 4 = PW_DIO then 5 else
  match off / 0x100000 with
  | 0x01 => 5
  | 0x02 => 5
  | 0x03 => 5
  | 0x08 => 5
  | 0x09 => 5
  | 0x0D => 8
  | 0x11 => 9
  | 0x12 => 7
  | 0x13 => 9
  | _ => 0

/-- The domain of a register has no clock or is in reset; a clamp register acts at once all the same (R610). -/
def domainStopped (s : Mach) (off : Nat) : Bool := s.stopped.contains (domainOf off)

/-- A write is held: one value per register, the latest (R608). -/
def holdWrite (s : Mach) (master off n value : Nat) : Mach :=
  let rest := s.heldWrites.filter (fun w => w.1 != off)
  let s := { s with heldWrites := rest ++ [(off, master, n, value)] }
  s.setF ⟨DV_CLK_STATUS, 32 + domainOf off, 1⟩ 1

/-- Domains lose their clock or enter reset. -/
def stopDomains (s : Mach) (l : List Nat) : Mach :=
  l.foldl (fun t b =>
    { ((t.setF ⟨DV_CLK_STATUS, b, 1⟩ 0).setF ⟨DV_CLK_STATUS, 16 + b, 1⟩ 1) with
      stopped := if t.stopped.contains b then t.stopped else t.stopped ++ [b] }) s

/-- A domain has its clock again and is out of reset. -/
def startDomain (s : Mach) (b : Nat) : Mach :=
  let s := ((s.setF ⟨DV_CLK_STATUS, b, 1⟩ 1).setF ⟨DV_CLK_STATUS, 16 + b, 1⟩ 0).setF ⟨DV_CLK_STATUS, 32 + b, 1⟩ 0
  { s with stopped := s.stopped.filter (fun x => x != b) }

end Sys2Proof.Machine
end

