-- ==== Sys2Proof/Machine/Reset.lean ====
section
/-!
DEFINITION. The reset kinds of Table 20-1 and what each clears (R637 to R640, R671), and the start of the journal.
-/
namespace Sys2Proof.Machine

/-- The BAR0 block of a register key; tables beyond BAR0 belong to the block that indexes them. -/
def blockOf (k : Nat) : Nat :=
  if k < 0x100000000 then k / 0x100000
  else
    match k / 0x100000000 with
    | 1 => 0x03
    | 2 => 0x04
    | 3 => 0x06
    | 4 => 0x08
    | 5 => 0x05
    | 6 => 0x09
    | _ => 0x0B

/-- Registers and staging copies of some blocks return to their reset values. -/
def clearBlocks (s : Mach) (l : List Nat) : Mach :=
  { s with regs := s.regs.filter (fun x => !l.contains (blockOf x.1)),
           staged := s.staged.filter (fun x => !l.contains (blockOf x.1)) }

/-- The select registers of some units, and the halves held and latched for registers of some blocks, are as after reset (R8, R9). -/
def clearHalves (s : Mach) (sels blocks : List Nat) : Mach :=
  { s with sel := s.sel.filter (fun x => !sels.contains (x.1 % 16)),
           heldLo := s.heldLo.filter (fun x => !blocks.contains (x.2.1 / 0x100000)),
           latch := s.latch.filter (fun x => !blocks.contains (x.2.1 / 0x100000)) }

/-- The clusters of a held-off domain stay clamped (R633). -/
def clampHeld (s : Mach) : Mach :=
  if s.pw.held.contains 4 then
    (keysFrom 0 16).foldl (fun t c =>
      (clusterEngines c).foldl (fun u e => u.updEng e (fun x => { x with state := 7 })) (t.setF (EN_CL_CLAMP_clamp c) 1)) s
  else s

/-- What a test of the H-die leaves when that die is reset: a recalibration of a ring port runs on, and a cluster that failed its test stays
unfit for a spare (R568). -/
def testKeep (t : SelfTest) : SelfTest :=
  { run := t.run.filter (fun r => r.kind == 1), next := t.next.filter (fun r => r.kind == 1), bad := t.bad }

/-- A pending commit is discarded (R660). -/
def dropCommit (s : Mach) : Mach :=
  { s with committed := none, beat := { s.beat with commitAt := none, commitOff := false } }

/-- GL_RESET_CAUSE shows the latest reset (R640). -/
def resetCause (s : Mach) (kind source : Nat) : Mach :=
  (s.setF GL_RESET_CAUSE_kind kind).setF GL_RESET_CAUSE_source source

/-- R571, R572: TW_CFG.role takes effect; a reserved role is standby. -/
def roleStart (s : Mach) : Mach :=
  if s.f TW_CFG_role = 3 then
    let s := ((s.setF TW_STATUS_role 2).raise TW_EVENT_role_bad).logC 0x1207 3
    { s with twin := { s.twin with blind := true } }
  else s.setF TW_STATUS_role (s.f TW_CFG_role)

/-- Table 20-1, H-die reset: every H-die unit; the F-die runs on with the dovetail link down. -/
def hdieReset (s : Mach) (source : Nat) : Mach :=
  let s := if s.dvState = dvDown then s else dvGoDown s
  let s := { s.setF DV_STATUS_sb_up 0 with hReset := true, mpuClear := true, dv := { s.dv with readyH := false } }
  let own := [0x04, 0x05, 0x06, 0x07, 0x0A, 0x0B, 0x0E]
  let s := clearHalves (clearBlocks (dropCommit s) own) [2, 3, 4, 6] own
  let quiet (x : UxPort) : UxPort := { x with queue := [], cur := none }
  let s := { s with evSlots := [], evHeld := [], mxAcc := [], mxHeld := [], mxEpisode := false, pcie := { head := s.pcie.head },
                    scratch := [], csram := [], isram := [], portQ := [], engines := [], engBase := s.cycles, reqs := [], orphans := [],
                    noc := {}, dv := { s.dv with dirs := [] }, fenced := [], img := {}, movers := [], mvWords := [], jLatch := [], mig := none, test := testKeep s.test,
                    jq := [], jStarted := false, jDropBoot := 0, jDropNojrn := 0, jDropDis := 0, jDropFull := 0,
                    ux := s.ux.map (fun x => (x.1, quiet x.2)) }
  resetCause (stopDomains (clampHeld s) [0, 1, 2, 3]) 3 source

/-- Table 20-1, F-die main reset: every F-die main-domain unit; fabric time starts at 0 (R31), the general lines are not driven
(R671); the H-die's own copy of fabric time runs on, uncorrected (R35). -/
def fmainReset (s : Mach) (source : Nat) : Mach :=
  let s := if s.dvState = dvDown then s else dvGoDown s
  let s := { s.setF DV_STATUS_sb_up 0 with
             dv := { s.dv with readyF := false, order := [], dirs := s.dv.dirs.filter (fun x => x.1 == 0) },
             noc := { s.noc with coming := [] } }
  let cfg := s.r TW_CFG
  let role := s.f TW_STATUS_role
  let fenced := s.f TW_STATUS_fenced
  let h := s.hTime
  let own := [0x01, 0x02, 0x03, 0x08, 0x09, 0x0D, 0x12]
  let s := clearHalves (clearBlocks (dropCommit s) own) [0, 1, 5, 8] own
  let s := timeFree (((s.setR TW_CFG cfg).setF TW_STATUS_role role).setF TW_STATUS_fenced fenced)
  let s := { s.setF PW_DIO_oe 0 with
             now := 0, sub := 0, hSkew := Int.ofNat h, ring := {}, beat := {}, strike := {}, tocsin := {}, ux := [(0, { sysreset := none }), (1, { sysreset := none })],
             twin := { origin2 := s.twin.origin2, blind := s.twin.blind },
             heldLogs := [], heldLogLost := 0, heldPosts := [], heldPostsLost := 0, lateResp := [] }
  resetCause (stopDomains s [4, 5, 6, 7, 8]) 4 source

/-- The management controller holds both dies in reset (R645, R658). -/
def holdDies (s : Mach) : Mach :=
  let s := hdieReset (fmainReset s 0x60) 0x60
  { s with pw := { s.pw with hold := true } }

/-- Table 20-1, module reset: everything but the always-on domain, the stage and the non-volatile stores. A command of the
management controller under way ends with no response, and an update is interrupted (R653, R654). After a thermal shutdown the dies stay
held (R658). -/
def moduleReset (s : Mach) (source : Nat) : Mach :=
  let keep (x : Nat × U64) : Bool := blockOf x.1 == 0x11 || x.1 == TW_CFG
  let fresh : Mach := {}
  let s := { fresh with
             regs := s.regs.filter keep, freeCtr := s.freeCtr, out := s.out, nvLog := s.nvLog, shadow := s.shadow,
             cycles := s.cycles, engBase := s.cycles,
             pw := { s.pw with bootLog := some (2, source), upd := none, mbx := none, hold := false, failed := [] } }
  let s := clampHeld ((s.setF PW_DIO_oe 0).setF PW_MBX_STATUS_busy 0)
  let s := roleStart s
  resetCause (if s.pw.shutdown then holdDies s else s) 2 source

/-- Table 20-1, power-on reset: everything outside the stage and the non-volatile stores. -/
def powerOnReset (s : Mach) : Mach :=
  let keep (x : Nat × U64) : Bool := x.1 == PW_STAGE || x.1 == PW_FEED
  let fresh : Mach := {}
  let s := { fresh with
             regs := s.regs.filter keep, freeCtr := s.freeCtr, out := s.out, nvLog := s.nvLog,
             cycles := s.cycles, engBase := s.cycles,
             pw := { s.pw with bootLog := some (1, 0xFE), upd := none, mbx := none, hold := false, shutdown := false,
                               failed := [], held := [], step := 0 } }
  resetCause (roleStart s) 1 0xFE

/-- R638: one busy CWP slot's write ends with code 0x82, and its frames that wait are not sent. -/
def endCwp (s : Mach) (q : Req) : Mach :=
  match q.kind with
  | .cwp k =>
    let mine (t : TxFrame) : Bool :=
      match t.own with
      | some (b, _) => b == q.bseq
      | none => false
    let s := (keysFrom 0 8).foldl (fun t p => t.setRport p { t.rport p with tx := (t.rport p).tx.filter (fun x => !mine x) }) s
    cwpResult (s.dropReq q.bseq) k 0x82 q.bseq
  | _ => s

/-- R638: the endpoint reset, and nothing more. The model's bridge accepts posted host writes at once, so none is discarded. -/
def endpointReset (s : Mach) (source : Nat) : Mach :=
  let host (g : GateItem) : Bool := g.master == 0x40 && !g.write && g.post.isNone
  let s := { s with pcie := { head := s.pcie.head, bmeAt := (if s.pcie.bme then s.cycles else s.pcie.bmeAt) },
                    noc := { s.noc with waiting := s.noc.waiting.filter (fun g => !host g) },
                    mxAcc := [], mxHeld := [], mxEpisode := false }
  let s := (keysFrom 0 2048).foldl (fun t v => if t.b (MX_VCTRL_mask v) then t else t.setF (MX_VCTRL_mask v) 1) s
  let s := (keysFrom 0 32).foldl (fun t i => t.setN (MX_PBA i) 0) s
  let open_ (q : Req) : Bool :=
    match q.kind with
    | .hostRead _ => q.orphan.isNone
    | _ => false
  let s := { s with reqs := mapWhere open_ (fun q => { q with orphan := some 5 }) s.reqs }
  resetCause (s.reqs.foldl endCwp s) 5 source

/-- R550: the journal starts: its first entry is a gap of subtype 0. -/
def startJournal (s : Mach) : Mach :=
  let n := s.jDropBoot
  { s with jStarted := true, jDropBoot := 0 }.jpush s.now 0x3E (gapRest 0 n)

/-! ### Commands -/

/-- A reset asked for by register begins 10 µs after its write (R639). -/
def resetDelay (s : Mach) : Mach := s.upToC (s.cycles + 10000)

/-- GL_RESET_MODULE: the accepted request of a master. -/
def onGlResetModule (master : BitVec 7) (s : Mach) : Mach := moduleReset (resetDelay s) master.toNat

/-- GL_RESET_HDIE. -/
def onGlResetHdie (master : BitVec 7) (s : Mach) : Mach := hdieReset (resetDelay s) master.toNat

/-- A write to GL_RESET (R639): a wrong key is ignored and logged, and so is another kind. -/
def glResetWrite (s : Mach) (master v : Nat) : Mach :=
  if v / 0x10000 % 0x10000 ≠ 0xD1CE then (s.raise GL_EVENT_reset_key_bad).logC 0x0002 master
  else if v % 16 = 1 then moduleReset (resetDelay s) master
  else if v % 16 = 2 then hdieReset (resetDelay s) master
  else s.logC Config.resetKindCause (v % 16)

/-- PERST_ASSERT (R638, R667): the requester of an endpoint reset has no master ID: its source is a free value. -/
def endpointBy (s : Mach) : Mach :=
  let v := s.free
  endpointReset v.2 (v.1 % 256)

/-- PERST_ASSERT. -/
def onPerstAssert (s : Mach) : Mach := endpointBy s
/-- FLR: complete within 1 ms. -/
def onFlr (s : Mach) : Mach := endpointBy s
/-- PCIE_LINK_DOWN: hot reset or DL_Down. -/
def onPcieLinkDown (s : Mach) : Mach := endpointBy s

/-- JTAG_RESET: the reset instruction of the debug access port. -/
def onJtagReset (s : Mach) : Mach := moduleReset s 0x7E

/-- DRAM_TRAINING_DONE (R641 step 6, R559): training succeeds or fails; a clamped or held controller does not train. After an
H-die reset of a booted module the journal starts again. -/
def onDramTrainingDone (ok : Bool) (s : Mach) : Mach :=
  if s.dramOk || s.b CT_CLAMP_dram || s.hReset || s.pw.held.contains 3 then s
  else
    let s := (s.setF JN_STATUS_dram_ok (b2n ok)).setF GL_BOOT_STATUS_dram_fail (b2n (!ok))
    if s.b GL_BOOT_STATUS_done && !s.jStarted then startJournal s else s

end Sys2Proof.Machine
end

