-- ==== Sys2Proof/Machine/Power.lean ====
section
/-!
DEFINITION. The hot-swap stage, the power domains and the cages (19_power_and_hot_insertion.md). Times of the stage are on the
model's 1 GHz clock.
-/
namespace Sys2Proof.Machine

/-- Stage state (Table 19-2). -/
def Mach.stage (s : Mach) : Nat := s.f PW_STAGE_state

/-- A feed is valid: 0 A, 1 B. -/
def feedValid (s : Mach) (f : Nat) : Bool := s.b (if f = 0 then PW_STAGE_a_valid else PW_STAGE_b_valid)

/-- Some feed is valid. -/
def anyFeed (s : Mach) : Bool := feedValid s 0 || feedValid s 1

/-- An entry of plane 2. -/
def logPw (s : Mach) (cause detail : Nat) : Mach := s.logE { cause := cause, plane := 2, detail := detail }

/-- A fault of the stage, logged while the management controller is powered: from the end of precharge on (R617, R630). -/
def logStage (s : Mach) (cause detail : Nat) : Mach := if 3 ≤ s.stage ∧ s.stage ≤ 5 then logPw s cause detail else s

/-- The stage enters a state. -/
def stageTo (s : Mach) (st : Nat) : Mach := { s.setF PW_STAGE_state st with pw := { s.pw with at_ := s.cycles } }

/-- The fault timer's count now, in tenths of a ns of current limit (R619). -/
def faultCount (s : Mach) : Nat :=
  let d := s.cycles - s.pw.countAt
  if s.pw.limit then s.pw.count + 10 * d else s.pw.count - d

/-- The fault timer is reset. -/
def faultClear (s : Mach) : Mach := { s with pw := { s.pw with limit := false, count := 0, countAt := s.cycles, quiet := none } }

/-- Seating conditions: both SEAT pins seated, EN high, a valid feed (R616). -/
def mayStart2 (s : Mach) : Bool := s.pw.seat == 3 && s.pw.en && anyFeed s

/-- R616: off and seating follow the seating conditions. -/
def seatCheck (s : Mach) : Mach :=
  if s.stage = 0 ∧ mayStart2 s then stageTo s 1
  else if s.stage = 1 ∧ ¬ mayStart2 s then stageTo s 0
  else s

/-- The gate goes off: the converters stop, the always-on one excepted where `aon` says so (R624, R629), and the state behind the stage is
lost, as at the power-on reset that follows. -/
def gateOff (s : Mach) (st : Nat) (aon : Bool) : Mach :=
  let was := s.stage
  let s := stageTo (faultClear s) st
  let s := { s with pw := { s.pw with seen := false } }
  let s := if 4 ≤ was ∧ was ≤ 5 then (powerOnReset s).setR GL_RESET_CAUSE (s.r GL_RESET_CAUSE) else s
  { stopDomains s (if aon then keysFrom 0 9 else keysFrom 0 12) with hReset := true }

/-- R624: latch-off with a cause: the low byte and the count of latch-offs are non-volatile. Every converter stops, the management
controller's too, so that its entry is that of the next start (R628, R630). -/
def latchOff (s : Mach) (cause : Nat) : Mach :=
  let s := gateOff s 6 false
  let s := (s.setF PW_STAGE_latch_cause cause).setF PW_STAGE_latch_count (s.f PW_STAGE_latch_count + 1)
  { s with pw := { s.pw with latch := some cause, latches := s.pw.latches + 1 } }

/-- R625: the latch is cleared. -/
def latchClear (s : Mach) : Mach := seatCheck (stageTo s 0)

/-- R625: a SEAT pin open while a feed is valid clears a latch. -/
def latchSeat (s : Mach) : Mach := if s.stage = 6 ∧ s.pw.seat ≠ 3 ∧ anyFeed s then latchClear s else s

/-- R612: the valid feed with the higher voltage supplies the module. -/
def feedSelect (s : Mach) : Mach :=
  let b := feedValid s 1 && (!feedValid s 0 || decide (s.f PW_FEED_v_a < s.f PW_FEED_v_b))
  (s.setF PW_STAGE_b_sel (b2n b)).setF PW_STAGE_a_sel (b2n (feedValid s 0 && !b))

/-- FEED_VALID_CHANGE (R612, R613): feed f at a voltage in mV crosses a threshold. Where the limits of Table 19-1 leave the threshold open,
`valid` and `excess` say on which side of it the voltage lies. -/
def onFeedValidChange (f : Fin 2) (valid excess : Bool) (mv : BitVec 16) (s : Mach) : Mach :=
  let was := feedValid s f.val
  let excess := decide (62000 ≤ mv.toNat) && (excess || decide (64000 < mv.toNat))
  let ok := decide (8000 ≤ mv.toNat) && (valid || decide (8800 < mv.toNat)) && !excess
  let s := s.setF (if f.val = 0 then PW_FEED_v_a else PW_FEED_v_b) mv.toNat
  let s := feedSelect (s.setF (if f.val = 0 then PW_STAGE_a_valid else PW_STAGE_b_valid) (b2n ok))
  let s := { s with pw := { s.pw with noFeed := (if anyFeed s then none else some (s.pw.noFeed.getD s.cycles)) } }
  let s := if excess then logStage s 0x1107 f.val else s
  let s := if was && !ok && anyFeed s then logStage (if 3 ≤ s.stage ∧ s.stage ≤ 5 then s.raise PW_EVENT_feed_lost else s) 0x1106 f.val else s
  seatCheck (latchSeat s)

/-- R629: the removal record is written, once the always-on domain runs (R617), and the stage goes off. -/
def removal (s : Mach) : Mach :=
  let s := if 3 ≤ s.stage then nvKeep s ⟨1, s.now, s.n BT_BEAT_NUM, 0x1108, 0⟩ else s
  gateOff s 0 true

/-- SEAT_CHANGE (R616, R625, R629): SEAT pin A or B opens or closes. -/
def onSeatChange (pin : Fin 2) (closed : Bool) (s : Mach) : Mach :=
  let others := s.pw.seat - (if bitAt s.pw.seat pin.val then 2 ^ pin.val else 0)
  let s := { s with pw := { s.pw with seat := others + (if closed then 2 ^ pin.val else 0) } }
  if closed then seatCheck s
  else if s.stage = 6 then latchSeat s
  else if 2 ≤ s.stage then removal s
  else seatCheck s

/-- EN_CHANGE (R616, R625, R626). -/
def onEnChange (high : Bool) (s : Mach) : Mach :=
  seatCheck { s with pw := { s.pw with en := high, enLow := (if high then none else some (s.pw.enLow.getD s.cycles)) } }

/-- SEATING_DONE (R616). -/
def onSeatingDone (s : Mach) : Mach :=
  if s.stage = 1 ∧ mayStart2 s then stageTo (s.upToC (s.pw.at_ + 50000000)) 2 else s

/-- PRECHARGE_DONE (R617): the gate ramp starts, and the always-on converter. -/
def onPrechargeDone (s : Mach) : Mach := if s.stage = 2 then [9, 10, 11].foldl startDomain (stageTo s 3) else s

/-- PRECHARGE_TIMEOUT (R617). -/
def onPrechargeTimeout (s : Mach) : Mach := if s.stage = 2 then latchOff (s.upToC (s.pw.at_ + 150000000)) 0x1101 else s

/-- The start of the quiet window: when the fault timer is idle, or will be at its present rate (R622, R623). -/
def quietStart (s : Mach) : Option Nat := if s.pw.limit then none else some (s.cycles + faultCount s)

/-- GATE_FULLY_ON (R618). -/
def onGateFullyOn (s : Mach) : Mach :=
  if s.stage = 3 then
    let s := stageTo s 4
    { s with pw := { s.pw with quiet := quietStart s, seen := false } }
  else s

/-- CURRENT_LIMIT_CHANGE (R618, R619, R623): the fault timer counts; PG falls when it starts. -/
def onCurrentLimitChange (active : Bool) (s : Mach) : Mach :=
  if 3 ≤ s.stage ∧ s.stage ≤ 5 ∧ active ≠ s.pw.limit then
    let c := faultCount s
    let s := { s with pw := { s.pw with limit := active, count := c, countAt := s.cycles } }
    let s := { s with pw := { s.pw with quiet := (if s.stage = 3 then none else quietStart s) } }
    if active && s.stage == 5 then logPw (stageTo s 4) 0x1103 0 else s
  else s

/-- FAULT_TIMER_EXPIRE (R619). -/
def onFaultTimerExpire (s : Mach) : Mach :=
  if 3 ≤ s.stage ∧ s.stage ≤ 5 ∧ s.pw.limit then
    latchOff (s.upToC (s.cycles + (20000000 - faultCount s + 9) / 10)) 0x1102
  else s

/-- HARD_SHORT_TRIP (R620). -/
def onHardShortTrip (s : Mach) : Mach := if 3 ≤ s.stage ∧ s.stage ≤ 5 then latchOff s 0x1104 else s

/-- PG_QUIET_WINDOW_EXPIRE (R621, R622): PG asserts; its first assertion since the entry to on is a power-on reset and starts the
power-up of the domains, which have no clock yet (Table 19-4). -/
def onPgQuietWindowExpire (s : Mach) : Mach :=
  match s.pw.quiet with
  | some q =>
    if s.stage = 4 ∧ ¬ s.pw.limit then
      let s := stageTo (s.upToC (q + 10000000)) 5
      if s.pw.seen then s
      else
        let s := powerOnReset s
        { stopDomains s (keysFrom 0 9) with hReset := true, pw := { s.pw with seen := true, step := 1, pgAt := s.cycles } }
    else s
  | none => s

/-- EN_LATCH_CLEAR_TIMER (R625): EN low for t_en. -/
def onEnLatchClearTimer (s : Mach) : Mach :=
  match s.pw.enLow with
  | some t => if s.stage = 6 then latchClear (s.upToC (t + 100000000)) else s
  | none => s

/-- EN_OFF_TIMER (R626): EN low for t_enoff turns the stage off. -/
def onEnOffTimer (s : Mach) : Mach :=
  match s.pw.enLow with
  | some t => if s.stage ≠ 6 ∧ s.stage ≠ 0 then gateOff (s.upToC (t + 1000000)) 0 true else s
  | none => s

/-- NO_FEED_TIMEOUT (R627): no valid feed for 10 µs. -/
def onNoFeedTimeout (s : Mach) : Mach :=
  match s.pw.noFeed with
  | some t =>
    if 2 ≤ s.stage ∧ s.stage ≤ 5 then gateOff (settle (logStage (s.upToC (t + 10000)) 0x1105 0)) 0 false else s
  | none => s

/-! ### Domains (R631, R633) and cages (R632) -/

/-- The end of a power-up step after PG, in ns (Table 19-4). -/
def stepEnd (k : Nat) : Nat :=
  match k with
  | 1 => 2000000
  | 2 => 4000000
  | 3 => 6000000
  | 4 => 6000000
  | _ => 11000000

/-- DOMAIN_POWER_UP_STEP (R631): steps 1 to 6 of Table 19-4 take place in turn; at the last, resets are released. -/
def onDomainPowerUpStep (s : Mach) : Mach :=
  let k := s.pw.step
  if 1 ≤ k ∧ k ≤ 6 then
    let s := s.upToC (s.pw.pgAt + stepEnd k)
    let s := { s with pw := { s.pw with step := k + 1 } }
    let up (t : Mach) (l : List Nat) : Mach := l.foldl startDomain t
    match k with
    | 1 => if s.pw.held.contains 1 then s else up s [4, 5, 6, 7, 8]
    | 2 => if s.pw.held.contains 2 then s else up s [0, 1, 3]
    | 3 => if s.pw.held.contains 3 then s else up s [2]
    | _ => s
  else s

/-- A cage's switch is off (R632, R633). -/
def cageOff (s : Mach) (p : Nat) : Mach :=
  let s := portDown (noLock (s.raise (RG_PORT_EVENT_sfp_fault p)) p) p 5
  portRefresh (s.setRport p { s.rport p with txOff := true }) p 5

/-- SFP_CAGE_OVERLOAD (R632, R676): that cage alone, until its module is removed and one is inserted again. -/
def onSfpCageOverload (p : Fin 8) (s : Mach) : Mach := cageOff s p.val

/-- DOMAIN_CONVERTER_FAULT (R633): the domain of step 1 to 5 of Table 19-4 is held off. -/
def onDomainConverterFault (d : Fin 6) (s : Mach) : Mach :=
  let d := d.val
  let s := logPw s 0x1109 d
  let s := { s with pw := { s.pw with held := if s.pw.held.contains d then s.pw.held else s.pw.held ++ [d] } }
  match d with
  | 1 => fmainReset (settle s) 0xFE
  | 2 => hdieReset (settle s) 0xFE
  | 3 => s.setF JN_STATUS_dram_ok 0
  | 4 => (keysFrom 0 16).foldl (fun t c => if t.b (EN_CL_CLAMP_clamp c) then t else clusterClamp t c) s
  | 5 => (keysFrom 0 8).foldl cageOff s
  | _ => s

end Sys2Proof.Machine
end

