-- ==== Sys2Proof/Machine/Mgmt.lean ====
section
/-!
DEFINITION. Boot, signed firmware, and the management controller's commands, sensors and watchdog
(20_reset_boot_and_management.md). Transports: 0 management Ethernet, 1 SMBus, 2 the mailbox.
-/
namespace Sys2Proof.Machine

/-! ### Images (R643 to R647) -/

/-- A bank as it leaves the factory: its image verifies, with a slot its kind allows; the module firmware is release 3.2 (R1, log entry
14). -/
def bankDefault (k : Nat) : FwBank := { slot := if k / 2 = 3 then 2 else 0, version := if k / 2 = 2 then 0x0302 else 0 }

/-- Bank b of an image kind: 0 A, 1 B. -/
def Nv.bank (n : Nv) (kind b : Nat) : FwBank := mapGet bankDefault n.banks (kind * 2 + b)

/-- Replace it. -/
def Nv.setBank (n : Nv) (kind b : Nat) (x : FwBank) : Nv := { n with banks := mapSet bankDefault n.banks (kind * 2 + b) x }

/-- The rollback floor of a kind. -/
def Nv.floor (n : Nv) (kind : Nat) : Nat := mapGet (fun _ => 0) n.floors kind

/-- R646: the floor rises to a level that is above it, and never falls. -/
def Nv.raiseFloor (n : Nv) (kind level : Nat) : Nv :=
  if n.floor kind < level ∧ level ≤ 63 then { n with floors := mapSet (fun _ => 0) n.floors kind level } else n

/-- R647: a key slot is revoked for good. -/
def Nv.revoke (n : Nv) (slot : Nat) : Nv :=
  if n.revoked.contains slot then n else { n with revoked := n.revoked ++ [slot] }

/-- R644: the slots of a kind. -/
def slotAllowed (kind slot : Nat) : Bool := if kind = 3 then slot == 2 || slot == 3 else decide (slot < 2)

/-- The status of an image of a kind in a bank with its level and slot: 0 it may run, else Table 20-6. -/
def imageStatus (n : Nv) (kind : Nat) (x : FwBank) : Nat :=
  if 63 < x.level then 5
  else if x.level < n.floor kind then 6
  else if n.revoked.contains x.slot || !slotAllowed kind x.slot then 7
  else 0

/-- Bytes of an image at an offset, as a little-endian number. -/
def imgField (d : List Host.Cell) (off k : Nat) : Nat := leNat (mapRange memReset d off k)

/-- R643 of the image in an update bank: 0, or 5, 6 or 7 of Table 20-6. -/
def verifyStatus (n : Nv) (kind : Nat) (d : List Host.Cell) : Nat :=
  if imgField d 0 4 ≠ 0x4E4C4E47 ∨ imgField d 4 1 ≠ kind ∨ 0x800000 < imgField d 12 4 ∨ Config.imageGenuine d = false then 5
  else imageStatus n kind { level := imgField d 8 4, slot := imgField d 5 1 }

/-- R645: the bank a boot selects: of those that verify, the one with the higher version, A when equal. -/
def bootBank (n : Nv) (kind : Nat) : Option Nat :=
  let ok (b : Nat) : Bool := (n.bank kind b).valid && imageStatus n kind (n.bank kind b) == 0
  if ok 0 && ok 1 then some (if (n.bank kind 0).version < (n.bank kind 1).version then 1 else 0)
  else if ok 0 then some 0
  else if ok 1 then some 1
  else none

/-! ### Boot (R641, R645) -/

/-- Log entry of a bank that does not verify at boot. -/
def bootFail (n : Nv) (kind : Nat) (s : Mach) : Mach :=
  (keysFrom 0 2).foldl (fun t b =>
    let x := n.bank kind b
    logPw t 0x110D (Config.packDetail [kind, b, if x.valid then imageStatus n kind x else 5])) s

/-- The banks booted from, the firmware's release in GL_ID, and the IDs that the configuration image loads (R353). -/
def bootBanks (n : Nv) (s : Mach) : Mach :=
  let b (k : Nat) : Nat := (bootBank n k).getD 0
  let s := ((s.setF GL_BOOT_STATUS_bank_mc (b 1)).setF GL_BOOT_STATUS_bank_fw (b 2)).setF GL_BOOT_STATUS_bank_cfg (b 3)
  let s := s.setF GL_BOOT_STATUS_slot_cfg (n.bank 3 (b 3)).slot
  let v := (n.bank 2 (b 2)).version
  let head := { s.pcie.head with vendor := Config.pcieId 0, subVendor := Config.pcieId 1, subsystem := Config.pcieId 2 }
  { (s.setF GL_ID_fw_major (v / 256)).setF GL_ID_fw_minor v with pcie := { s.pcie with head := head } }

/-- R628, R640: the entries that wait for the log to exist again. -/
def bootLogs (s : Mach) : Mach :=
  let s := match s.pw.latch with
    | some c => s.push (.log none { cause := c, plane := 2, detail := s.pw.latches, tFail := 0 })
    | none => s
  let s := match s.pw.bootLog with
    | some (k, src) => s.logC 0x0001 (Config.packDetail [k, src])
    | none => s
  { s with pw := { s.pw with latch := none, latches := 0, bootLog := none } }

/-- BOOT_COMPLETE (R641, R642). -/
def onBootComplete (n : Nv) (s : Mach) : Mach :=
  if s.b GL_BOOT_STATUS_done || s.pw.hold then s
  else
    let bad := [1, 2, 3].filter (fun k => (bootBank n k).isNone)
    if bad.isEmpty then
      let s := (bootBanks n s).setF GL_BOOT_STATUS_done 1
      (bootLogs (startJournal s)).raise GL_EVENT_boot_done
    else
      let s := holdDies (settle (bad.foldl (fun t k => bootFail n k t) s))
      let s := s.setF GL_BOOT_STATUS_recovery (b2n (bad.contains 1))
      { s with pw := { s.pw with failed := bad } }

/-! ### Commands -/

/-- Codes of Table 20-5. -/
def mgmtCodes : List Nat := [0x01, 0x02, 0x03, 0x04, 0x05, 0x10, 0x11, 0x12, 0x20, 0x21, 0x30, 0x31, 0x32, 0x33, 0x40, 0x41]

/-- A response on a transport; the mailbox shows it in its registers (R657). -/
def mgmtReply (s : Mach) (t status : Nat) (data : List Byte) : Mach :=
  if t = 2 then
    let d := data.take 64
    let s := (keysFrom 0 8).foldl (fun s k => s.setN (PW_MBX_RSP k) (leNat ((d.drop (8 * k)).take 8))) s
    let s := ((s.setF PW_MBX_STATUS_status status).setF PW_MBX_STATUS_len d.length).setF PW_MBX_STATUS_busy 0
    { s with pw := { s.pw with mbx := none } }.raise PW_EVENT_mbx_done
  else s.emit (.answer t status data)

/-- A write to PW_MBX_CMD starts a command (R657); one written while another runs is answered with status 0x03 (R653). -/
def mbxWrite (s : Mach) (code : Nat) : Mach :=
  if s.pw.mbx.isSome then s.setF PW_MBX_STATUS_status 0x03
  else if mgmtCodes.contains code then
    { (s.setF PW_MBX_STATUS_busy 1).setF PW_MBX_STATUS_status 0 with pw := { s.pw with mbx := some code } }
  else mgmtReply s 2 0x01 []

/-- Both dies run (Table 20-6, 0x08). -/
def diesRun (s : Mach) : Bool := !s.hReset && !s.pw.hold && !s.stopped.contains 5

/-- Why a command is not run: not authenticated on Ethernet (mark A), or not served by the ROM recovery code (mark R). -/
def mgmtDeny (s : Mach) (t : Nat) (auth needA isR : Bool) : Option Nat :=
  if t = 0 ∧ needA ∧ ¬ auth then some 0x04
  else if s.b GL_BOOT_STATUS_recovery ∧ ¬ isR then some 0x08
  else none

/-- The mailbox runs the command its code names and no other. -/
def mgmtStarted (s : Mach) (t code : Nat) : Bool := t != 2 || decide (s.pw.mbx = some code)

/-- Run a command that answers with a status and data. -/
def mgmtRun (t : Fin 3) (auth : Bool) (code : Nat) (needA isR : Bool) (f : Mach → Mach × Nat × List Byte) (s : Mach) : Mach :=
  if mgmtStarted s t code then
    match mgmtDeny s t auth needA isR with
    | some e => mgmtReply s t e []
    | none =>
      let r := f s
      mgmtReply r.1 t r.2.1 r.2.2
  else s

/-- An argument: the mailbox's come from its registers, one for each in order (log entry 15). -/
def mgmtArg (s : Mach) (t : Fin 3) (k x : Nat) : Nat := if t.val = 2 then s.n (PW_MBX_ARG k) else x

/-- GET_ID. -/
def onGetId (t : Fin 3) (auth : Bool) (n : Nv) (s : Mach) : Mach :=
  let vs := [1, 2, 3].foldl (fun l k => l ++ leBytes 2 (n.bank k 0).version ++ leBytes 2 (n.bank k 1).version) []
  let fl := [1, 2, 3].foldl (fun l k => l ++ leBytes 1 (n.floor k)) []
  let rv := leBytes 1 (n.revoked.foldl (fun a x => Nat.lor a (2 ^ x)) 0)
  mgmtRun t auth 0x01 false true (fun s => (s, 0, leBytes 4 (s.n GL_ID) ++ leBytes 8 (s.n GL_SERIAL) ++ vs ++ fl ++ rv)) s

/-- The worst thermal level. -/
def worstLevel (s : Mach) : Nat :=
  (keysFrom 0 5).foldl (fun a i => if a < s.f (PW_TEMP_level i) then s.f (PW_TEMP_level i) else a) 0

/-- GET_HEALTH. -/
def onGetHealth (t : Fin 3) (auth : Bool) (s : Mach) : Mach :=
  mgmtRun t auth 0x02 false true (fun s =>
    (s, 0, leBytes 1 s.stage ++ leBytes 4 (s.n GL_BOOT_STATUS) ++ leBytes 4 (s.n DV_STATUS) ++ leBytes 8 (s.n CT_LOG_STATUS)
            ++ leBytes 8 (s.n TW_STATUS) ++ leBytes 1 (worstLevel s))) s

/-- GET_POWER. -/
def onGetPower (t : Fin 3) (auth : Bool) (s : Mach) : Mach :=
  mgmtRun t auth 0x03 false true (fun s => (s, 0, leBytes 4 (s.n PW_STAGE) ++ leBytes 8 (s.n PW_FEED))) s

/-- GET_THERMAL. -/
def onGetThermal (t : Fin 3) (auth : Bool) (s : Mach) : Mach :=
  mgmtRun t auth 0x04 false true (fun s => (s, 0, (keysFrom 0 5).foldl (fun l i => l ++ leBytes 4 (s.n (PW_TEMP i))) [])) s

/-- SET_THRESH (R658). -/
def onSetThresh (t : Fin 3) (auth : Bool) (sensor warn crit : BitVec 8) (s : Mach) : Mach :=
  mgmtRun t auth 0x05 true false (fun s =>
    let i := mgmtArg s t 0 sensor.toNat
    if 4 < i then (s, 0x02, [])
    else
      ((s.setF (PW_THRESH_warn i) (mgmtArg s t 1 warn.toNat)).setF (PW_THRESH_crit i) (mgmtArg s t 2 crit.toNat), 0, [])) s

/-- READ_LOG (R655): block 0x0F while the H-die runs, the shadow otherwise. -/
def onReadLog (t : Fin 3) (auth : Bool) (pos : BitVec 16) (s : Mach) : Mach :=
  mgmtRun t auth 0x10 false false (fun s =>
    let p := mgmtArg s t 0 pos.toNat
    if 1023 < p then (s, 0x02, [])
    else if s.hReset || s.pw.hold then
      (s, 0, match s.shadow.find? (fun x => x.1 == p) with
             | some x => logBytes x.2
             | none => leBytes 64 0)
    else (s, 0, logAt s p)) s

/-- CLEAR_LOG (R564). -/
def onClearLog (t : Fin 3) (auth : Bool) (s : Mach) : Mach :=
  mgmtRun t auth 0x11 true false (fun s => if diesRun s then (onErrorLogClear s, 0, []) else (s, 0x08, [])) s

/-- Bytes of a non-volatile record (log entry 15). -/
def nvBytes (r : NvRec) : List Byte :=
  leBytes 1 r.kind ++ leBytes 8 r.time ++ leBytes 4 r.beat ++ leBytes 2 r.cause ++ leBytes 8 r.detail

/-- READ_NVLOG (R655): records are indexed from the oldest kept. -/
def onReadNvlog (t : Fin 3) (auth : Bool) (index : BitVec 16) (s : Mach) : Mach :=
  mgmtRun t auth 0x12 false true (fun s =>
    match s.nvLog[mgmtArg s t 0 index.toNat]? with
    | some r => (s, 0, nvBytes r)
    | none => (s, 0x02, [])) s

/-- SELF_TEST (R656): a word as CT_TEST_REQ. -/
def onSelfTest (t : Fin 3) (auth : Bool) (req : BitVec 32) (s : Mach) : Mach :=
  mgmtRun t auth 0x20 true false (fun s =>
    let v := mgmtArg s t 0 req.toNat
    if diesRun s then
      let s := testRequest s (v / 32 % 8) (v % 16) (bitAt v 8)
      (s, 0, leBytes 1 (s.f CT_TEST_STATUS_code))
    else (s, 0x08, [])) s

/-- TEST_STATUS. -/
def onTestStatus (t : Fin 3) (auth : Bool) (s : Mach) : Mach :=
  mgmtRun t auth 0x21 false false (fun s => if diesRun s then (s, 0, leBytes 4 (s.n CT_TEST_STATUS)) else (s, 0x08, [])) s

/-- The bank the module booted from. -/
def bootedBank (s : Mach) (kind : Nat) : Nat :=
  match kind with
  | 1 => s.f GL_BOOT_STATUS_bank_mc
  | 2 => s.f GL_BOOT_STATUS_bank_fw
  | _ => s.f GL_BOOT_STATUS_bank_cfg

/-- A firmware command changes the store and the module. -/
def fwRun (t : Fin 3) (auth : Bool) (code : Nat) (f : Nv → Mach → Nv × Mach × Nat × List Byte) (n : Nv) (s : Mach) : Nv × Mach :=
  if mgmtStarted s t code then
    match mgmtDeny s t auth true true with
    | some e => (n, mgmtReply s t e [])
    | none =>
      let r := f n s
      (r.1, mgmtReply r.2.1 t r.2.2.1 r.2.2.2)
  else (n, s)

/-- FW_BEGIN (R654): the bank that did not boot is selected and marked invalid. -/
def onFwBegin (t : Fin 3) (auth : Bool) (kind : BitVec 8) (len : BitVec 32) (n : Nv) (s : Mach) : Nv × Mach :=
  fwRun t auth 0x30 (fun n s =>
    let k := mgmtArg s t 0 kind.toNat
    let l := mgmtArg s t 1 len.toNat
    if k < 1 ∨ 3 < k ∨ 0x800000 + 304 < l then (n, s, 0x02, [])
    else
      let b := 1 - bootedBank s k
      (n.setBank k b { valid := false }, { s with pw := { s.pw with upd := some { kind := k, bank := b, len := l } } }, 0, leBytes 1 b)) n s

/-- FW_DATA (R654): up to 4 KiB at an offset; the mailbox's payload lies in PW_MBX_BUF, its length in the second argument. -/
def onFwData (t : Fin 3) (auth : Bool) (off : BitVec 32) (data : List Byte) (n : Nv) (s : Mach) : Nv × Mach :=
  fwRun t auth 0x31 (fun n s =>
    let o := mgmtArg s t 0 off.toNat
    let d := if t.val = 2 then
        ((keysFrom 0 512).foldl (fun l i => l ++ leBytes 8 (s.n (PW_MBX_BUF i))) []).take (s.n (PW_MBX_ARG 1))
      else data
    match s.pw.upd with
    | some u =>
      if 4096 < d.length ∨ u.len < o + d.length ∨ (t.val = 2 ∧ 4096 < s.n (PW_MBX_ARG 1)) then (n, s, 0x02, [])
      else
        let x := n.bank u.kind u.bank
        (n.setBank u.kind u.bank { x with valid := false, data := mapSetRange memReset x.data o d },
         { s with pw := { s.pw with upd := some { u with verified := false } } }, 0, [])
    | none => (n, s, 0x02, [])) n s

/-- FW_VERIFY (R643, R654). -/
def onFwVerify (t : Fin 3) (auth : Bool) (n : Nv) (s : Mach) : Nv × Mach :=
  fwRun t auth 0x32 (fun n s =>
    match s.pw.upd with
    | some u =>
      let x := n.bank u.kind u.bank
      let c := verifyStatus n u.kind x.data
      if c = 0 then
        let y := { x with valid := true, version := imgField x.data 6 2, level := imgField x.data 8 4, slot := imgField x.data 5 1 }
        (n.setBank u.kind u.bank y,
         { s with pw := { s.pw with upd := some { u with verified := true } } }.raise PW_EVENT_fw_ready, 0, [])
      else (n, s, c, [])
    | none => (n, s, 0x05, [])) n s

/-- What an activation does to the floors and key slots (R646, R647): bit k of the body's first byte is the revoke flag of slot k,
which counts for the other slot of the signer's pair. -/
def activate (n : Nv) (kind : Nat) (x : FwBank) : Nv :=
  let other := if x.slot % 2 = 0 then x.slot + 1 else x.slot - 1
  let n := n.raiseFloor kind x.level
  if bitAt (imgField x.data 304 1) other then n.revoke other else n

/-- FW_ACTIVATE (R646, R647, R654); in recovery an image of a failed kind starts the boot again (R645). -/
def onFwActivate (t : Fin 3) (auth : Bool) (n : Nv) (s : Mach) : Nv × Mach :=
  let go := mgmtStarted s t 0x33 && (mgmtDeny s t auth true true).isNone
  let again := match s.pw.upd with
    | some u => go && u.verified && s.pw.failed.contains u.kind
    | none => false
  let r := fwRun t auth 0x33 (fun n s =>
    match s.pw.upd with
    | some u => if u.verified then (activate n u.kind (n.bank u.kind u.bank), s, 0, []) else (n, s, 0x05, [])
    | none => (n, s, 0x05, [])) n s
  if again then (r.1, moduleReset (settle r.2) 0xFC) else r

/-- The management controller restarts: its sessions and the mailbox are cleared; a mailbox command that ran shows status 0x08
(Table 20-8). -/
def mcReset (s : Mach) (source : Nat) : Mach :=
  let ran := s.pw.mbx.isSome
  let mbx (k : Nat) : Bool := decide (PW_MBX_CMD ≤ k) && decide (k < PW_DIO) || decide (PW_MBX_BUF 0 ≤ k) && decide (k < PW_MBX_BUF 512)
  let s := { s with regs := s.regs.filter (fun x => !mbx x.1), pw := { s.pw with mbx := none, upd := none } }
  resetCause (if ran then s.setF PW_MBX_STATUS_status 0x08 else s) 6 source

/-- A module reset by the management controller: after a thermal shutdown the dies are released only once every sensor is normal
(R658). -/
def mcModuleReset (s : Mach) : Mach :=
  moduleReset { s with pw := { s.pw with shutdown := s.pw.shutdown && worstLevel s != 0 } } 0x60

/-- MODULE_RESET: the answer is sent before the reset. -/
def onModuleReset (t : Fin 3) (auth : Bool) (kind : BitVec 8) (s : Mach) : Mach :=
  let k := mgmtArg s t 0 kind.toNat
  let go := mgmtStarted s t 0x40 && (mgmtDeny s t auth true true).isNone
  let s := settle (mgmtRun t auth 0x40 true true (fun s => if 1 ≤ k ∧ k ≤ 4 then (s, 0, []) else (s, 0x02, [])) s)
  if !go then s
  else
    match k with
    | 1 => mcModuleReset s
    | 2 => hdieReset s 0x60
    | 3 => fmainReset s 0x60
    | 4 => mcReset s 0x60
    | _ => s

/-- A write to CT_CLAMP: each unit's bit in turn (R559). -/
def ctClampWrite (s : Mach) (v : Nat) : Mach :=
  let s := (List.finRange 8).foldl (fun t p => onClampRingPort p (bitAt v p.val) t) s
  let s := (List.finRange 2).foldl (fun t p => onClampUhluxPort p (bitAt v (8 + p.val)) t) s
  onClampTenon (bitAt v 12) (onClampMovers (bitAt v 11) (onClampDram (bitAt v 10) s))

/-- SET_CLAMP (R559). -/
def onSetClamp (t : Fin 3) (auth : Bool) (v : BitVec 32) (s : Mach) : Mach :=
  mgmtRun t auth 0x41 true false (fun s =>
    if diesRun s then (ctClampWrite s (mgmtArg s t 0 v.toNat), 0, []) else (s, 0x08, [])) s

/-! ### Sensors and watchdog -/

/-- The level a sensor has from its temperature, in 1/256 °C, and its level before (R658): 5 °C of hysteresis on the way down. -/
def sensorLevel (warn crit shut : Nat) (temp : Int) (old : Nat) : Nat :=
  let crit := if shut ≤ crit then shut - 1 else crit
  let warn := if crit ≤ warn then crit - 1 else warn
  let at_ (k : Nat) : Int := Int.ofNat (match k with | 1 => warn | 2 => crit | _ => shut) * 256
  let on (k : Nat) : Bool := decide (at_ k ≤ temp) || (decide (k ≤ old) && decide (at_ k - 5 * 256 ≤ temp))
  if on 3 then 3 else if on 2 then 2 else if on 1 then 1 else 0

/-- One sensor's reading. -/
def sensorRead (i : Nat) (t : BitVec 16) (s : Mach) : Mach :=
  let old := s.f (PW_TEMP_level i)
  let new := sensorLevel (s.f (PW_THRESH_warn i)) (s.f (PW_THRESH_crit i)) (s.f (PW_THRESH_shutdown i)) (signed 16 t.toNat) old
  let s := (s.setF (PW_TEMP_temp i) t.toNat).setF (PW_TEMP_level i) new
  let d := Config.packDetail [i, t.toNat]
  let s := if old < 1 ∧ 1 ≤ new then logPw (s.raise PW_EVENT_thermal_warn) 0x110A d else s
  let s := if old < 2 ∧ 2 ≤ new then logPw (s.raise PW_EVENT_thermal_crit) 0x110B d else s
  if old < 3 ∧ new = 3 then logPw s 0x110C d else s

/-- SENSOR_POLL (R658): the five sensors; at the shutdown limit both dies are held in reset. -/
def onSensorPoll (t0 t1 t2 t3 t4 : BitVec 16) (s : Mach) : Mach :=
  let s := sensorRead 4 t4 (sensorRead 3 t3 (sensorRead 2 t2 (sensorRead 1 t1 (sensorRead 0 t0 s))))
  if worstLevel s = 3 ∧ ¬ s.pw.shutdown then
    let s := holdDies (settle s)
    { s with pw := { s.pw with shutdown := true } }
  else s

/-- MC_WATCHDOG_EXPIRE (R659). -/
def onMcWatchdogExpire (s : Mach) : Mach :=
  (logPw (mcReset s 0xFD) 0x110E 0).raise PW_EVENT_mc_wdog

end Sys2Proof.Machine
end

