-- ==== Sys2Proof/Machine/Edge.lean ====
section
/-!
DEFINITION. The beat edge (R50, R51), the commits applied there or while beats are off (R5, R15, R650), and what an applied set
changes at once in the units it configures.
-/
namespace Sys2Proof.Machine

/-! ### What an applied set changes at once -/

/-- A station entry after a commit (Table 04-2, Table 04-9, R140, R141, R685). -/
def stationEffect (old s : Mach) (k : Nat) : Mach :=
  let s := if s.stValid k = true ∧ s.f (ST_W1_hold_req k) = 1 then s
    else { s with ring := { s.ring with stopped := s.ring.stopped.filter (fun j => j != k) } }
  if !s.stValid k then
    if old.stValid k ∧ s.f (ST_W1_state k) ≠ 0 then stnAbsent s k else s
  else
    let st := s.f (ST_W1_state k)
    let hold := s.f (ST_W1_hold_req k)
    let s := if st = 3 ∧ hold = 1 then setStn s k 4 else if st = 4 ∧ hold = 0 then setStn s k 3 else s
    let fits := s.b (ST_W1_type_mismatch k) && s.f (ST_W1_type_id k) == ansType s k
    let s := if fits then s.setF (ST_W1_type_mismatch k) 0 else s
    let free := decide (st = 1) && old.ring.stopped.contains k && hold == 0
    let new := old.f (ST_W5_cfg_off k) != s.f (ST_W5_cfg_off k) || old.f (ST_W1_cfg_len k) != s.f (ST_W1_cfg_len k)
      || old.f (ST_W1_type_id k) != s.f (ST_W1_type_id k)
    let s := if fits || free then readopt s k
      else if new && s.ring.adopts.any (fun a => a.stn == k && decide (a.step < 6)) then
        { s with ring := { s.ring with redo := addTo s.ring.redo k } }
      else s
    let time := old.f (ST_W0_group k) != s.f (ST_W0_group k) || old.f (ST_W0_group_en k) != s.f (ST_W0_group_en k)
      || old.f (ST_W0_hold_limit k) != s.f (ST_W0_hold_limit k)
    if time && decide (2 ≤ st ∧ st ≤ 4) then adoptSend s { stn := k, step := 6 } else s

/-- A ring port after a commit: enabled or disabled, or with another FEC setting (R82, Table 03-12). -/
def portEffect (old s : Mach) (p : Nat) : Mach :=
  let s := portRefresh s p 6
  if old.f (RG_PORT_CFG_fec p) ≠ s.f (RG_PORT_CFG_fec p) then showFec (portDown (noLock s p) p 6) p else s

/-- The stations whose image layout a commit changed (Table 16-6). -/
def layoutChanged (old s : Mach) : List Nat :=
  s.stations.filter (fun k => old.f (ST_W6_in_off k) != s.f (ST_W6_in_off k) || old.f (ST_W6_out_off k) != s.f (ST_W6_out_off k)
    || old.f (ST_W5_in_size k) != s.f (ST_W5_in_size k) || old.f (ST_W5_out_size k) != s.f (ST_W5_out_size k))

/-- The values a primary mirrors after a commit (R574): every register with an RWS field that either set lists. -/
def appliedValues (old s : Mach) (m : List (Nat × U64)) : List (Nat × U64) :=
  if s.f TW_STATUS_role = 1 then
    ((((old.regs.map (fun p => p.1)) ++ (m.map (fun p => p.1))).eraseDups).filter (fun k => rwsMask k != 0)).map (fun k => (k, s.r k))
  else []

/-- Every unit takes its new configuration; `old` is the state before, `m` the set. -/
def commitEffects (old s : Mach) (m : List (Nat × U64)) : Mach :=
  let both := (old.stations ++ s.stations).eraseDups
  let s := both.foldl (stationEffect old) s
  let s := countStations s
  let s := (keysFrom 0 8).foldl (portEffect old) s
  let s := (keysFrom 0 4).foldl (fun t n => if ringN old n = ringN t n then t else reclass t n) s
  let s := routeWaits old s (s.stations.filter (fun k => (avoided s (s.stRing k)).isEmpty))
  let s := (keysFrom 0 16).foldl (fun t c =>
    if old.b (EN_CL_CTRL_gate_en c) && !t.b (EN_CL_CTRL_gate_en c) then wakeRelease t c else t) s
  let s := ((keysFrom 0 24).filter (fun r => old.r (NC_REG r) != s.r (NC_REG r))).foldl (nocRefit old) s
  let s := uxSweep (uxSweep s 0) 1
  { s with img := { s.img with changed := layoutChanged old s },
           tocsin := { s.tocsin with copies := [] },
           twin := { s.twin with applied := appliedValues old s m } }

/-- The staging point at an edge (R5, R15). Until then the NoC's regulators count by their old settings (R493). -/
def stagingPoint (s : Mach) (edge : Nat) : Mach :=
  let s := nocAdmit s
  match s.committed with
  | none => { s with img := { s.img with changed := [] } }
  | some m => commitEffects s (applyCommit s edge).1 m

/-- COMMIT_APPLY_BEATS_OFF (R650): a commit accepted with beat_en 0 is applied within 1 µs. -/
def onCommitApplyBeatsOff (s : Mach) : Mach :=
  if s.committed.isSome ∧ (s.beat.commitOff = true ∨ s.b BT_STATUS_beat_run = false) then
    let s := s.upTo (s.beat.commitAt.getD s.now)
    migrateStart (stagingPoint s s.beatNum)
  else s

/-- BEAT_STOP (R50): a write of 0 to BT_CTRL.beat_en; a migration that waits for an edge starts at once (R220). -/
def beatStopNow (s : Mach) : Mach := if s.b BT_CTRL_beat_en then migrateStart (onBeatStop s) else s

/-! ### The beat edge -/

/-- R67: what may be admitted to run, one at a time: a ring key with the direct station, in ascending order, or with the stations of a
tier-2 ring, in the place of its coupler. -/
def admitOrder (s : Mach) : List (Nat × List Nat) :=
  (s.stations.filter (fun k => s.f (ST_W0_tier k) == 0)).flatMap (fun k =>
    (s.stRing k, [k]) :: (keysFrom 0 4).map (fun i => (4 + k * 4 + i, keyStations s (4 + k * 4 + i))))

/-- R67, R140 for one of them at an edge: its configured stations that are not to be held run, all or none. -/
def admitUnit (s : Mach) (u : Nat × List Nat) : Mach :=
  let l := u.2.filter (fun k => s.f (ST_W1_state k) == 2 && s.f (ST_W1_hold_req k) == 0)
  if l.isEmpty then s
  else
    let told := l.all (fun k => s.b (ST_W1_lead_hold k) || s.ring.leadTold.contains k)
    let s := { s with ring := { s.ring with leadTold := s.ring.leadTold.filter (fun k => !l.contains k) } }
    if leadAdmits s u.1 l.length then l.foldl (fun t k => setStn (t.setF (ST_W1_lead_hold k) 0) k 3) s
    else
      let s := l.foldl (fun t k => t.setF (ST_W1_lead_hold k) 1) s
      if told then s else s.raise BT_EVENT_lead_exceeded

/-- A ring at an edge: its reroute (R150), its return to closed (R154), a suspended calibration (Table 02-11). -/
def ringEdge (s : Mach) (n : Nat) : Mach :=
  let s := reroute s n (rerouteDue s n)
  let h := if s.f (RG_RING_CFG_heal_beats n) = 0 then 1 else s.f (RG_RING_CFG_heal_beats n)
  let s := if s.b (RG_RING_STATUS_heal_wait n) && decide (h ≤ (s.rst n).heal) then ringClose s n else s
  calResume s n

/-- The TC0 budgets of the new beat (R24, R475, R476). -/
def budgetEdge (s : Mach) : Mach :=
  (keysFrom 0 8).foldl (fun t p => t.setRport p { t.rport p with tc0Flag := false, tc0Drop := false }) (s.setN TX_BUDGET 0)

/-- The log's folding of one beat ends; an isolation episode's goes on (R402, R526, R497). -/
def foldEdge (s : Mach) : Mach := { s with folds := s.folds.filter (fun x => x.1 / 0x1000000 == 0x0B) }

/-- The work of the units at an edge after the staging point. The budgets of R138 are renewed here alone, so that a budget which is spent
while no beats run stays spent until they start (DESIGN CHOICE, log 78). -/
def unitEdge (s : Mach) : Mach :=
  let s := budgetEdge (foldEdge s)
  let s := { s with ring := { s.ring with used := [] } }
  let s := if transitHop s then s else
    let s := (keysFrom 0 4).foldl ringEdge (prefEdge s)
    let s := (admitOrder s).foldl admitUnit s
    pushWaiting (adoptPump s)
  let s := noJournalEdge s
  twinEdge (recalEdge (migrateStart s))

/-- The strike: the beat number, the mirror pulse, and a new beat's phases (R51, R186); votes of a beat without a decision
serve no other (R171). -/
def strikeNow (s : Mach) : Mach :=
  let first := s.beat.starting
  let s := if first || s.strike.decided == some s.beatNum then s else { s with strike := { s.strike with yes := [], nay := [] } }
  let s := s.setN BT_BEAT_NUM (nextBeat s)
  let b : Beat := { s.beat with strike := s.now, starting := false, fired := [], done := [] }
  let silent := s.stations.map (fun k => (k, satAt 4 (mapGet (fun _ => 0) s.ring.silent k + 1)))
  mirrorAtStrike { s with beat := b, ring := { s.ring with silent := silent } } first

/-- The module's strike instant (R51): strike, staging point, the time of the next strike. -/
def beatEdge (s : Mach) : Mach :=
  let t := nextStrike s
  let s := strikeNow (s.upTo t)
  let s := stagingPoint s s.beatNum
  let s := s.setN BT_STRIKE_TIME (t + period s)
  unitEdge (imageStrike s)

/-- The final edge follows a strike whose downbeat was launched (R50). -/
def finalStrikes (s : Mach) : Bool := s.beat.launched == some (nextBeat s)

/-- BEAT_EDGE (R51). -/
def onBeatEdge (s : Mach) : Mach :=
  if s.b BT_STATUS_beat_run && !s.beat.final then beatEdge s else s

/-- FINAL_EDGE (R50): a full strike when its downbeat was launched, else the staging point alone; the beats have ended. -/
def onFinalEdge (s : Mach) : Mach :=
  if s.b BT_STATUS_beat_run && s.beat.final then
    let s := if finalStrikes s then beatEdge s else stagingPoint (s.upTo (nextStrike s)) s.beatNum
    let b : Beat := { s.beat with final := false, launched := none, content := none, starting := false }
    { s.setF BT_STATUS_beat_run 0 with beat := b }
  else s

end Sys2Proof.Machine
end

