-- ==== Sys2Proof/Machine/RegAccess.lean ====
section
/-!
DEFINITION. Register accesses: which register an offset reaches, what a read shows, what a write does (R2 to R10, R361, R362,
R499, R522, R573, R608, R609), for the host, the engines, the management controller and the debug access port.
-/
namespace Sys2Proof.Machine

/-- What an access gives back: the state; it was performed; it was absorbed (R497); it must wait (R406); the value read. -/
structure RegReply where
  m : Mach
  ok : Bool := true
  absorbed : Bool := false
  wait : Bool := false
  value : Nat := 0
deriving DecidableEq, Repr

/-! ### Which register an offset reaches -/

/-- A register as an access reaches it: its key, whether it has 64 bits, the upper half, the staging copy (R4). -/
structure RegAt where
  key : Nat
  wide : Bool
  up : Bool
  staged : Bool
deriving DecidableEq, Repr

/-- The card of a key. -/
def cardOf (k : Nat) : Option Card := findCard k (blockCards k)

/-- A master's select register (State.lean lists them). -/
def selGet (s : Mach) (master i : Nat) : Nat := mapGet (fun _ => 0) s.sel (master * 16 + i)
/-- Set it. -/
def selSet (s : Mach) (master i v : Nat) : Mach := { s with sel := mapSet (fun _ => 0) s.sel (master * 16 + i) v }

/-- The select registers by their keys, with their numbers. -/
def selNo (k : Nat) : Option Nat :=
  if k = ST_SEL then some 0 else if k = SK_GSEL then some 1 else if k = AT_SEL then some 2 else if k = BR_MSEL then some 3
  else if k = EV_SEL then some 4 else if k = TX_SEL then some 5 else if k = NC_STAT_SEL then some 6
  else if k = CT_LOG_SEL then some 7 else none

/-- A window of words 16 bytes apart onto a selected entry: first offset, words, select register and its index mask, key of the
word and stride of the entries. -/
structure Win where
  at_ : Nat
  words : Nat
  sel : Nat
  mask : Nat
  base : Nat
  stride : Nat
deriving DecidableEq, Repr

/-- The windows of staged tables. -/
def windows : List Win := [⟨0x300100, 8, 0, 0x4000, ST_W0 0, 0x80⟩, ⟨0x400100, 2, 2, 0x10000, AT_E0 0, 0x20⟩,
  ⟨0x501010, 4, 3, 0x100, BR_MCFG 0, 0x80⟩, ⟨0x600100, 2, 4, 0x10000, EV_E0 0, 0x20⟩, ⟨0x800100, 10, 5, 0x1000, TX_W0 0, 0x100⟩]

/-- The BAR0 offset of a register by its key: that of its window's word, or its own. -/
def barOffset (k : Nat) : Nat :=
  match windows.find? (fun w => w.base / 2 ^ 32 == k / 2 ^ 32 && decide (2 ^ 32 ≤ k)) with
  | some w => w.at_ + (k - w.base) % w.stride / 16 * 16
  | none => k

/-- The register that a window's word shows, by the offset within its 16 bytes. -/
def winReg (k r : Nat) : Option RegAt :=
  match cardOf k with
  | none => none
  | some c =>
    let wide := c.width == 64
    if (r % 8 = 4 ∧ ¬ wide) ∨ (8 ≤ r ∧ rwsMask k = 0) then none
    else some ⟨k, wide, decide (r % 8 = 4), decide (8 ≤ r)⟩

/-- The register at an offset with a card of its own, or the staging copy of the one 8 bytes below (R4). -/
def plainReg (off : Nat) : Option RegAt :=
  match cardOf off with
  | some c => some ⟨off, c.width == 64, false, false⟩
  | none =>
    let up (k : Nat) : Bool := off % 8 == 4 && decide (4 ≤ k) && (match cardOf (k - 4) with
                                                                 | some c => c.width == 64
                                                                 | none => false)
    if up off then some ⟨off - 4, true, true, false⟩
    else if 8 ≤ off ∧ rwsMask (off - 8) ≠ 0 then
      some ⟨off - 8, (match cardOf (off - 8) with
                      | some c => c.width == 64
                      | none => false), false, true⟩
    else if 8 ≤ off ∧ up (off - 8) = true ∧ rwsMask (off - 12) ≠ 0 then some ⟨off - 12, true, true, true⟩
    else none

/-- The register at a 4-byte aligned BAR0 offset, as a master sees it; none for a reserved one (R3, R362). -/
def regAt (s : Mach) (master off : Nat) : Option RegAt :=
  match windows.find? (fun w => decide (w.at_ ≤ off) && decide (off < w.at_ + 16 * w.words)) with
  | some w => winReg (w.base + w.stride * (selGet s master w.sel % w.mask) + (off - w.at_) / 16 * 16) ((off - w.at_) % 16)
  | none =>
    if off / 8 * 8 = 0x900038 then some ⟨SK_GINFO (selGet s master 1), true, decide (off % 8 = 4), false⟩
    else if 0xB00C10 ≤ off ∧ off < 0xB00C40 then
      some ⟨NC_ST_CNT (selGet s master 6) ((off - 0xB00C10) / 8), true, decide (off % 8 = 4), false⟩
    else if 0xB00C80 ≤ off ∧ off < 0xB00CA0 then some ⟨NC_ST_HIST (selGet s master 6) ((off - 0xB00C80) / 4), false, false, false⟩
    else if 0x1300000 ≤ off then none
    else plainReg off

/-! ### What a read shows -/

/-- An engine's registers that show its present state (Table 06-5, Table 06-11). -/
def engView (s : Mach) (e x key : Nat) : Nat :=
  let g := s.eng e
  let oldest := match g.rob with
    | r :: _ => (r.pc, r.snap.instret)
    | [] => (g.arch.pc, g.arch.instret)
  if x = 0x010 then oldest.1 * 2 ^ 16 + g.bindNo * 2 ^ 5 + g.level * 2 ^ 4 + g.state
  else if x = 0x038 then g.evq.length
  else if x = 0x310 then oldest.2
  else if x = 0x318 then s.n key + (if g.state = 3 ∨ g.state = 4 then s.cycles - g.actAt else 0)
  else if x = 0x320 then s.n key + (match g.stallAt with
    | some t => s.cycles - t
    | none => 0)
  else s.n key

/-- EN_CL_STATUS. -/
def clusterView (s : Mach) (c : Nat) : Nat :=
  let idle := (keysFrom 0 4).foldl (fun a i => a + (if (s.eng (4 * c + i)).state = 0 ∨ (s.eng (4 * c + i)).state = 2 then 2 ^ i else 0)) 0
  let p := (s.clPower c).1
  s.phys c * 2 ^ 16 + b2n (decide (p = 2 ∨ p = 3)) * 2 ^ 9 + b2n (s.b (EN_CL_CLAMP_clamp c)) * 2 ^ 8 + idle

/-- PW_DIO: a driven line shows its driven level (Table 21-5). -/
def dioView (s : Mach) : Nat :=
  let v := s.n PW_DIO
  let pps := if s.b BT_PPS_OUT_enable || s.beat.ppsLine then b2n s.beat.ppsLine else v % 2
  let mir := if s.b SK_MIRROR_enable || s.beat.mirrorEnd.isSome then
      b2n (s.beat.mirrorEnd.isSome != s.b SK_MIRROR_polarity) else v / 2 % 2
  let gen := (keysFrom 0 8).foldl (fun a j =>
    a + (if bitAt (s.f PW_DIO_oe) j then b2n (bitAt (s.f PW_DIO_out) j) else v / 2 ^ (8 + j) % 2) * 2 ^ (8 + j)) 0
  v / 2 ^ 16 * 2 ^ 16 + gen + v % 256 / 4 * 4 + mir * 2 + pps

/-- The present value of a register, with the fields the module computes. -/
def regView (s : Mach) (master key : Nat) : Nat :=
  match selNo key with
  | some i => selGet s master i
  | none =>
    if key = BT_TIME then s.now
    else if key = BT_TIME_SUB then selGet s master 8
    else if key = BT_HOLDOVER then (if s.f BT_STATUS_servo_state = 3 then (s.now - s.beat.holdAt) / 1000000000 else s.n key)
    else if 0xA00000 ≤ key ∧ key < 0xA10000 then engView s ((key - 0xA00000) / 0x400) (key % 0x400) key
    else if 0xA10000 ≤ key ∧ key < 0xA11000 ∧ key % 0x100 = 0x10 then clusterView s ((key - 0xA10000) / 0x100)
    else if key = BR_ORPH_COUNT then s.orphans.length
    else if BR_ORPH_ENTRY 0 ≤ key ∧ key < BR_ORPH_ENTRY 16 then orphanWord s ((key - BR_ORPH_ENTRY 0) / 8)
    else if JN_RD_ENTRY 0 0 ≤ key ∧ key < 0xE00300 ∧ key % 0x40 ≠ 0 then
      let r := (key - 0xE00200) / 0x40
      let k := (key % 0x40 - 0x10) / 8
      if k = 0 then (jReader s r).1.headD 0
      else (mapGet (fun _ => ([] : List Nat)) s.jLatch (master * 4 + r)).getD (k - 1) 0
    else if CT_LOG_ENTRY 0 ≤ key ∧ key < CT_LOG_ENTRY 8 then logWord s (selGet s master 7) ((key - CT_LOG_ENTRY 0) / 8)
    else if key = ST_ANS_TYPE then ansType s (selGet s master 0)
    else if key = PW_DIO then dioView s
    else s.n key

/-- The mask of a card's fields of the access types a test names. -/
def accMask (key : Nat) (p : Acc → Bool) : U64 :=
  match cardOf key with
  | some c => c.fields.foldl (fun m f => if p f.2.2 then m ||| fieldMask f.1 f.2.1 else m) 0
  | none => 0

/-- Fields of type WO read 0 (Table 00-1). -/
def readMask (key : Nat) : U64 := ~~~(accMask key (fun a => decide (a = .wo)))

/-- One read of a whole register, with what reading does: the reader port moves on (R551), BT_TIME latches its fraction for the master,
fields of type RC clear (R2). -/
def readWhole (s : Mach) (master : Nat) (a : RegAt) : Mach × Nat :=
  if a.staged then
    let w := rwsMask a.key
    (s, ((s.st a.key &&& w) ||| (s.r a.key &&& ~~~w)).toNat)
  else if a.key = BT_TIME then (selSet s master 8 s.sub, s.now)
  else if JN_RD_ENTRY 0 0 ≤ a.key ∧ a.key < 0xE00300 ∧ a.key % 0x40 = 0x10 then jReadWord s master ((a.key - 0xE00200) / 0x40)
  else
    let v := (BitVec.ofNat 64 (regView s master a.key) &&& readMask a.key).toNat
    let rc := accMask a.key (fun x => decide (x = .rc))
    (if rc = 0 then s else s.setR a.key (s.r a.key &&& ~~~rc), v)

/-- The BAR0 offset of the register of 64 bits that an access reaches, whatever entry its window shows: a write of a staging copy is
one of its register (R4). A held half and a latch belong to this register (R8, R9). -/
def pairId (off : Nat) (a : RegAt) : Nat := off - (if a.up then 4 else 0) - (if a.staged then 8 else 0)

/-- The same for the upper-half latch, where the staging copy reads as a register of its own (R9). -/
def latchId (off : Nat) (a : RegAt) : Nat := off - (if a.up then 4 else 0)

/-- A word of a buffer, which is no register of 64 bits: its halves are read and written each for itself (PW_MBX_BUF). -/
def bufWord (k : Nat) : Bool := decide (PW_MBX_BUF 0 ≤ k) && decide (k < PW_MBX_BUF 512)

/-- Latch the upper half for a master (R9). -/
def setLatch (s : Mach) (master id v : Nat) : Mach :=
  { s with latch := (master, id, v) :: s.latch.filter (fun x => x.1 != master) }

/-- A 4-byte read (R9). -/
def read4 (s : Mach) (master off : Nat) : Mach × Nat :=
  match regAt s master off with
  | none => (s, 0)
  | some a =>
    if a.up then
      match (if bufWord a.key then none else s.latch.find? (fun x => x.1 == master && x.2.1 == latchId off a)) with
      | some x => (s, x.2.2)
      | none => (s, (if a.staged then (readWhole s master a).2 else (BitVec.ofNat 64 (regView s master a.key) &&& readMask a.key).toNat) / 2 ^ 32)
    else
      let r := readWhole s master a
      if a.wide && !bufWord a.key then (setLatch r.1 master (latchId off a) (r.2 / 2 ^ 32), r.2 % 2 ^ 32) else (r.1, r.2 % 2 ^ 32)

/-- A read of 4 or 8 bytes. -/
def readN (s : Mach) (master off n : Nat) : Mach × Nat :=
  if n = 8 then
    match regAt s master off with
    | some a =>
      if a.wide && !a.up then readWhole s master a
      else
        let l := read4 s master off
        let h := read4 l.1 master (off + 4)
        (h.1, l.2 + h.2 * 2 ^ 32)
    | none =>
      let h := read4 s master (off + 4)
      (h.1, h.2 * 2 ^ 32)
  else read4 s master off

/-! ### What a write does -/

/-- The words of a locked region (R522). -/
def lockedReg (s : Mach) (key : Nat) : Bool :=
  if PT_RA 0 0 ≤ key ∧ key < PT_RA 128 0 then s.b (PT_RA_lock ((key - PT_RA 0 0) / 0x400) ((key - PT_RA 0 0) % 0x400 / 0x20)) else false

/-- A write to the RWS fields of a register lands in the staging copy and starts the checks (R2, R648). -/
def stageWrite (s : Mach) (key : Nat) (v mask : U64) : Mach :=
  let w := rwsMask key &&& mask
  let s := s.setSt key ((s.st key &&& ~~~w) ||| (v &&& w))
  { s with beat := { s.beat with checkDue := some (s.now + 20000) } }

/-- The plain part of a write: RW fields are set, ones clear RW1C bits (R2). -/
def plainWrite (s : Mach) (key : Nat) (v mask : U64) : Mach :=
  let rw := accMask key (fun a => decide (a = .rw)) &&& mask
  let c := accMask key (fun a => decide (a = .rw1c)) &&& mask
  s.setR key ((((s.r key) &&& ~~~rw) ||| (v &&& rw)) &&& ~~~(v &&& c))

/-- After a change of BT_SRC_CFG or BT_SRC_PRIO: a source that is off is disqualified, and the selection is made again (R41,
R42). -/
def sourceWrite (s : Mach) : Mach :=
  reselect ((keysFrom 1 4).foldl (fun t c => if srcOn t c then t else t.setSrc c { t.src c with good := 0, bad := 0, since := none }) s)

/-- Block 0x00. -/
def glWrite (s : Mach) (master key v : Nat) : Mach :=
  if key = GL_RESET then glResetWrite s master v
  else if key = GL_STAGE_COMMIT then stageCommit s master (v % 65536)
  else if key = GL_STAGE_DISCARD ∧ v % 2 = 1 then stageDiscard s
  else s

/-- Block 0x01: a step comes before the start of beats in one write (Table 02-11). -/
def btWrite (s : Mach) (key v : Nat) : Mach :=
  if key = BT_CTRL then
    let s := if bitAt v 1 then onTimeStep s else s
    if bitAt v 0 then onBeatStart s else beatStopNow s
  else if key = BT_CAL_CTRL then (if bitAt v 2 then onCalibrateRing (Fin.ofNat 4 v) s else s)
  else if key = BT_TOD_SECONDS then { s with beat := { s.beat with tod := some (s.n BT_TOD_SECONDS, s.now) } }
  else if key = BT_SRC_CFG ∨ key = BT_SRC_PRIO then sourceWrite s
  else s

/-- Block 0x03. -/
def stWrite (s : Mach) (key v : Nat) : Mach :=
  if key = ST_CLAMP_SET then onStClampSet (BitVec.ofNat 14 v) s
  else if key = ST_CLAMP_CLR then onStClampClr (BitVec.ofNat 14 v) s
  else if key = ST_ENUM_CTRL ∧ bitAt v 2 = true then onEnumStart (Fin.ofNat 4 v) s
  else s

/-- Block 0x05. -/
def brWrite (s : Mach) (key v : Nat) : Mach :=
  if BR_CWP_ADDR 0 ≤ key ∧ key < BR_CWP_ADDR 8 ∧ key % 0x40 = 0x10 ∧ v % 2 = 1 then onCwpGo (Fin.ofNat 8 ((key - BR_CWP_ADDR 0) / 0x40)) s
  else if key = BR_ORPH_POP ∧ v % 2 = 1 then onOrphanPop s
  else s

/-- Block 0x0A: a stop in the same write as a start comes after it (DESIGN CHOICE). -/
def enWrite (s : Mach) (key v : Nat) : Mach :=
  if 0xA00000 ≤ key ∧ key < 0xA10000 ∧ key % 0x400 = 0 then
    let e : Fin 64 := Fin.ofNat 64 ((key - 0xA00000) / 0x400)
    let s := if bitAt v 0 then onEngineStart e s else s
    if bitAt v 1 then onEngineStop e s else s
  else if EN_CL_CLAMP 0 ≤ key ∧ key < EN_CL_CLAMP 16 ∧ key % 0x100 = 0x18 then
    onClusterClamp (Fin.ofNat 16 ((key - 0xA10000) / 0x100)) (bitAt v 0) s
  else if key = EN_SPARE then
    (if s.test.bad.contains (s.phys (s.f EN_SPARE_cluster)) then s.setF EN_SPARE_valid 0 else s)
  else if key = EN_MIGRATE ∧ bitAt v 4 = true then onMigrateRequest (Fin.ofNat 16 v) s
  else s

/-- Block 0x0B. -/
def ncWrite (s : Mach) (key v : Nat) : Mach :=
  if NC_PORT_CTRL 0 ≤ key ∧ key < NC_PORT_CTRL 24 ∧ key % 0x10 = 0 then
    let r : Fin 24 := Fin.ofNat 24 ((key - NC_PORT_CTRL 0) / 0x10)
    let s := if bitAt v 0 then onNcPortIsolateWrite r s else s
    if bitAt v 1 then onNcPortRelease r s else s
  else s

/-- Block 0x0E. -/
def jnWrite (s : Mach) (master key : Nat) (v : U64) : Mach :=
  if key = JN_CTRL then jnCtrlWrite s v.toNat
  else if JN_RD_CUR 0 ≤ key ∧ key < JN_RD_CUR 4 ∧ key % 0x40 = 0 then onJournalCursorWrite (Fin.ofNat 4 ((key - JN_RD_CUR 0) / 0x40)) v s
  else if JN_MV_DESC 0 0 ≤ key ∧ key < JN_MV_DESC 8 0 ∧ key % 0x100 < 0x20 then
    let c := (key - JN_MV_DESC 0 0) / 0x100
    let k := key % 0x100 / 8
    if k = 3 then onMoverDescEnqueue (BitVec.ofNat 7 master) (Fin.ofNat 8 c) v s else mvHold s master c k v.toNat
  else s

/-- Block 0x0F. -/
def ctWrite (s : Mach) (key v : Nat) : Mach :=
  if key = CT_CLAMP then ctClampWrite s v
  else if key = CT_LOG_CTRL ∧ v % 2 = 1 then onErrorLogClear s
  else if key = CT_TEST_REQ then testRequest s (v / 32 % 8) (v % 16) (bitAt v 8)
  else s

/-- Block 0x10: an unspare in the same write serves the retrain. -/
def dvWrite (s : Mach) (key v : Nat) : Mach :=
  if key = DV_CTRL then
    let s := if bitAt v 1 then onDovetailUnspare s else s
    if bitAt v 0 then onDovetailRetrainRequest s else s
  else s

/-- Block 0x12. -/
def twWrite (s : Mach) (key v : Nat) : Mach :=
  if key = TW_CTRL then
    let s := if bitAt v 0 then onTwTakeover s else s
    if bitAt v 1 then onTwResign s else s
  else s

/-- Block 0x0D. -/
def uxWrite (s : Mach) (key v : Nat) : Mach :=
  let p : Fin 2 := Fin.ofNat 2 ((key - 0xD00000) / 0x1000)
  if key = UX_CTRL p.val ∧ v % 2 = 1 then onUhluxSysreset p s
  else if key = UX_SLOT p.val then onUxSlotReadmit p (BitVec.ofNat 16 (v / 65536)) s
  else if key = UX_IRQ_CFG p.val then iackStart s p.val
  else s

/-- A register whose RW fields are set by its own step and not before it. -/
def ownWrite (key : Nat) : Bool :=
  key == BT_CTRL || key == JN_CTRL || key == CT_CLAMP || (decide (JN_RD_CUR 0 ≤ key ∧ key < JN_RD_CUR 4) && key % 0x40 == 0)
    || (decide (0xA10000 ≤ key ∧ key < 0xA11000) && key % 0x100 == 0x18)

/-- Actions of a write beside its fields, by block; of a partial write only those whose field it covers act. -/
def writeAct (s : Mach) (master key : Nat) (v : U64) : Mach :=
  let x := v.toNat
  match key / 0x100000 with
  | 0x00 => glWrite s master key x
  | 0x01 => btWrite s key x
  | 0x03 => stWrite s key x
  | 0x05 => brWrite s key x
  | 0x07 =>
    if key < MX_PBA 0 ∧ key % 16 = 12 ∧ bitAt x 0 = false then onMsixUnmask (some (BitVec.ofNat 11 ((key - MX_ADDR 0) / 16))) s else s
  | 0x0A => enWrite s key x
  | 0x0B => ncWrite s key x
  | 0x0C => if key = PT_CTRL ∧ x % 2 = 1 then onPtClearFirst s else s
  | 0x0D => uxWrite s key x
  | 0x0E => jnWrite s master key v
  | 0x0F => ctWrite s key x
  | 0x10 => dvWrite s key x
  | 0x11 => if key = PW_MBX_CMD then mbxWrite s (x % 256) else s
  | 0x12 => twWrite s key x
  | _ => s

/-- One write of a register, of the bits in a mask (R2, R8, R522, R573). A 64-bit register written in part keeps its other
bits. -/
def regWrite (s : Mach) (master key : Nat) (v mask : U64) : Mach :=
  match selNo key with
  | some i => selSet s master i (v &&& accMask key (fun a => decide (a = .rw))).toNat
  | none =>
    if rwsMask key ≠ 0 ∧ s.standby = true ∧ master = 0x40 then
      (s.inc (TW_CNT 6)).logE { cause := 0x1206, initiator := master, detail := barOffset key }
    else if lockedReg s key then (s.raise PT_EVENT_lock_write).logE { cause := 0x0C07, initiator := master, detail := key }
    else
      let s := if rwsMask key = 0 then s else stageWrite s key v mask
      let s := if 0x700000000 ≤ key ∧ key < NC_ST_HIST 0 0 + 128 * 0x80 ∧ key % 0x80 = 0x20 then
          s.setR key ((s.r key &&& ~~~mask) ||| (v &&& mask))
        else if ownWrite key then s
        else plainWrite s key v mask
      let desc := decide (JN_MV_DESC 0 0 ≤ key ∧ key < JN_MV_DESC 8 0 ∧ key % 0x100 < 0x18)
      let old := if desc then
          BitVec.ofNat 64 (mapGet (fun _ => 0) s.mvWords ((master * 8 + (key - JN_MV_DESC 0 0) / 0x100) * 4 + key % 0x100 / 8))
        else s.r key
      let full := (old &&& ~~~mask) ||| (v &&& mask)
      let s := writeAct s master key (if ownWrite key || desc then full else v &&& mask)
      let next (i n : Nat) : Mach :=
        let x := selGet s master i
        if mask = ~~~0 ∧ bitAt x 31 = true then selSet s master i (x / n * n + (x + 1) % n) else s
      if AT_E0 0 ≤ key ∧ key < AT_E0 65536 ∧ key % 0x20 = 0 then next 2 65536
      else if EV_E0 0 ≤ key ∧ key < EV_E0 65536 ∧ key % 0x20 = 0 then next 4 65536
      else s

/-- The bits of the lower, the upper half. -/
def loMask : U64 := BitVec.ofNat 64 0xFFFFFFFF
def hiMask : U64 := ~~~loMask

/-- A 4-byte write (R8): a lower half of a 64-bit register is held for its master until the upper half comes. -/
def write4 (s : Mach) (master off v : Nat) : Mach :=
  match regAt s master off with
  | none => s
  | some a =>
    let id := pairId off a
    if !a.wide then regWrite s master a.key (BitVec.ofNat 64 v) loMask
    else if bufWord a.key then
      (if a.up then regWrite s master a.key (BitVec.ofNat 64 (v * 2 ^ 32)) hiMask else regWrite s master a.key (BitVec.ofNat 64 v) loMask)
    else if !a.up then { s with heldLo := (master, id, v) :: s.heldLo.filter (fun x => !(x.1 == master && x.2.1 == id)) }
    else
      match s.heldLo.find? (fun x => x.1 == master && x.2.1 == id) with
      | some x =>
        let s := { s with heldLo := s.heldLo.filter (fun x => !(x.1 == master && x.2.1 == id)) }
        regWrite s master a.key (BitVec.ofNat 64 (x.2.2 + v * 2 ^ 32)) (~~~0)
      | none => regWrite s master a.key (BitVec.ofNat 64 (v * 2 ^ 32)) hiMask

/-- A write of 4 or 8 bytes. A whole 64-bit write leaves a lower half that its master holds for the register held (DESIGN CHOICE, log
73). -/
def writeN (s : Mach) (master off n v : Nat) : Mach :=
  if n = 8 then
    let half (t : Mach) : Mach := write4 (write4 t master off (v % 2 ^ 32)) master (off + 4) (v / 2 ^ 32)
    match regAt s master off with
    | some a => if a.wide && !a.up then regWrite s master a.key (BitVec.ofNat 64 v) (~~~0) else half s
    | none => half s
  else write4 s master off (v % 2 ^ 32)

/-! ### The way to a register -/

/-- A block whose registers lie on the F-die. -/
def fDieRegs (off : Nat) : Bool := fDieBlock (off / 0x100000) || off / 0x100000 == 0x11

/-- An access cannot reach its register: the hub's port, or the dovetail link's, does not pass it (R497, R499). The management
controller has its own sideband lane (Table 18-1). The router is 18 for the hub, 5 for the link. -/
def regBlocked (s : Mach) (master off : Nat) : Option Nat :=
  let f := fDieRegs off
  if master = 0x60 ∨ (fDieMaster master ∧ f) then none
  else if (f ∨ fDieMaster master) ∧ (s.dvState ≠ dvUp ∨ s.port 5 = 2) then some 5
  else if ¬ f ∧ s.port 18 = 2 then some 18
  else none

/-- The 4 µs limit of a packet at the dovetail port (R499); an isolated port answers at once. -/
def blockedTime (s : Mach) (r : Nat) : Mach := if r = 5 ∧ s.port 5 ≠ 2 then s.upToC (s.cycles + 4000) else s

/-- An access to an SRAM window by a master other than the host: the cluster is woken first (R495). -/
def windowReady (s : Mach) (w : Bool × Nat × Nat) : Mach :=
  let r := s.clRouter (windowCluster w)
  if s.port r = 0 ∨ s.port r = 2 then s else clusterWake s (windowCluster w)

/-- A read of n bytes of BAR0 by a master, the MPU's check done. -/
def busRead (s : Mach) (master off n : Nat) : RegReply :=
  match windowOf off with
  | some w =>
    if s.port (s.clRouter (windowCluster w)) = 2 then { m := s, ok := false }
    else { m := windowReady s w, value := leNat (windowRead s w n) }
  | none =>
    if 0x1300000 ≤ off then { m := s }
    else if ¬ ((n = 4 ∨ n = 8) ∧ off % n = 0) then { m := s, ok := false }
    else if BR_CWP_ADDR 0 ≤ off ∧ off < BR_CWP_ADDR 8 ∧ off % 0x40 = 0x18 ∧ s.b (BR_CWP_PEEK_busy ((off - BR_CWP_ADDR 0) / 0x40)) = true then
      { m := s, wait := true }
    else
      match regBlocked s master off with
      | some r => { m := blockedTime s r, ok := false }
      | none =>
        if domainStopped s off then
          match s.heldWrites.find? (fun x => x.1 == off) with
          | some x => { m := s, value := x.2.2.2 }
          | none => { m := s, value := ((regAt s master off).map (fun a => (regReset a.key).toNat / (if a.up then 2 ^ 32 else 1))).getD 0 % 2 ^ (8 * n) }
        else
          let r := readN s master off n
          { m := r.1, value := r.2 }

/-- A write of n bytes of BAR0 by a master, the MPU's check done. Clamps act though their domain's clock is stopped (R610). -/
def busWrite (s : Mach) (master off n value : Nat) : RegReply :=
  match windowOf off with
  | some w =>
    let r := s.clRouter (windowCluster w)
    if s.port r = 2 then { m := nocAbsorb s r master none, ok := false, absorbed := true }
    else { m := windowWrite (windowReady s w) master w (leBytes n value), ok := w.1 || isramOpen s w.2.1 }
  | none =>
    if 0x1300000 ≤ off then { m := s }
    else if ¬ ((n = 4 ∨ n = 8) ∧ off % n = 0) then { m := badBar0Write s master off, ok := false }
    else
      match regBlocked s master off with
      | some r => { m := nocAbsorb (blockedTime s r) r master none, ok := false, absorbed := true }
      | none =>
        if domainStopped s off ∧ off ≠ ST_CLAMP_SET ∧ off ≠ ST_CLAMP_CLR then { m := holdWrite s master off n value }
        else { m := uxCheck (settle (writeN s master off n value)) }

/-! ### The commands of the register access path -/

/-- REGISTER_WRITE (R2 to R10, R361, R508): n bytes, all enabled or not, by a master. -/
def onRegisterWrite (master : BitVec 7) (off : BitVec 26) (n : Nat) (enabled : Bool) (value : U64) (s : Mach) : Mach :=
  let m := master.toNat
  let o := off.toNat
  let v := value.toNat % 2 ^ (8 * n)
  if m = 0x40 ∧ barsOpen s = false then s
  else if (windowOf o).isNone ∧ (enabled = false ∨ ¬ ((n = 4 ∨ n = 8) ∧ o % n = 0)) then badBar0Write s m o
  else if n = 0 ∨ 8 < n then s
  else
    let c := mpuCheck s m true needW (0x40000000 + o) n
    if c.2.isSome then (if m = 0x40 then c.1.inc (BR_PERR_CNT 0x40) else c.1)
    else
      let r := busWrite c.1 m o n v
      if !r.ok && decide (m = 0x40) && (r.absorbed || (windowOf o).isNone) then r.m.inc (BR_PERR_CNT 0x40) else r.m

/-- A register read command: what it returns goes out; a denied read returns all-ones (R520). -/
def regReadOut (m o n : Nat) (s : Mach) : Mach :=
  if m = 0x40 ∧ barsOpen s = false then s
  else
    let c := mpuCheck s m true needR (0x40000000 + o) n
    if c.2.isSome then c.1.emit (.regRead m o (2 ^ (8 * n) - 1))
    else
      let r := busRead c.1 m o n
      if r.wait then s
      else if r.ok then r.m.emit (.regRead m o r.value) else r.m.emit (.regRead m o (2 ^ (8 * n) - 1))

/-- REGISTER_LOWER_HALF_READ (R9): a 4-byte read at an 8-byte aligned offset. -/
def onRegisterLowerHalfRead (master : BitVec 7) (word : BitVec 23) (s : Mach) : Mach := regReadOut master.toNat (word.toNat * 8) 4 s

/-- RC_FIELD_READ (R2): a 4-byte read; fields of type RC clear. No card of the manual has such a field. -/
def onRcFieldRead (master : BitVec 7) (word : BitVec 24) (s : Mach) : Mach := regReadOut master.toNat (word.toNat * 4) 4 s

/-- STAGING_CHECK_COMPLETE (R648). -/
def onStagingCheckComplete (s : Mach) : Mach :=
  match s.beat.checkDue with
  | some t => showChecks (s.upTo t)
  | none => s

/-- STAGE_COMMIT (R5, R649). -/
def onStageCommit (master : BitVec 7) (tag : BitVec 16) (s : Mach) : Mach := stageCommit s master.toNat tag.toNat

/-- STAGE_DISCARD (R651). -/
def onStageDiscard (s : Mach) : Mach := stageDiscard s

/-- CLOCK_DOMAIN_RESUME (R608): domain b has its clock again, and the values held for it come into effect. -/
def onClockDomainResume (b : Fin 12) (s : Mach) : Mach :=
  if s.stopped.contains b.val then
    let l := s.heldWrites.filter (fun x => domainOf x.1 == b.val)
    let s := startDomain { s with heldWrites := s.heldWrites.filter (fun x => domainOf x.1 != b.val) } b.val
    l.foldl (fun t x => writeN t x.2.1 x.1 x.2.2.1 x.2.2.2) s
  else s

end Sys2Proof.Machine
end

