-- ==== Sys2Proof/Machine/IsaMem.lean ====
section
/-!
DEFINITION. Loads, stores, pairs, LR, SC and the atomics (Table 07-9, Table 07-10), the drain of store buffers and
cluster port write queues (R329 to R333), and the barriers (R257 to R261).
-/
namespace Sys2Proof.Machine

/-! ### Loads -/

/-- The end of a load of ea that failed at its memory, at address at_: the fabric read error (R246, R554). -/
def loadError (s : Mach) (e ea at_ : Nat) : Mach :=
  match locate at_ with
  | .dram o => preciseException (if s.dramPoison (o / 8 * 8) 8 then logPoison s e o else s) e 0x08 ea
  | _ => preciseException s e 0x08 ea

/-- A device read of n bytes by engine e: the state, a code and the data; none while it must wait (R406). A pair is two reads, the lower
first (R244). -/
def devData (s : Mach) (e off n : Nat) : Option (Mach × Nat × List Byte) :=
  if n = 16 then
    if (busRead s e off 8).wait || (busRead s e (off + 8) 8).wait then none
    else
      let a := busRead s e off 8
      if !a.ok then some (a.m, 0x15, [])
      else
        let b := busRead a.m e (off + 8) 8
        some (b.m, (if b.ok then 0 else 0x15), leBytes 8 a.value ++ leBytes 8 b.value)
  else
    let r := busRead s e off n
    if r.wait then none else some (r.m, (if r.ok then 0 else 0x15), leBytes n r.value)

/-- The register block answers the engine's device load, when it has not yet. -/
def devAnswer (s : Mach) (e : Nat) : Mach :=
  let x := s.eng e
  match x.rob.find? (fun r => r.kind == 3 && r.resp.isNone && !x.inbox.any (fun b => b.1 == r.id)) with
  | none => s
  | some r =>
    let at_ := match r.half with
      | some (false, _) => r.ea + 8
      | _ => r.ea
    match devData s e (at_ - 0x40000000) r.n with
    | none => s
    | some (t, c, d) => t.updEng e (fun x => { x with inbox := x.inbox ++ [(r.id, c, d)] })

/-- R245: a device load issues once nothing before it can fault; its response comes with FABRIC_READ_RESPONSE. -/
def devIssue (s : Mach) (e d ea n : Nat) (sg pair : Bool) (half : Option (Bool × Nat)) : Mach :=
  let x := s.eng e
  let r : RobEntry := { id := x.robNext, pc := x.arch.pc, d := d, pair := pair, n := n, swap := 1, kind := 3, ea := ea,
                        bseq := 0xFFFFFFFFFFFFFFFF, sg := sg, at_ := s.now, half := half, snap := x.arch }
  devAnswer (s.setEng e { x.retire (x.arch.pc + 4) with robNext := x.robNext + 1, rob := x.rob ++ [r] }) e

/-- What a load of n bytes writes to its register. -/
def loadValue (n : Nat) (sg : Bool) (v : Nat) : U64 := if sg then sext64 (8 * n) v else BitVec.ofNat 64 v

/-- A load of n bytes at a + sext(imm16) by engine e. -/
def loadStep (e d a : Nat) (i : BitVec 16) (n : Nat) (sg : Bool) (s : Mach) : Mach :=
  let x := s.eng e
  if x.canIssue [d, a] then
    let ea := (x.get a + i.signExtend 64).toNat
    let c := accessCheck s e ea n needR false
    match c.2 with
    | some (v, ad) => if x.rob.isEmpty then settle (preciseException c.1 e v ad) else stall s e
    | none =>
      match locate ea with
      | .mirror _ => if x.rob.isEmpty && !x.devicePending then settle (devIssue s e d ea n sg false none) else stall s e
      | _ =>
        if dramFails s ea n then (if x.rob.isEmpty then settle (loadError s e ea ea) else stall s e)
        else retireEng s e (x.retireD d (loadValue n sg (leNat (engBytes s e ea n))))
  else stall s e

/-- LB: d = byte, sign-extended at a + sext(imm16) (R240). -/
def execLb (e : Fin 64) (d a : Fin 32) (i : BitVec 16) : State → Host.Outcome State Fault Refusal :=
  onI (.lb e d a i) e (loadStep e d a i 1 true)
/-- LBU: d = byte, zero-extended at a + sext(imm16) (R240). -/
def execLbu (e : Fin 64) (d a : Fin 32) (i : BitVec 16) : State → Host.Outcome State Fault Refusal :=
  onI (.lbu e d a i) e (loadStep e d a i 1 false)
/-- LH: d = 2 bytes, sign-extended at a + sext(imm16) (R240). -/
def execLh (e : Fin 64) (d a : Fin 32) (i : BitVec 16) : State → Host.Outcome State Fault Refusal :=
  onI (.lh e d a i) e (loadStep e d a i 2 true)
/-- LHU: d = 2 bytes, zero-extended at a + sext(imm16) (R240). -/
def execLhu (e : Fin 64) (d a : Fin 32) (i : BitVec 16) : State → Host.Outcome State Fault Refusal :=
  onI (.lhu e d a i) e (loadStep e d a i 2 false)
/-- LW: d = 4 bytes, sign-extended at a + sext(imm16) (R240). -/
def execLw (e : Fin 64) (d a : Fin 32) (i : BitVec 16) : State → Host.Outcome State Fault Refusal :=
  onI (.lw e d a i) e (loadStep e d a i 4 true)
/-- LWU: d = 4 bytes, zero-extended at a + sext(imm16) (R240). -/
def execLwu (e : Fin 64) (d a : Fin 32) (i : BitVec 16) : State → Host.Outcome State Fault Refusal :=
  onI (.lwu e d a i) e (loadStep e d a i 4 false)
/-- LD: d = 8 bytes at a + sext(imm16) (R240). -/
def execLd (e : Fin 64) (d a : Fin 32) (i : BitVec 16) : State → Host.Outcome State Fault Refusal :=
  onI (.ld e d a i) e (loadStep e d a i 8 false)

/-! ### Stores -/

/-- Store-buffer entries a store takes: two for an STP that one serialising point performs whole (R240). -/
def StoreEntry.slots (t : StoreEntry) : Nat := if t.kind = 0 ∧ 8 < t.data.length then 2 else 1

/-- Entries in use of a list of stores. -/
def slotsUsed (l : List StoreEntry) : Nat := l.foldl (fun n t => n + t.slots) 0

/-- Put a store into the store buffer and retire (R213); a full buffer holds the instruction back (R240). -/
def bufferStore (s : Mach) (e : Nat) (ts : List StoreEntry) : Mach :=
  let x := s.eng e
  if slotsUsed (x.sb ++ ts) ≤ 8 then retireEng s e (Engine.retire4 { x with sb := x.sb ++ ts }) else stall s e

/-- The store-buffer entry of a core store (R213). -/
def coreStore (x : Engine) (ea : Nat) (bs : List Byte) : StoreEntry :=
  { kind := (match locate ea with
             | .mirror _ => 1
             | _ => 0), addr := ea, data := bs, after := x.robNext, level := x.level }

/-- A store of n bytes of d. -/
def storeStep (e d a : Nat) (i : BitVec 16) (n : Nat) (s : Mach) : Mach :=
  let x := s.eng e
  if x.canIssue [d, a] then
    let ea := (x.get a + i.signExtend 64).toNat
    let c := accessCheck s e ea n needW false
    match c.2 with
    | some (v, ad) => if x.rob.isEmpty then settle (preciseException c.1 e v ad) else stall s e
    | none => bufferStore s e [coreStore x ea (leBytes n (x.get d).toNat)]
  else stall s e

/-- SB: store the low 1 byte of d at a + sext(imm16) (R240). -/
def execSb (e : Fin 64) (d a : Fin 32) (i : BitVec 16) : State → Host.Outcome State Fault Refusal :=
  onI (.sb e d a i) e (storeStep e d a i 1)
/-- SH: store the low 2 bytes of d at a + sext(imm16) (R240). -/
def execSh (e : Fin 64) (d a : Fin 32) (i : BitVec 16) : State → Host.Outcome State Fault Refusal :=
  onI (.sh e d a i) e (storeStep e d a i 2)
/-- SW: store the low 4 bytes of d at a + sext(imm16) (R240). -/
def execSw (e : Fin 64) (d a : Fin 32) (i : BitVec 16) : State → Host.Outcome State Fault Refusal :=
  onI (.sw e d a i) e (storeStep e d a i 4)
/-- SD: store the low 8 bytes of d at a + sext(imm16) (R240). -/
def execSd (e : Fin 64) (d a : Fin 32) (i : BitVec 16) : State → Host.Outcome State Fault Refusal :=
  onI (.sd e d a i) e (storeStep e d a i 8)

/-! ### Pairs -/

/-- The check of one 8-byte half of a pair: the state with its denial recorded, and the faulting address. -/
def halfCheck (s : Mach) (e : Nat) (sup : Bool) (need : Need) (h : Nat) : Mach × Option Nat :=
  if !coreRange h then (s, some h) else mpuCheck s e sup need h 8

/-- The range of Table 06-4 that an address lies in. -/
def rangeNo (a : Nat) : Nat :=
  match locate a with
  | .scratch _ => 0
  | .csram _ => 1
  | .mirror _ => 2
  | .dram _ => 3
  | .fabric _ => 4
  | .nowhere => 5

/-- A pair lies across the boundary of an MPU region or of a range (R249). -/
def straddles (s : Mach) (e : Nat) (sup : Bool) (ea : Nat) : Bool :=
  rangeNo ea != rangeNo (ea + 8) || (keysFrom 0 32).filter (regionHit s e sup ea) != (keysFrom 0 32).filter (regionHit s e sup (ea + 8))

/-- Both halves of a pair load are denied: those of a straddling pair read all-ones (R249). -/
def pairDenied (s : Mach) (e d ea f : Nat) : Mach :=
  let x := s.eng e
  let y := if straddles s e (x.level == 1) ea then (x.put d (BitVec.allOnes 64)).put (d + 1) (BitVec.allOnes 64) else x
  preciseException (s.setEng e y) e 0x07 f

/-- A pair load with one half allowed, at h, and the other denied at f: the allowed half is performed, the other register reads all-ones,
and the access fault follows (R249). `s` has the denial on record. -/
def halfLoad (s : Mach) (e d ea : Nat) (lo : Bool) (f : Nat) : Mach :=
  let h := if lo then ea else ea + 8
  match locate h with
  | .mirror _ => devIssue s e d ea 8 false false (some (lo, f))
  | _ =>
    let x := s.eng e
    let y := x.put (if lo then d + 1 else d) (BitVec.allOnes 64)
    let y := if dramFails s h 8 then y else y.put (if lo then d else d + 1) (BitVec.ofNat 64 (leNat (engBytes s e h 8)))
    preciseException (s.setEng e y) e 0x07 f

/-- Where a pair load of two allowed halves ends. -/
def pairLoad (s : Mach) (e d ea : Nat) : Mach :=
  let x := s.eng e
  match locate ea with
  | .mirror _ => if x.rob.isEmpty && !x.devicePending then settle (devIssue s e d ea 16 false true none) else stall s e
  | _ =>
    if dramFails s ea 8 || dramFails s (ea + 8) 8 then
      (if x.rob.isEmpty then settle (loadError s e ea (if dramFails s ea 8 then ea else ea + 8)) else stall s e)
    else
      let y := x.put d (BitVec.ofNat 64 (leNat (engBytes s e ea 8)))
      retireEng s e (y.retireD (d + 1) (BitVec.ofNat 64 (leNat (engBytes s e (ea + 8) 8))))

/-- LDP: d and d + 1 = 16 bytes at a + sext(imm16); an odd d is illegal (R242); R249 for halves that are denied. -/
def ldpStep (e d a : Nat) (i : BitVec 16) (s : Mach) : Mach :=
  let x := s.eng e
  if x.canIssue [d, d + 1, a] then
    let ea := (x.get a + i.signExtend 64).toNat
    if d % 2 = 1 then settle (preciseException s e 0x03 0)
    else if ea % 8 ≠ 0 then settle (preciseException s e 0x06 ea)
    else
      let c0 := halfCheck s e (x.level == 1) needR ea
      let c1 := halfCheck c0.1 e (x.level == 1) needR (ea + 8)
      match c0.2, c1.2 with
      | none, none => pairLoad s e d ea
      | some f, some _ => if x.rob.isEmpty then settle (pairDenied c1.1 e d ea f) else stall s e
      | none, some f => if x.rob.isEmpty && !x.devicePending then settle (halfLoad c1.1 e d ea true f) else stall s e
      | some f, none => if x.rob.isEmpty && !x.devicePending then settle (halfLoad c1.1 e d ea false f) else stall s e
  else stall s e

/-- LDP. -/
def execLdp (e : Fin 64) (d a : Fin 32) (i : BitVec 16) : State → Host.Outcome State Fault Refusal :=
  onI (.ldp e d a i) e (ldpStep e d a i)

/-- The data of a pair store: d and d + 1, each 8 bytes; g0 reads 0 (R242, Table 07-9). -/
def pairData (x : Engine) (d : Nat) : List Byte × List Byte := (leBytes 8 (x.get d).toNat, leBytes 8 (x.get (d + 1)).toNat)

/-- Buffer the allowed half of a pair store whose other half is denied, then raise the access fault (R249). -/
def halfStoreFault (s : Mach) (e f h : Nat) (bs : List Byte) : Mach :=
  let x := s.eng e
  settle (preciseException (s.setEng e { x with sb := x.sb ++ [coreStore x h bs] }) e 0x07 f)

/-- STP: 16 bytes from d and d + 1 at a + sext(imm16). A pair in the mirror is two device stores (R244). -/
def stpStep (e d a : Nat) (i : BitVec 16) (s : Mach) : Mach :=
  let x := s.eng e
  if x.canIssue [d, d + 1, a] then
    let ea := (x.get a + i.signExtend 64).toNat
    let w := pairData x d
    if d % 2 = 1 then settle (preciseException s e 0x03 0)
    else if ea % 8 ≠ 0 then settle (preciseException s e 0x06 ea)
    else
      let c0 := halfCheck s e (x.level == 1) needW ea
      let c1 := halfCheck c0.1 e (x.level == 1) needW (ea + 8)
      let room := x.rob.isEmpty && decide (slotsUsed x.sb < 8)
      match c0.2, c1.2 with
      | none, none =>
        match locate ea with
        | .mirror _ => bufferStore s e [coreStore x ea w.1, coreStore x (ea + 8) w.2]
        | _ => if normalRange ea 16 then bufferStore s e [coreStore x ea (w.1 ++ w.2)]
               else bufferStore s e [coreStore x ea w.1, coreStore x (ea + 8) w.2]
      | some f, some _ => if x.rob.isEmpty then settle (preciseException c1.1 e 0x07 f) else stall s e
      | none, some f => if room then halfStoreFault c1.1 e f ea w.1 else stall s e
      | some f, none => if room then halfStoreFault c1.1 e f (ea + 8) w.2 else stall s e
  else stall s e

/-- STP. -/
def execStp (e : Fin 64) (d a : Fin 32) (i : BitVec 16) : State → Host.Outcome State Fault Refusal :=
  onI (.stp e d a i) e (stpStep e d a i)

/-! ### Atomics -/

/-- What an atomic does to its location: the value to store, if any, from the old value, b and d. -/
def atomPlain (h : U64 → U64 → U64) : U64 → U64 → U64 → Option U64 := fun old b _ => some (h old b)

/-- An atomic of 8 or 4 bytes (w) at the address in a: old is loaded, the new value stored, old written to d (R250 to
R252). It starts once earlier instructions have retired and earlier stores to the same bytes have left the buffer. -/
def atomStep (e d b a : Nat) (w : Bool) (h : U64 → U64 → U64 → Option U64) (s : Mach) : Mach :=
  let x := s.eng e
  let n := if w then 4 else 8
  let ea := (x.get a).toNat
  let narrow (v : U64) : U64 := if w then sext64 32 v.toNat else v
  if x.canIssueAlone [d, b, a] && !x.sb.any (fun t => decide (t.addr < ea + n) && decide (ea < t.addr + t.data.length))
  then
    let c := accessCheck s e ea n needAmo true
    match c.2 with
    | some (v, ad) => settle (preciseException c.1 e v ad)
    | none =>
      let s := match locate ea with
        | .dram o => drainGranule s (e / 4) o
        | _ => s
      if dramFails s ea n then settle (preciseException s e 0x07 ea)
      else
        let old := narrow (BitVec.ofNat 64 (leNat (engBytes s e ea n)))
        let s := match h old (narrow (x.get b)) (narrow (x.get d)) with
          | some v => performNormal s e ea (leBytes n v.toNat)
          | none => s
        settle (retireEng s e ((s.eng e).retireD d old))
  else stall s e

/-- LR: d = mem[a]; the granule of a is reserved (R253). -/
def lrStep (e d a : Nat) (w : Bool) (s : Mach) : Mach :=
  let x := s.eng e
  let n := if w then 4 else 8
  let ea := (x.get a).toNat
  if x.canIssueAlone [d, a] && !x.sb.any (fun t => decide (t.addr < ea + n) && decide (ea < t.addr + t.data.length))
  then
    let c := accessCheck s e ea n needLr true
    match c.2 with
    | some (v, ad) => settle (preciseException c.1 e v ad)
    | none =>
      let s := match locate ea with
        | .dram o => drainGranule s (e / 4) o
        | _ => s
      if dramFails s ea n then settle (preciseException s e 0x07 ea)
      else
        let v := BitVec.ofNat 64 (leNat (engBytes s e ea n))
        let k := resvKey e ea
        let y := (s.eng e).retireD d (if w then sext64 32 v.toNat else v)
        settle (retireEng s e { y with resv := some (k.2 / 64), resvAt := k.1 })
  else stall s e

/-- SC: if the reservation holds the granule of a, mem[a] = b and d = 0; else d = 1; the reservation is cleared. -/
def scStep (e d b a : Nat) (w : Bool) (s : Mach) : Mach :=
  let x := s.eng e
  let n := if w then 4 else 8
  let ea := (x.get a).toNat
  if x.canIssueAlone [d, b, a] && !x.sb.any (fun t => decide (t.addr < ea + n) && decide (ea < t.addr + t.data.length))
  then
    let c := accessCheck s e ea n needAmo true
    match c.2 with
    | some (v, ad) => settle (preciseException c.1 e v ad)
    | none =>
      let s := match locate ea with
        | .dram o => drainGranule s (e / 4) o
        | _ => s
      if dramFails s ea n then settle (preciseException s e 0x07 ea)
      else
        let k := resvKey e ea
        let y := s.eng e
        let hit := decide (y.resv = some (k.2 / 64)) && decide (y.resvAt = k.1)
        let s := if hit then performNormal s e ea (leBytes n (x.get b).toNat) else s
        let z := (s.eng e).retireD d (if hit then 0 else 1)
        settle (retireEng s e { z with resv := none })
  else stall s e

/-- LR. -/
def execLr (e : Fin 64) (d a : Fin 32) (w : Bool) : State → Host.Outcome State Fault Refusal := onI (.lr e d a w) e (lrStep e d a w)
/-- SC. -/
def execSc (e : Fin 64) (d b a : Fin 32) (w : Bool) : State → Host.Outcome State Fault Refusal :=
  onI (.sc e d b a w) e (scStep e d b a w)

/-- AMOSWAP: mem[a] = b; d = old (Table 07-10). At 32-bit width both operands are sign-extended, which keeps every
comparison of the low 32 bits. -/
def execAmoswap (e : Fin 64) (d b a : Fin 32) (w : Bool) : State → Host.Outcome State Fault Refusal :=
  onI (.amoswap e d b a w) e (atomStep e d b a w (atomPlain (fun _ b => b)))
/-- AMOADD: mem[a] = old + b; d = old (Table 07-10). At 32-bit width both operands are sign-extended, which keeps every
comparison of the low 32 bits. -/
def execAmoadd (e : Fin 64) (d b a : Fin 32) (w : Bool) : State → Host.Outcome State Fault Refusal :=
  onI (.amoadd e d b a w) e (atomStep e d b a w (atomPlain (fun o b => o + b)))
/-- AMOAND: mem[a] = old and b; d = old (Table 07-10). At 32-bit width both operands are sign-extended, which keeps every
comparison of the low 32 bits. -/
def execAmoand (e : Fin 64) (d b a : Fin 32) (w : Bool) : State → Host.Outcome State Fault Refusal :=
  onI (.amoand e d b a w) e (atomStep e d b a w (atomPlain (fun o b => o &&& b)))
/-- AMOOR: mem[a] = old or b; d = old (Table 07-10). At 32-bit width both operands are sign-extended, which keeps every
comparison of the low 32 bits. -/
def execAmoor (e : Fin 64) (d b a : Fin 32) (w : Bool) : State → Host.Outcome State Fault Refusal :=
  onI (.amoor e d b a w) e (atomStep e d b a w (atomPlain (fun o b => o ||| b)))
/-- AMOXOR: mem[a] = old xor b; d = old (Table 07-10). At 32-bit width both operands are sign-extended, which keeps every
comparison of the low 32 bits. -/
def execAmoxor (e : Fin 64) (d b a : Fin 32) (w : Bool) : State → Host.Outcome State Fault Refusal :=
  onI (.amoxor e d b a w) e (atomStep e d b a w (atomPlain (fun o b => o ^^^ b)))
/-- AMOMIN: signed minimum; d = old (Table 07-10). At 32-bit width both operands are sign-extended, which keeps every
comparison of the low 32 bits. -/
def execAmomin (e : Fin 64) (d b a : Fin 32) (w : Bool) : State → Host.Outcome State Fault Refusal :=
  onI (.amomin e d b a w) e (atomStep e d b a w (atomPlain (fun o b => if b.slt o then b else o)))
/-- AMOMAX: signed maximum; d = old (Table 07-10). At 32-bit width both operands are sign-extended, which keeps every
comparison of the low 32 bits. -/
def execAmomax (e : Fin 64) (d b a : Fin 32) (w : Bool) : State → Host.Outcome State Fault Refusal :=
  onI (.amomax e d b a w) e (atomStep e d b a w (atomPlain (fun o b => if o.slt b then b else o)))
/-- AMOMINU: unsigned minimum; d = old (Table 07-10). At 32-bit width both operands are sign-extended, which keeps every
comparison of the low 32 bits. -/
def execAmominu (e : Fin 64) (d b a : Fin 32) (w : Bool) : State → Host.Outcome State Fault Refusal :=
  onI (.amominu e d b a w) e (atomStep e d b a w (atomPlain (fun o b => if b.ult o then b else o)))
/-- AMOMAXU: unsigned maximum; d = old (Table 07-10). At 32-bit width both operands are sign-extended, which keeps every
comparison of the low 32 bits. -/
def execAmomaxu (e : Fin 64) (d b a : Fin 32) (w : Bool) : State → Host.Outcome State Fault Refusal :=
  onI (.amomaxu e d b a w) e (atomStep e d b a w (atomPlain (fun o b => if o.ult b then b else o)))
/-- CAS: old = mem[a]; if old = d then mem[a] = b; d = old. -/
def execCas (e : Fin 64) (d b a : Fin 32) (w : Bool) : State → Host.Outcome State Fault Refusal :=
  onI (.cas e d b a w) e (atomStep e d b a w (fun old b d => if old = d then some b else none))

/-! ### Draining -/

/-- R330, R333: the oldest store of engine e's buffer reaches its serialising point, the cluster port write queue, the
register block or the bridge, once every read before it has retired. -/
def drainBuffer (s : Mach) (e : Nat) : Mach :=
  let x := s.eng e
  match x.sb with
  | [] => s
  | t :: rest =>
    if x.rob.any (fun r => decide (r.id < t.after)) then s
    else
      let pop := s.updEng e (fun y => { y with sb := rest })
      if t.kind = 1 then
        let off := t.addr - 0x40000000
        let r := busWrite pop e off t.data.length (leNat t.data)
        settle (if r.ok then r.m else storeFailed r.m e false r.absorbed)
      else if t.kind = 2 then
        match submitFst s e t with
        | some s' => settle (s'.updEng e (fun y => { y with sb := rest }))
        | none => s
      else
        match locate t.addr with
        | .dram o =>
          let q := s.portq (e / 4)
          if q.length < 16 then pop.setPortq (e / 4) (q ++ [⟨e, o, t.data⟩]) else s
        | _ => performNormal pop e t.addr t.data

/-- A store has drained: the port of a clamped cluster may close (R218). -/
def drainEnd (s : Mach) (c : Nat) : Mach := if s.b (EN_CL_CLAMP_clamp c) then settle (clampClose s c) else s

/-- STORE_BUFFER_DRAIN: engine e's store buffer, or (port) its cluster's port write queue. -/
def execStoreBufferDrain (e : Fin 64) (port : Bool) : State → Host.Outcome State Fault Refusal :=
  onM (fun s => drainEnd (if port then drainPort s (e / 4) else drainBuffer s e) (e / 4))

/-! ### Barriers -/

/-- Table 07-12: everything a barrier of kind 1 (BAR.D), 2 (BAR.A) or 3 (BAR.S) waits for is resolved. -/
def barrierDone (s : Mach) (e kind : Nat) : Bool :=
  let x := s.eng e
  let mine := fun (w : PortStore) => w.engine == e
  !x.sb.any (fun t => t.kind != 2) && !(s.portq (e / 4)).any mine &&
  (decide (kind < 2) || (x.rob.isEmpty && x.sb.isEmpty)) &&
  (decide (kind < 3) || !s.reqs.any (fun q => q.init == e && q.write))

/-- The failures a barrier counts: device stores for BAR.D and BAR.A, and failed fabric stores as well for BAR.S. -/
def barrierCounts (kind : Nat) (f : FailedStore) : Bool := !f.fabric || decide (kind = 3)

/-- Table 07-13. -/
def barrierStatus (fs : List FailedStore) : Nat :=
  satAt 255 fs.length * 256 + b2n (fs.any (fun f => f.absorbed)) * 2 + b2n (!fs.isEmpty)

/-- A waiting barrier retires when it is done (R258, R259). -/
def barrierTry (s : Mach) (e : Nat) : Mach :=
  let x := s.eng e
  match x.wait with
  | .barrier kind d =>
    if x.rob.isEmpty && barrierDone s e kind then
      let fs := x.fails.filter (barrierCounts kind)
      let y := { x with wait := .none, fails := x.fails.filter (fun f => !barrierCounts kind f) }
      retireEng s e (y.retireD d (BitVec.ofNat 64 (barrierStatus fs)))
    else s
  | _ => s

/-- A barrier issues: it waits for what it covers, and retires at once when nothing is outstanding (R257). -/
def barrierStep (e d kind : Nat) (s : Mach) : Mach :=
  let x := s.eng e
  if x.canIssue [d] then settle (barrierTry (s.setEng e { x with wait := .barrier kind d }) e) else stall s e

/-- BAR.D. -/
def execBarD (e : Fin 64) (d : Fin 32) : State → Host.Outcome State Fault Refusal := onI (.barD e d) e (barrierStep e d 1)
/-- BAR.A. -/
def execBarA (e : Fin 64) (d : Fin 32) : State → Host.Outcome State Fault Refusal := onI (.barA e d) e (barrierStep e d 2)
/-- BAR.S. -/
def execBarS (e : Fin 64) (d : Fin 32) : State → Host.Outcome State Fault Refusal := onI (.barS e d) e (barrierStep e d 3)
/-- BARRIER_RESOLVED (R259). -/
def execBarrierResolved (e : Fin 64) : State → Host.Outcome State Fault Refusal :=
  onM (fun s => settle (barrierTry s e))

end Sys2Proof.Machine
end

