-- ==== Sys2Proof/Machine/IsaFabric.lean ====
section
/-!
DEFINITION. The fabric, time and image instructions (08_tyten_fabric_and_timed_instructions.md): FLD, FST, FSTN, GATH,
SCAT, IMGCP, the launch register and waits, DELTA, JAPP, SCALE, CRC, EVPOST and EVWAIT, and the retirement of
outstanding fabric reads (R342 to R345).
-/
namespace Sys2Proof.Machine

/-! ### Shared checks -/

/-- Task level without a capability of Table 06-3. -/
def Engine.lacks (x : Engine) (bit : Nat) : Bool := x.level == 0 && !bitAt x.caps bit

/-- Register bytes and payload bytes under a swap unit (R276): each aligned group is reversed; its own inverse. -/
def swapBytes (u : Nat) (bs : List Byte) : List Byte :=
  (keysFrom 0 bs.length).map (fun i => bs.getD (i - i % u + (u - 1 - i % u)) 0)

/-- The swap unit in bytes for an access of n bytes (R275). -/
def swapUnit (code n : Nat) : Nat := if 2 ^ code < n then 2 ^ code else n

/-- Width of a width code (Table 08-3). -/
def widthOf (sz : Nat) : Nat := 2 ^ sz

/-- The base of fabric space in an engine's address space (R277). -/
def fabBase : Nat := 0x800000000000

/-- R279, R280: the address and class rules of a fabric access. `load` is FLD or FSTN's station rule. -/
def fabAllowed (fa cls n : Nat) (write nonposted timed : Bool) : Bool :=
  let sp := faSpace fa
  let st := faStation fa
  sp != 3 && (sp == 2 || st != 0) && !(nonposted && sp != 2 && st == 0x3FFF) &&
  (if sp = 2 then decide (2 ≤ cls) && !timed
   else if !write || nonposted then decide (2 ≤ cls)
   else decide (2 ≤ cls) || (decide (cls = 0) && decide (n ≤ 16)) || (decide (cls = 1) && sp == 1 && st != 0x3FFF))

/-- R71, R295: how a launch time lies against now: none when it is invalid, else whether it lies in the future. -/
def launchState (s : Mach) (lt : Nat) : Option Bool :=
  let d := signed 32 (lt + 2 ^ 32 - s.hTime % 2 ^ 32)
  if 2000000000 < d ∨ d < -2000000000 then none else some (decide (0 < d))

/-- The first protection failure of a range, checked once in each 32-byte grain (R517); the count is fuel. -/
def mpuSpan : Nat → Mach → Nat → Bool → Need → Nat → Nat → Option (Nat × Denial)
  | 0, _, _, _, _, _, _ => none
  | k + 1, s, m, sup, n, a, len =>
    if len = 0 then none
    else
      match mpuByte s m sup a n with
      | some d => some (a, d)
      | none =>
        let w := 32 - a % 32
        if len ≤ w then none else mpuSpan k s m sup n (a + w) (len - w)

/-- A range of local memory of engine e that its descriptor and copy units reach: one range of Table 06-4, granted. -/
def localOk (s : Mach) (e a n : Nat) (sup : Bool) (need : Need) : Bool :=
  normalRange a n && (mpuSpan (n / 32 + 2) s e sup need a n).isNone

/-- The record of a denial in a local range. -/
def localReport (s : Mach) (e a n : Nat) (sup : Bool) (need : Need) : Mach :=
  match mpuSpan (n / 32 + 2) s e sup need a n with
  | some (x, d) => mpuReport s e sup need x d
  | none => s

/-! ### FLD, FST, FSTN -/

/-- What stops a fabric access before it is sent: vector and EADDR. The order is the priority of Table 06-6. -/
def fabFault (s : Mach) (x : Engine) (ea n cls : Nat) (write nonposted timed : Bool) : Option (Nat × Nat) :=
  let fa := ea - fabBase
  let lt := launchState s x.arch.launch
  if (write && nonposted && x.lacks 0) || (write && !nonposted && decide (cls = 0) && x.lacks 1)
      || (timed && decide (lt = some true) && x.lacks 2) then some (0x05, ea)
  else if ea % (if n = 16 then 8 else n) ≠ 0 then some (0x06, ea)
  else if ea < fabBase ∨ 0x1000000000000 ≤ ea + n - 1 then some (0x07, ea)
  else if !fabAllowed fa cls n write nonposted timed || (timed && decide (lt = none)) then some (0x07, ea)
  else none

/-- The protection of a fabric access of N bytes, a pair half by half (R249, R279): the state with its denials, and
either all is allowed, or the lowest denied address and whether the low half is allowed, the high half is allowed. -/
def fabMpu (s : Mach) (e ea n : Nat) (sup : Bool) (need : Need) : Mach × Option (Nat × Bool × Bool) :=
  if n = 16 then
    let a := mpuCheck s e sup need ea 8
    let b := mpuCheck a.1 e sup need (ea + 8) 8
    match a.2, b.2 with
    | none, none => (b.1, none)
    | none, some f => (b.1, some (f, true, false))
    | some f, none => (b.1, some (f, false, true))
    | some f, some _ => (b.1, some (f, false, false))
  else
    let a := mpuCheck s e sup need ea n
    match a.2 with
    | none => (a.1, none)
    | some f => (a.1, some (f, false, false))

/-- A fabric read may issue: a slot is free, the engine's earlier fabric stores have left its store buffer, and nothing before it is known
to fault or is a device load (R214, R245, R286). -/
def Engine.readFree (x : Engine) : Bool :=
  decide (x.outReads < 16) && !x.sb.any (fun t => t.kind == 2) && !x.rob.any (fun r => r.kind == 3 || r.half.isSome)

/-- Allocate a reorder-buffer entry for a fabric read, and send the request (R286, R343). -/
def issueRead (s : Mach) (e d ea fa n cls sw : Nat) (pair : Bool) (half : Option (Bool × Nat)) (launch : Option Nat) : Mach :=
  let x := s.eng e
  let id := x.robNext
  let y := x.retire (x.arch.pc + 4)
  let s := s.setEng e { y with
    robNext := id + 1,
    rob := x.rob ++ [{ id := id, pc := x.arch.pc, d := d, pair := pair, n := n, swap := sw, kind := 0, ea := ea,
                       bseq := s.n BR_SEQ, at_ := s.now, half := half, snap := x.arch }] }
  accept s { bseq := 0, init := e, kind := .fld id, write := false, posted := false, ack := false, cls := cls,
             faddr := fa, iaddr := ea, tAcc := 0,
             launch := launch, stamp := some (s.hTime % 2 ^ 32), pieces := cutRun fa n [] }

/-- FLD (R277). A timed FLD carries the launch register (R295). -/
def fldStep (e d a cls sz : Nat) (tm : Bool) (sw : Nat) (off : BitVec 8) (s : Mach) : Mach :=
  let x := s.eng e
  let n := widthOf sz
  let dd := if n = 16 then [d, d + 1, a] else [d, a]
  if x.canIssue dd && x.readFree then
    if 5 ≤ sz ∨ (sz = 4 ∧ d % 2 = 1) then settle (preciseException s e 0x03 0)
    else
      let ea := (x.get a + BitVec.ofInt 64 (off.toInt * Int.ofNat n)).toNat
      match fabFault s x ea n cls false true tm with
      | some (v, ad) => settle (preciseException s e v ad)
      | none =>
        if (mpuFirst s e (x.level == 1) needR ea n).isSome && !x.rob.isEmpty then stall s e
        else
          let c := fabMpu s e ea n (x.level == 1) needR
          let u := swapUnit sw n
          let l := if tm then some x.arch.launch else none
          match c.2 with
          | some (f, false, false) =>
            if n = 16 then settle (pairDenied c.1 e d ea f) else settle (preciseException c.1 e 0x07 f)
          | some (f, lo, _) =>
            settle (issueRead c.1 e d ea (ea - fabBase + (if lo then 0 else 8)) 8 cls u false (some (lo, f)) l)
          | none => settle (issueRead c.1 e d ea (ea - fabBase) n cls u (n == 16) none l)
  else stall s e

/-- FLD. -/
def execFld (e : Fin 64) (d a : Fin 32) (cls : Fin 4) (sz : Fin 8) (sw : Fin 4) (tm : Bool) (off : BitVec 8) : State → Host.Outcome State Fault Refusal :=
  onI (.fld e d a cls sz sw tm off) e (fldStep e d a cls.val sz.val tm sw.val off)

/-- The payload of a fabric store of N bytes of d and d + 1 (R276). -/
def fabPayload (x : Engine) (d n u : Nat) : List Byte :=
  if n = 16 then swapBytes u (pairData x d).1 ++ swapBytes u (pairData x d).2
  else swapBytes u (leBytes n (x.get d).toNat)

/-- FST (R277, R288): posted through the store buffer. -/
def fstStep (e d a cls sz : Nat) (tm : Bool) (sw : Nat) (off : BitVec 8) (s : Mach) : Mach :=
  let x := s.eng e
  let n := widthOf sz
  let dd := if n = 16 then [d, d + 1, a] else [d, a]
  if x.canIssue dd then
    if 5 ≤ sz ∨ (sz = 4 ∧ d % 2 = 1) then settle (preciseException s e 0x03 0)
    else
      let ea := (x.get a + BitVec.ofInt 64 (off.toInt * Int.ofNat n)).toNat
      match fabFault s x ea n cls true false tm with
      | some (v, ad) => settle (preciseException s e v ad)
      | none =>
        if (mpuFirst s e (x.level == 1) needW ea n).isSome && !x.rob.isEmpty then stall s e
        else
          let c := fabMpu s e ea n (x.level == 1) needW
          let bs := fabPayload x d n (swapUnit sw n)
          let ent (ad : Nat) (l : List Byte) : StoreEntry :=
            { kind := 2, addr := ad, data := l, cls := cls, launch := (if tm then some x.arch.launch else none),
              after := x.robNext, level := x.level, beat := s.n BT_BEAT_NUM }
          match c.2 with
          | none => bufferStore c.1 e [ent ea bs]
          | some (f, false, false) => settle (preciseException c.1 e 0x07 f)
          | some (f, lo, _) =>
            if slotsUsed x.sb < 8 then
              let t := if lo then ent ea (bs.take 8) else ent (ea + 8) (bs.drop 8)
              settle (preciseException (c.1.setEng e { x with sb := x.sb ++ [t] }) e 0x07 f)
            else stall s e
  else stall s e

/-- FST. -/
def execFst (e : Fin 64) (d a : Fin 32) (cls : Fin 4) (sz : Fin 8) (sw : Fin 4) (tm : Bool) (off : BitVec 8) : State → Host.Outcome State Fault Refusal :=
  onI (.fst e d a cls sz sw tm off) e (fstStep e d a cls.val sz.val tm sw.val off)

/-- FSTN (R289): non-posted; d receives the completion code when it retires. -/
def fstnStep (e d a cls sz : Nat) (tm : Bool) (sw : Nat) (off : BitVec 8) (s : Mach) : Mach :=
  let x := s.eng e
  let n := widthOf sz
  let dd := if n = 16 then [d, d + 1, a] else [d, a]
  if x.canIssue dd && x.readFree && !x.mayFault then
    if 5 ≤ sz ∨ (sz = 4 ∧ d % 2 = 1) then settle (preciseException s e 0x03 0)
    else
      let ea := (x.get a + BitVec.ofInt 64 (off.toInt * Int.ofNat n)).toNat
      match fabFault s x ea n cls true true tm with
      | some (v, ad) => settle (preciseException s e v ad)
      | none =>
        if (mpuFirst s e (x.level == 1) needW ea n).isSome && !x.rob.isEmpty then stall s e
        else
          let c := fabMpu s e ea n (x.level == 1) needW
          let bs := fabPayload x d n (swapUnit sw n)
          let go (t : Mach) (fa : Nat) (l : List Byte) (half : Option (Bool × Nat)) : Mach :=
            let id := x.robNext
            let t := t.setEng e { x.retire (x.arch.pc + 4) with
              robNext := id + 1,
              rob := x.rob ++ [{ id := id, pc := x.arch.pc, d := d, pair := false, n := n, swap := 1, kind := 1,
                                 ea := ea, bseq := t.n BR_SEQ, at_ := t.now, half := half, snap := x.arch }] }
            settle (accept t { bseq := 0, init := e, kind := .fstn id, write := true, posted := false, ack := true,
                               cls := cls, faddr := fa, iaddr := ea, tAcc := 0,
                               launch := (if tm then some x.arch.launch else none), stamp := some (t.hTime % 2 ^ 32),
                               pieces := cutRun fa l.length l })
          match c.2 with
          | none => go c.1 (ea - fabBase) bs none
          | some (f, false, false) => settle (preciseException c.1 e 0x07 f)
          | some (f, lo, _) =>
            if lo then go c.1 (ea - fabBase) (bs.take 8) (some (true, f))
            else go c.1 (ea - fabBase + 8) (bs.drop 8) (some (false, f))
  else stall s e

/-- FSTN. -/
def execFstn (e : Fin 64) (d a : Fin 32) (cls : Fin 4) (sz : Fin 8) (sw : Fin 4) (tm : Bool) (off : BitVec 8) : State → Host.Outcome State Fault Refusal :=
  onI (.fstn e d a cls sz sw tm off) e (fstnStep e d a cls.val sz.val tm sw.val off)

/-! ### Retirement of outstanding fabric reads -/

/-- Put a value into a register of the engine and of every later read's restored state. -/
def robPut (x : Engine) (d : Nat) (v : U64) : Engine :=
  let y := x.put d v
  { y with rob := y.rob.map (fun r => { r with snap := r.snap.put d v }) }

/-- The head of the reorder buffer fails: a precise exception of its instruction; everything later is discarded (R287,
R344). -/
def robFault (s : Mach) (e : Nat) (r : RobEntry) (v ad : Nat) (keep : EngArch) : Mach :=
  let x := s.eng e
  let s := dropReads s e 3 x.rob
  let y := s.eng e
  let s := s.setEng e { y with arch := keep, rob := [], gs := none, inbox := [], wait := .none,
                               sb := y.sb.filter (fun t => t.after ≤ r.id) }
  preciseException s e v ad

/-- The registers after a pair with one half denied: all-ones in that half's, the data of the other's when it has come (R249). -/
def halfRegs (r : RobEntry) (lo : Bool) (v : Option U64) : EngArch :=
  let x := r.snap.put (if lo then r.d + 1 else r.d) (BitVec.allOnes 64)
  match v with
  | some v => x.put (if lo then r.d else r.d + 1) v
  | none => x

/-- A read that brought its data is retired: d, and d + 1 of a pair, get it. -/
def robData (x : Engine) (r : RobEntry) (bs : List Byte) : Engine :=
  if r.pair then robPut (robPut x r.d (BitVec.ofNat 64 (leNat (bs.take 8)))) (r.d + 1) (BitVec.ofNat 64 (leNat (bs.drop 8)))
  else robPut x r.d (loadValue r.n r.sg (leNat bs))

/-- Retire the head of the reorder buffer with its response (R246, R249, R287, R289, R305). -/
def robRetire (s : Mach) (e : Nat) (r : RobEntry) (code : Nat) (data : List Byte) : Mach :=
  let x := s.eng e
  let x := { x with rob := x.rob.drop 1 }
  match r.kind with
  | 1 =>
    match r.half with
    | some (_, f) => robFault (s.setEng e x) e r 0x07 f r.snap
    | none => s.setEng e (robPut x r.d (BitVec.ofNat 64 code))
  | 2 => s.setEng e (robPut { x with gs := none } r.d (BitVec.ofNat 64 (leNat data)))
  | _ =>
    let bs := swapBytes r.swap data
    match r.half with
    | some (lo, f) => robFault (s.setEng e x) e r 0x07 f (halfRegs r lo (if code = 0 then some (BitVec.ofNat 64 (leNat bs)) else none))
    | none => if code ≠ 0 then robFault (s.setEng e x) e r 0x08 r.ea r.snap else s.setEng e (robData x r bs)

/-- Retire reads from the head while their responses are there; the count is fuel. -/
def robDrain : Nat → Mach → Nat → Mach
  | 0, s, _ => s
  | k + 1, s, e =>
    match (s.eng e).rob with
    | [] => s
    | r :: _ =>
      match r.resp with
      | none => s
      | some (c, d) => robDrain k (robRetire s e r c d) e

/-- The data of a discarded device load comes back and goes to the orphan capture (R245). -/
def lostAnswer (s : Mach) (e : Nat) : Mach :=
  match (s.eng e).lostDev with
  | [] => s
  | (off, n, cause, at_) :: rest =>
    match devData s e off n with
    | none => s
    | some (t, c, d) =>
      let t := t.updEng e (fun x => { x with lostDev := rest })
      if c ≠ 0 then t
      else
        let f := t.free
        orphanPut f.2 ⟨f.1 % 2 ^ 47, 0xFFFFFFFFFFFFFFFF, at_, 0, e, cause, n, d⟩

/-- A response reaches the engine. -/
def readResponse (s : Mach) (e : Nat) : Mach :=
  let s := devAnswer s e
  let x := s.eng e
  match x.inbox with
  | [] => lostAnswer s e
  | (id, c, d) :: rest =>
    let s := stallEnd s e
    let s := s.updEng e (fun x => { x with inbox := rest, rob := mapWhere (fun r => r.id == id) (fun r => { r with resp := some (c, d) }) x.rob })
    asyncCheck (robDrain 33 s e) e

/-- FABRIC_READ_RESPONSE: the oldest response waiting for the engine, of a fabric read or a device load, goes into its reorder-buffer
entry, and reads retire in program order (R342, R343). A response whose read is gone is dropped; its data was captured (R344). -/
def execFabricReadResponse (e : Fin 64) : State → Host.Outcome State Fault Refusal :=
  onM (fun s => settle (readResponse s e))

/-! ### GATH and SCAT -/

/-- A descriptor read from local memory (Table 08-8). -/
def gsDesc (s : Mach) (e a : Nat) : GsDesc :=
  let g (o n : Nat) : Nat := leNat (engBytes s e (a + o) n)
  { daddr := a, fab := g 0 8, loc := g 8 8, len := g 16 4, ack := bitAt (g 20 4) 0, stop := bitAt (g 20 4) 1 }

/-- The check of one descriptor (R301): the vector, when it fails. A fab, loc or len with a bit set that Table 08-8 gives as 0, or a len
outside 1 to 65,536, fails as an access fault (DEDUCED, log 79). -/
def gsCheck (s : Mach) (e : Nat) (x : Engine) (gather : Bool) (cls u : Nat) (tm : Bool) (d : GsDesc) : Option Nat :=
  let lt := launchState s x.arch.launch
  if (!gather && d.ack && x.lacks 0) || (tm && decide (lt = some true) && x.lacks 2) then some 0x05
  else if d.daddr % 32 ≠ 0 ∨ d.fab % u ≠ 0 ∨ d.loc % u ≠ 0 ∨ d.len % u ≠ 0 then some 0x06
  else if d.len = 0 ∨ 65536 < d.len ∨ 2 ^ 47 ≤ d.fab ∨ 2 ^ 47 < d.fab + d.len ∨ 2 ^ 48 ≤ d.loc then some 0x07
  else if !fabAllowed d.fab cls 8 (!gather) (gather || d.ack) tm || (tm && decide (lt = none)) then some 0x07
  else if !localOk s e d.loc d.len (x.level == 1) (if gather then needW else needR) then some 0x07
  else if (mpuSpan (d.len / 32 + 2) s e (x.level == 1) (if gather then needR else needW) (fabBase + d.fab) d.len).isSome then some 0x07
  else none

/-- What denies a descriptor is put on record: its loc, or its fab (R525). -/
def gsReport (s : Mach) (e : Nat) (x : Engine) (gather : Bool) (d : GsDesc) : Mach :=
  let sup := x.level == 1
  match mpuSpan (d.len / 32 + 2) s e sup (if gather then needW else needR) d.loc d.len with
  | some (a, v) => mpuReport s e sup (if gather then needW else needR) a v
  | none =>
    match mpuSpan (d.len / 32 + 2) s e sup (if gather then needR else needW) (fabBase + d.fab) d.len with
    | some (a, v) => mpuReport s e sup (if gather then needR else needW) a v
    | none => s

/-- Every exception that is due for a list of descriptors: vector, address of the failing descriptor, and the descriptor where it was read
(R301). The capability for a timed SCAT, the alignment of the list and its class stand before the descriptors. -/
def gsFaults (s : Mach) (e : Nat) (x : Engine) (gather : Bool) (cls u base cnt : Nat) (tm : Bool) : List (Nat × Nat × Option GsDesc) :=
  let pre := (if tm && decide (launchState s x.arch.launch = some true) && x.lacks 2 then [(5, base, none)] else [])
    ++ (if base % 32 ≠ 0 then [(6, base, none)] else []) ++ (if cls < 2 then [(7, base, none)] else [])
  if base % 32 ≠ 0 then pre
  else
    (keysFrom 0 cnt).foldl (fun l i =>
      let p := base + 32 * i
      if localOk s e p 32 (x.level == 1) needR then
        let q := gsDesc s e p
        match gsCheck s e x gather cls u tm q with
        | some v => l ++ [(v, p, some q)]
        | none => l
      else l ++ [(7, p, none)]) pre

/-- The one of highest priority, the first in list order (R208). -/
def gsFirst (l : List (Nat × Nat × Option GsDesc)) : Option (Nat × Nat × Option GsDesc) :=
  l.foldl (fun b x =>
    match b with
    | some y => if x.1 < y.1 then some x else b
    | none => some x) none

/-- The pieces of a descriptor: frames of at most 1,024 B, or Uhlux cycles, with the data under the swap unit; a GATH in Uhlux space goes in
sets of at most 256 B, each a read request (R426). -/
def gsPieces (s : Mach) (e : Nat) (gather : Bool) (u : Nat) (d : GsDesc) : List Piece :=
  if gather && faSpace d.fab == 2 then cutRun (d.fab + d.done) (satAt 256 (d.len - d.done)) []
  else cutRun d.fab d.len (if gather then [] else swapBytes u (engBytes s e d.loc d.len))

/-- The status word of Table 08-10. -/
def gsStatus (l : List GsDesc) : Nat :=
  let ok := (l.filter (fun d => d.code == 0)).length
  match l.findIdx? (fun d => d.code != 0) with
  | some i => 2 ^ 32 + i * 2 ^ 16 + ok
  | none => ok

/-- Send the descriptors that may go now: in list order, one whose sets are not all sent before the next, and after a descriptor with stop set only once that one is
done; one that failed with stop set ends the rest with code 0x14 (R302, R304). The count is fuel. -/
def gsAdvance : Nat → Mach → Nat → Mach
  | 0, s, _ => s
  | k + 1, s, e =>
    let x := s.eng e
    match x.gs with
    | none => s
    | some g =>
      match g.descs.findIdx? (fun d => d.sent == 0 && !d.finished) with
      | none => s
      | some i =>
        let before := g.descs.take i
        if before.any (fun d => d.stop && d.finished && d.code != 0) then
          let s := writeLocal s e ((g.descs.getD i ⟨0, 0, 0, 0, false, false, 0, 0, 0, false⟩).daddr + 28) (leBytes 4 0x14)
          let g := { g with descs := g.descs.modify i (fun d => { d with code := 0x14, finished := true }) }
          gsAdvance k (s.updEng e (fun y => { y with gs := some g })) e
        else if before.any (fun d => !d.finished && (d.stop || (g.gather && faSpace d.fab == 2 && decide (d.done + 256 < d.len)))) then s
        else
          match g.descs[i]? with
          | none => s
          | some d =>
            if !g.gather && !d.ack && !postedRoom s then s
            else
              let s := s.updEng e (fun y => { y with gs := some { g with descs := g.descs.modify i (fun d => { d with sent := 1 }) } })
              let s := accept s { bseq := 0, init := e, kind := .gs g.id i, write := !g.gather,
                                  posted := !g.gather && !d.ack, ack := !g.gather && faStation d.fab != 0x3FFF,
                                  cls := g.cls, faddr := d.fab + d.done, iaddr := fabBase + d.fab + d.done, tAcc := 0, launch := g.launch,
                                  stamp := some (s.hTime % 2 ^ 32),
                                  pieces := gsPieces s e g.gather g.swap d }
              gsAdvance k s e

/-- A posted SCAT descriptor is done for the list once its frames are accepted (R305); when every descriptor is done
the status word is the response of the list's reorder-buffer entry. -/
def gsFinish (s : Mach) (e : Nat) : Mach :=
  let x := s.eng e
  match x.gs with
  | none => s
  | some g =>
    let descs := g.descs.map (fun d =>
      if !g.gather && !d.ack && d.sent == 1 && !d.finished then { d with finished := true, done := d.len } else d)
    let s := (g.descs.zip descs).foldl (fun t p =>
      if p.1.finished then t else if p.2.finished then writeLocal t e (p.2.daddr + 28) (leBytes 4 (p.2.done * 256)) else t) s
    let x := s.eng e
    let x := { x with gs := some { g with descs := descs } }
    if descs.all (fun d => d.finished) then
      s.setEng e { x with rob := mapWhere (fun r => r.kind == 2) (fun r => { r with resp := some (0, leBytes 8 (gsStatus descs)) }) x.rob }
    else s.setEng e x

/-- Go on with every list under way, after requests have ended. -/
def gsPump (s : Mach) : Mach :=
  forEach (s.engines.map (fun p => p.1)) (fun e t =>
    if (t.eng e).gs.isSome then robDrain 33 (gsFinish (gsAdvance 257 t e) e) e else t) s

/-- GATH and SCAT (R300 to R305). The frames of a SCAT are stores: they wait until nothing before it can still fault (R213). -/
def gsStep (gather : Bool) (e d a cls sw : Nat) (tm : Bool) (cnt : Nat) (s : Mach) : Mach :=
  let x := s.eng e
  let u := 2 ^ sw
  if x.canIssue [d, a] && x.readFree && x.gs.isNone && (gather || !x.mayFault) then
    if gather && tm then settle (preciseException s e 0x03 0)
    else
      let base := (x.get a).toNat
      match gsFirst (gsFaults s e x gather cls u base cnt tm) with
      | some (v, p, q) =>
        if x.rob.isEmpty then
          let s := if v ≠ 7 then s
            else match q with
              | some d => gsReport s e x gather d
              | none => localReport s e p 32 (x.level == 1) needR
          settle (preciseException s e v p)
        else stall s e
      | none =>
        let id := x.robNext
        let y := x.retire (x.arch.pc + 4)
        let s := s.setEng e { y with
          robNext := id + 1,
          rob := x.rob ++ [{ id := id, pc := x.arch.pc, d := d, pair := false, n := 8, swap := 1, kind := 2, ea := base,
                             bseq := 0xFFFFFFFFFFFFFFFF, at_ := s.now, snap := x.arch }],
          gs := some { id := id, gather := gather, cls := cls, swap := u, launch := (if tm then some x.arch.launch else none),
                       level := x.level, descs := (keysFrom 0 cnt).map (fun i => gsDesc s e (base + 32 * i)) } }
        settle (gsPump s)
  else stall s e

/-- GATH: off8 + 1 descriptors at a. -/
def execGath (e : Fin 64) (d a : Fin 32) (cls sw : Fin 4) (tm : Bool) (n : BitVec 8) : State → Host.Outcome State Fault Refusal :=
  onI (.gath e d a cls sw tm n) e (gsStep true e d a cls.val sw.val tm (n.toNat + 1))
/-- SCAT. -/
def execScat (e : Fin 64) (d a : Fin 32) (cls sw : Fin 4) (tm : Bool) (n : BitVec 8) : State → Host.Outcome State Fault Refusal :=
  onI (.scat e d a cls sw tm n) e (gsStep false e d a cls.val sw.val tm (n.toNat + 1))

/-! ### IMGCP -/

/-- What stops an IMGCP: vector and EADDR (R308). -/
def imgFault (s : Mach) (e a loc k off len img : Nat) (toImage sup : Bool) (outImg : Bool) : Option (Nat × Nat) :=
  let size := if outImg then s.f (ST_W5_out_size k) else s.f (ST_W5_in_size k)
  if a % 16 ≠ 0 ∨ loc % 4 ≠ 0 ∨ off % 4 ≠ 0 ∨ len % 4 ≠ 0 then some (0x06, a)
  else if !s.stValid k || decide (size < off + len) || (toImage && !outImg) || decide (len = 0) then some (0x07, a)
  else if !localOk s e loc len sup (if toImage then needR else needW) then some (0x07, a)
  else if (mpuSpan (len / 32 + 2) s e sup (if toImage then needW else needR) (0x400000000 + img) len).isSome then some (0x07, a)
  else none

/-- A write of engine e into the image region. -/
def imgPut (s : Mach) (e a : Nat) (bs : List Byte) : Mach := imgWriteBy s e a bs

/-- IMGCP (R307 to R310, R538, R539). It waits while the bank it reads is closed and not filled, or while the station's
bytes of the output bank are still to be carried. -/
def imgcpStep (e d a : Nat) (outImg toImage : Bool) (s : Mach) : Mach :=
  let x := s.eng e
  if x.canIssueAlone [d, a] then
    let ad := (x.get a).toNat
    if ad % 16 ≠ 0 then settle (preciseException s e 0x06 ad)
    else if !localOk s e ad 16 (x.level == 1) needR then
      settle (preciseException (localReport s e ad 16 (x.level == 1) needR) e 0x07 ad)
    else
      let g (o n : Nat) : Nat := leNat (engBytes s e (ad + o) n)
      let loc := g 0 8
      let k := g 8 2 % 2 ^ 14
      let off := g 12 2
      let len := g 14 2
      let b := if outImg then s.beatNum + 1 else s.beatNum
      let bank := if outImg then outBank b else inBank b
      let img := (if outImg then stOut s k b else stIn s k b) + off
      match imgFault s e ad loc k off len img toImage (x.level == 1) outImg with
      | some (v, q) => settle (preciseException (localReport s e loc len (x.level == 1) (if toImage then needR else needW)) e v q)
      | none =>
        let fl := recFlags s bank
        if !outImg && bitAt fl 0 && !bitAt fl 1 then s
        else if outImg && decide (s.img.outCopy = some (b % 2 ^ 32)) then s
        else if x.sb.any (fun t => t.kind == 0) then s
        else if !imgReach s img || imgPoison s img len || dramFails s loc len then settle (preciseException s e 0x07 ad)
        else
          let st := b % 2 ^ 32 + b2n (!outImg && !bitAt fl 0) * 2 ^ 32 + b2n (!outImg && recBit s bank k) * 2 ^ 33
                    + b2n (outImg && toImage && bitAt fl 0) * 2 ^ 34
                    + b2n (decide (recBeat s bank ≠ b % 2 ^ 32) && !outImg) * 2 ^ 35
          let s := if toImage then imgPut s e img (engBytes s e loc len)
                   else writeLocal s e loc (imgBytes s img len)
          settle (retireEng s e ((s.eng e).retireD d (BitVec.ofNat 64 st)))
  else stall s e

/-- IMGCP: mode[8] selects the output image, mode[9] the direction to the image. -/
def execImgcp (e : Fin 64) (d a : Fin 32) (outImg toImage : Bool) : State → Host.Outcome State Fault Refusal :=
  onI (.imgcp e d a outImg toImage) e (imgcpStep e d a outImg toImage)

/-! ### The launch register and waits -/

/-- R292: T(k, ph, t18). -/
def phaseTarget (s : Mach) (k : Int) (ph t : Nat) : Int :=
  Int.ofNat s.beat.strike + k * Int.ofNat (period s) + Int.ofNat (phaseOff s ph) + Int.ofNat (t * 10)

/-- A target within 2 s of the H-die time (R294). -/
def nearTime (s : Mach) (t : Int) : Bool :=
  decide (t - Int.ofNat s.hTime ≤ 2000000000) && decide (-2000000000 ≤ t - Int.ofNat s.hTime)

/-- The target of a T-format instruction, or the vector and EADDR that stop it (R293, R294). -/
def tTarget (s : Mach) (x : Engine) (phase : Bool) (r ph t : Nat) : Int ⊕ (Nat × Nat) :=
  if 6 ≤ ph then .inr (0x03, 0)
  else if phase && !s.b BT_STATUS_beat_run then .inr (0x07, 0)
  else
    let v := if phase then phaseTarget s (x.get r).toInt ph t else (Int.ofNat (x.get r).toNat)
    if nearTime s v then .inl v else .inr (0x07, twos 48 v)

/-- The engine begins to wait (Table 06-5); from init its cycles are counted from now (R223). -/
def Engine.waitFor (x : Engine) (now : Nat) (w : Waiting) : Engine :=
  { x with state := 4, wait := w, actAt := (if x.state = 1 then now else x.actAt), budgetAt := (if x.state = 1 then now else x.budgetAt) }

/-- LTSET and LTABS. -/
def ltStep (phase : Bool) (e r ph t : Nat) (s : Mach) : Mach :=
  let x := s.eng e
  if x.canIssue [r] then
    match tTarget s x phase r ph t with
    | .inr (v, ad) => settle (preciseException s e v ad)
    | .inl v => retireEng s e (Engine.retire4 { x with arch := { x.arch with launch := twos 32 v } })
  else stall s e

/-- LTSET: launch register = low32(T(s, ph, t18)). -/
def execLtset (e : Fin 64) (r : Fin 32) (ph : Fin 8) (t : BitVec 18) : State → Host.Outcome State Fault Refusal :=
  onI (.ltset e r ph t) e (ltStep true e r ph t.toNat)
/-- LTABS: launch register = low32(s). -/
def execLtabs (e : Fin 64) (r : Fin 32) : State → Host.Outcome State Fault Refusal := onI (.ltabs e r) e (ltStep false e r 0 0)

/-- WAITPH and WAITT: a target that has passed costs no wait; otherwise the engine waits (R297). -/
def waitStep (phase : Bool) (e r ph t : Nat) (s : Mach) : Mach :=
  let x := s.eng e
  if x.canIssueAlone [r] then
    match tTarget s x phase r ph t with
    | .inr (v, ad) => settle (preciseException s e v ad)
    | .inl v =>
      if v ≤ Int.ofNat s.hTime then retireEng s e x.retire4
      else settle (asyncCheck (s.setEng e (x.waitFor s.cycles (.time v.toNat))) e)
  else stall s e

/-- WAITPH. -/
def execWaitph (e : Fin 64) (r : Fin 32) (ph : Fin 8) (t : BitVec 18) : State → Host.Outcome State Fault Refusal :=
  onI (.waitph e r ph t) e (waitStep true e r ph t.toNat)
/-- WAITT. -/
def execWaitt (e : Fin 64) (r : Fin 32) : State → Host.Outcome State Fault Refusal := onI (.waitt e r) e (waitStep false e r 0 0)

/-- WAIT_TIME_REACHED: the H-die time reaches the target and the engine resumes (R297). -/
def execWaitTimeReached (e : Fin 64) : State → Host.Outcome State Fault Refusal :=
  onM (fun s =>
    let x := s.eng e
    match x.wait with
    | .time t =>
      let s := s.upToH t
      retireEng s e { x.retire4 with wait := .none, state := 3 }
    | _ => s)

/-! ### DELTA and JAPP -/

/-- Table 08-14: an element has changed. Values are the elements' bits, width w bits. The table does not say how the binary32
difference is rounded: a constant of Config (log entry 7). -/
def deltaChanged (mode w new old band : Nat) : Bool :=
  match mode with
  | 0 => new != old
  | 1 => decide (Int.ofNat band < (signed w new - signed w old).natAbs)
  | 2 => decide (band < absDiff new old)
  | _ =>
    let a := fpDecode fmt32 new
    let b := fpDecode fmt32 old
    if a.isNan || b.isNan then new != old
    else
      let d := (fpAddV fmt32 (roundMode Config.deltaRound) a b.neg).1 % 2 ^ 31
      (fpLt fmt32 band d).1 == 1

/-- The bytes of an element as a number (be: big-endian, R311). -/
def elemNat (be : Bool) (bs : List Byte) : Nat := if be then beNat bs else leNat bs

/-- Table 08-15, bytes 17 to 31. -/
def deltaRest (info stn tag idx oldv newv : Nat) : List Byte :=
  leBytes 1 info ++ leBytes 2 stn ++ leBytes 2 tag ++ leBytes 2 idx ++ leBytes 4 oldv ++ leBytes 4 newv

/-- DELTA and JAPP wait while the journal's input queue holds 3,072 entries or more (R549). -/
def journalBusy (s : Mach) : Bool :=
  s.jStarted && !s.b JN_STATUS_nojrn && s.b JN_CTRL_jrn_en && decide (3072 ≤ s.jq.length)

/-- The journal unit accepts an entry of a DELTA. While the queue holds 3,072 entries the instruction waits, and the unit writes
its oldest entry meanwhile (R549); none when it cannot. -/
def deltaAccept (s : Mach) (time : Nat) (rest : List Byte) : Option Mach :=
  let s := if journalBusy s then onJournalEntryWrite s else s
  if journalBusy s then none else some (doJournal s time 0x10 rest)

/-- One element of a DELTA: journal it if it changed, copy it; the count of changes goes on. -/
def deltaElem (e new old n mode band tag stn ibase time : Nat) (be cnt : Bool) (p : Option (Mach × Nat)) (i : Nat) : Option (Mach × Nat) :=
  match p with
  | none => none
  | some (s, c) =>
    let nb := engBytes s e (new + i * n) n
    let ob := engBytes s e (old + i * n) n
    if deltaChanged mode (8 * n) (elemNat be nb) (elemNat be ob) band then
      let info := (if n = 1 then 0 else if n = 2 then 1 else 2) + mode * 4 + b2n be * 16
      let t := if cnt then some s
        else deltaAccept s time (deltaRest info stn tag ((ibase + i) % 2 ^ 16) (elemNat be ob) (elemNat be nb))
      t.map (fun s => (writeLocal s e (old + i * n) nb, c + 1))
    else p

/-- DELTA (R311 to R314, R549). -/
def deltaStep (e d a sz : Nat) (be cnt : Bool) (mode : Nat) (s : Mach) : Mach :=
  let x := s.eng e
  if x.canIssueAlone [d, a] then
    let ad := (x.get a).toNat
    let n := widthOf sz
    if 3 ≤ sz ∨ (mode = 3 ∧ sz ≠ 2) then settle (preciseException s e 0x03 0)
    else if !cnt && x.lacks 4 then settle (preciseException s e 0x05 ad)
    else if ad % 32 ≠ 0 then settle (preciseException s e 0x06 ad)
    else if !localOk s e ad 32 (x.level == 1) needR then
      settle (preciseException (localReport s e ad 32 (x.level == 1) needR) e 0x07 ad)
    else
      let g (o k : Nat) : Nat := leNat (engBytes s e (ad + o) k)
      let new := g 0 8
      let old := g 8 8
      let cntE := g 16 2 + 1
      if new % n ≠ 0 then settle (preciseException s e 0x06 new)
      else if old % n ≠ 0 then settle (preciseException s e 0x06 old)
      else if !localOk s e new (cntE * n) (x.level == 1) needR then
        settle (preciseException (localReport s e new (cntE * n) (x.level == 1) needR) e 0x07 new)
      else if !localOk s e old (cntE * n) (x.level == 1) ⟨true, true, false⟩ then
        settle (preciseException (localReport s e old (cntE * n) (x.level == 1) ⟨true, true, false⟩) e 0x07 old)
      else if x.sb.any (fun t => t.kind == 0) then s
      else if dramFails s new (cntE * n) || dramFails s old (cntE * n) then settle (preciseException s e 0x07 ad)
      else
        let time := if bitAt (g 28 4) 0 then s.beat.strike else s.hTime
        match (keysFrom 0 cntE).foldl
            (deltaElem e new old n mode (g 24 4) (g 20 2) (g 18 2 % 2 ^ 14) (g 22 2) time be cnt) (some (s, 0)) with
        | none => s
        | some (t, c) =>
          let v := c + b2n (s.noJournal && !cnt) * 2 ^ 32
          settle (retireEng t e ((t.eng e).retireD d (BitVec.ofNat 64 v)))
  else stall s e

/-- DELTA: tc[14] big-endian, mode[10] count only, mode[9:8] the comparison. -/
def execDelta (e : Fin 64) (d a : Fin 32) (sz : Fin 8) (be cnt : Bool) (mode : Fin 4) : State → Host.Outcome State Fault Refusal :=
  onI (.delta e d a sz be cnt mode) e (deltaStep e d a sz.val be cnt mode.val)

/-- JAPP (R316, R549). The sequence number is the one the journal unit assigns at acceptance. -/
def jappStep (e d a : Nat) (s : Mach) : Mach :=
  let x := s.eng e
  if x.canIssueAlone [d, a] then
    let ad := (x.get a).toNat
    if x.lacks 4 then settle (preciseException s e 0x05 ad)
    else if ad % 4 ≠ 0 then settle (preciseException s e 0x06 ad)
    else if !localOk s e ad 12 (x.level == 1) needR then
      settle (preciseException (localReport s e ad 12 (x.level == 1) needR) e 0x07 ad)
    else if journalBusy s then s
    else
      let rest := leBytes 1 e ++ leBytes 2 (x.get d).toNat ++ engBytes s e ad 12
      let s := settle s
      let seq := s.n JN_NEXT
      let s := settle (s.jpush s.hTime 0x11 rest)
      let v := if s.n JN_NEXT = seq + 1 then BitVec.ofNat 64 seq else BitVec.allOnes 64
      settle (retireEng s e ((s.eng e).retireD d v))
  else stall s e

/-- JAPP. -/
def execJapp (e : Fin 64) (d a : Fin 32) : State → Host.Outcome State Fault Refusal := onI (.japp e d a) e (jappStep e d a)

/-! ### SCALE and CRC -/

/-- R318 with rev 0: raw × gain + offset, one rounding; then to binary32 when s32. -/
def scaleFwd (rm n : Nat) (sg s32 : Bool) (raw gain off : Nat) : Nat × Nat :=
  let v : Int := if sg then signed (8 * n) raw else Int.ofNat (raw % 2 ^ (8 * n))
  let r := fpFromInt fmt64 rm v
  let p := fpFma fmt64 rm r.1 gain off
  if s32 then
    let q := fpConv fmt64 fmt32 rm p.1
    (q.1, orFlags (orFlags r.2 p.2) q.2)
  else (p.1, orFlags r.2 p.2)

/-- R318 with rev 1: (x − offset) ÷ gain, rounded to an integer and saturated (each operation rounds, DEDUCED). -/
def scaleRev (rm n : Nat) (sg s32 : Bool) (x gain off : Nat) : Nat × Nat :=
  let c := if s32 then fpConv fmt32 fmt64 rm (x % 2 ^ 32) else (x, 0)
  let p := fpSub fmt64 rm c.1 off
  let q := fpDiv fmt64 rm p.1 gain
  let i := fpConvInt rm (fpDecode fmt64 q.1) (8 * n) sg
  (if sg then (sext64 (8 * n) (twos (8 * n) i.1)).toNat else twos (8 * n) i.1,
   orFlags (orFlags c.2 p.2) (orFlags q.2 i.2))

/-- SCALE (R317, R318): entry k of the scale table in own scratch. -/
def scaleStep (e d a k sz : Nat) (rev sg s32 : Bool) (s : Mach) : Mach :=
  if 4 ≤ sz then
    if (s.eng e).canIssue [d, a] then settle (preciseException s e 0x03 0) else stall s e
  else
    let t := 0x1F000 + 16 * k
    let gain := leNat (engBytes s e t 8)
    let off := leNat (engBytes s e (t + 8) 8)
    flagStep e d [a] (fun x =>
      let rm := roundMode x.arch.fcsr
      let v := (x.get a).toNat
      if rev then scaleRev rm (widthOf sz) sg s32 v gain off else scaleFwd rm (widthOf sz) sg s32 v gain off) s

/-- SCALE. -/
def execScale (e : Fin 64) (d a : Fin 32) (k : BitVec 8) (sz : Fin 8) (rev sg s32 : Bool) : State → Host.Outcome State Fault Refusal :=
  onI (.scale e d a k sz rev sg s32) e (scaleStep e d a k.toNat sz.val rev sg s32)

/-- The CRC state after a list of bytes (Table 08-17). -/
def crcRun (mode : Nat) (st : U64) (bs : List Byte) : U64 :=
  match mode with
  | 0 => (bs.foldl (crcReflected 0xEDB88320#32) (st.setWidth 32)).setWidth 64
  | 1 => (bs.foldl (crcReflected 0x82F63B78#32) (st.setWidth 32)).setWidth 64
  | _ => (bs.foldl crc16 (st.setWidth 16)).setWidth 64

/-- CRC (R319). -/
def crcStep (e d a n mode : Nat) (s : Mach) : Mach :=
  let x := s.eng e
  if x.canIssueAlone [d, a] then
    let ad := (x.get a).toNat
    if 3 ≤ mode then settle (preciseException s e 0x03 0)
    else if !localOk s e ad n (x.level == 1) needR then
      settle (preciseException (localReport s e ad n (x.level == 1) needR) e 0x07 ad)
    else if dramFails s ad n then settle (preciseException s e 0x07 ad)
    else retireEng s e (x.retireD d (crcRun mode (x.get d) (engBytes s e ad n)))
  else stall s e

/-- CRC: n = off8 + 1 bytes at a. -/
def execCrc (e : Fin 64) (d a : Fin 32) (n : BitVec 8) (mode : Fin 8) : State → Host.Outcome State Fault Refusal :=
  onI (.crc e d a n mode) e (crcStep e d a (n.toNat + 1) mode.val)

/-! ### EVPOST and EVWAIT -/

/-- The event record of an engine's post (R320, R456). -/
def engineEvent (s : Mach) (e : Nat) (w : U64) (urgent : Bool) : EvRec :=
  { id := fieldOf w 48 16, cond := fieldOf w 32 16, source := 0x4000 + e, time := s.hTime, urgent := urgent }

/-- The engine address at which a post to the event table is checked (Table 15-1): that of its first entry (log entry 82). -/
def evTableAddr : Nat := 0x40600100

/-- EVPOST (R320 to R322): a post to its own number by target 1 is dropped, as is one to its own full queue. It issues after earlier device stores have completed (R321); a post to another engine's full
queue holds the instruction back; one to an engine that is being migrated is held at its router (R326). -/
def evpostStep (e d a target : Nat) (urgent : Bool) (s : Mach) : Mach :=
  let x := s.eng e
  if x.canIssueAlone [d, a] && !x.devicePending then
    let tgt := if target = 0 then e else (x.get a).toNat % 64
    if 3 ≤ target then settle (preciseException s e 0x03 0)
    else if target ≠ 0 ∧ x.lacks 3 = true then settle (preciseException s e 0x05 (x.get a).toNat)
    else
      let r := engineEvent s e (x.get d) urgent
      let c := mpuCheck s e (x.level == 1) needW evTableAddr 8
      if target = 2 ∧ c.2.isSome = true then settle (preciseException c.1 e 0x07 (c.2.getD 0))
      else if target = 2 then
        settle (retireEng (postOutside s r) e ((postOutside s r).eng e).retire4)
      else if tgt = e then
        if target = 0 ∧ x.evq.length < 64 then
          retireEng s e { x.retire4 with evq := x.evq ++ [(eventWord r, r.time)] }
        else
          let s := s.logE { cause := 0x0A00 + Config.openCause 3 % 256, initiator := e, detail := Config.packDetail [r.id, r.cond] }
          settle (retireEng s e (s.eng e).retire4)
      else if s.port (s.clRouter (tgt / 4)) = 0 ∧ migrating s tgt = false ∧ (s.eng tgt).state ≠ 7 ∧ 64 ≤ (s.eng tgt).evq.length then s
      else
        let s := engineDeliver s r.id tgt r
        settle (retireEng s e (s.eng e).retire4)
  else stall s e

/-- EVPOST. -/
def execEvpost (e : Fin 64) (d a : Fin 32) (target : Fin 4) (urgent : Bool) : State → Host.Outcome State Fault Refusal :=
  onI (.evpost e d a target urgent) e (evpostStep e d a target.val urgent)

/-- The timeout word of EVWAIT (R323). -/
def evTimeoutWord : U64 := 0x80000000

/-- A binding pending for the event that is taken is no longer pending (R324): event bindings are looked up at dispatch,
so taking the event from the queue is enough. EVWAIT (R323). -/
def evwaitStep (e d a t : Nat) (s : Mach) : Mach :=
  let x := s.eng e
  if x.canIssueAlone [d, a] then
    let m := (x.get a).toNat / 65536 % 65536
    let k := (x.get a).toNat % 65536
    match takeFirst (fun p => evMatch (p.1 / 2 ^ 48 % 65536) m k) x.evq with
    | some (p, rest) => retireEng s e (({ x with evq := rest } : Engine).retireD d (BitVec.ofNat 64 p.1))
    | none =>
      settle (asyncCheck (s.setEng e (x.waitFor s.cycles (.event d m k (if t = 0 then none else some (s.hTime + t * 1000))))) e)
  else stall s e

/-- EVWAIT: off8 is the timeout in µs. -/
def execEvwait (e : Fin 64) (d a : Fin 32) (t : BitVec 8) : State → Host.Outcome State Fault Refusal :=
  onI (.evwait e d a t) e (evwaitStep e d a t.toNat)

/-- EVWAIT_TIMEOUT: d = the timeout word (R323). -/
def execEvwaitTimeout (e : Fin 64) : State → Host.Outcome State Fault Refusal :=
  onM (fun s =>
    let x := s.eng e
    match x.wait with
    | .event d _ _ (some t) =>
      let s := s.upToH t
      retireEng s e (x.resume d evTimeoutWord)
    | _ => s)

end Sys2Proof.Machine
end

