-- ==== Sys2Proof/Machine/Finish.lean ====
section
/-!
DEFINITION. The end of every command that is no Tyten instruction, and the command as a transition of the whole state.
-/
namespace Sys2Proof.Machine

/-- The end of every command outside the engines: raised work is done, disabled Uhlux ports are quiet, and every list of descriptors goes on
with what its ended requests allow (R302, R305). -/
def finish (s : Mach) : Mach := settle (gsPump (uxCheck (settle s)))

/-- A command as a transition of the whole state. -/
def onC (h : Mach → Mach) : State → Host.Outcome State Fault Refusal := onM (fun s => finish (h s))

/-- A command that reads the firmware store. -/
def onR (h : Nv → Mach → Mach) (s : State) : Host.Outcome State Fault Refusal := .next { s with m := finish (h s.nv s.m) }

/-- A command that changes the firmware store. -/
def onN (h : Nv → Mach → Nv × Mach) (s : State) : Host.Outcome State Fault Refusal :=
  .next { s with nv := (h s.nv s.m).1, m := finish (h s.nv s.m).2 }

end Sys2Proof.Machine
end

