-- ==== Sys2Proof/Machine/Commands.lean ====
section
/-!
DEFINITION. One meaning per command that is not a Tyten instruction: the step of its unit on the module, after which the
log, journal and event units do the work it raised (Service.lean).
-/
namespace Sys2Proof.Machine

/-- REGISTER_WRITE (R2). -/
def execRegisterWrite (master : BitVec 7) (off : BitVec 26) (n : Nat) (enabled : Bool) (value : U64) : State → Host.Outcome State Fault Refusal := onC (onRegisterWrite master off n enabled value)

/-- REGISTER_LOWER_HALF_READ (R9). -/
def execRegisterLowerHalfRead (master : BitVec 7) (word : BitVec 23) : State → Host.Outcome State Fault Refusal := onC (onRegisterLowerHalfRead master word)

/-- RC_FIELD_READ (R2). -/
def execRcFieldRead (master : BitVec 7) (word : BitVec 24) : State → Host.Outcome State Fault Refusal := onC (onRcFieldRead master word)

/-- STAGING_CHECK_COMPLETE (R648). -/
def execStagingCheckComplete : State → Host.Outcome State Fault Refusal := onC onStagingCheckComplete

/-- STAGE_COMMIT (R5). -/
def execStageCommit (master : BitVec 7) (tag : BitVec 16) : State → Host.Outcome State Fault Refusal := onC (onStageCommit master tag)

/-- STAGE_DISCARD (R651). -/
def execStageDiscard : State → Host.Outcome State Fault Refusal := onC onStageDiscard

/-- COMMIT_APPLY_BEATS_OFF (R650). -/
def execCommitApplyBeatsOff : State → Host.Outcome State Fault Refusal := onC onCommitApplyBeatsOff

/-- GL_RESET_MODULE (R639). -/
def execGlResetModule (master : BitVec 7) : State → Host.Outcome State Fault Refusal := onC (onGlResetModule master)

/-- GL_RESET_HDIE (R639). -/
def execGlResetHdie (master : BitVec 7) : State → Host.Outcome State Fault Refusal := onC (onGlResetHdie master)

/-- BEAT_START (R49). -/
def execBeatStart : State → Host.Outcome State Fault Refusal := onC onBeatStart

/-- BEAT_STOP (R50). -/
def execBeatStop : State → Host.Outcome State Fault Refusal := onC beatStopNow

/-- FINAL_EDGE (R50). -/
def execFinalEdge : State → Host.Outcome State Fault Refusal := onC onFinalEdge

/-- TIME_STEP (R33). -/
def execTimeStep : State → Host.Outcome State Fault Refusal := onC onTimeStep

/-- BEAT_EDGE (R51). -/
def execBeatEdge : State → Host.Outcome State Fault Refusal := onC onBeatEdge

/-- DOWNBEAT_CONTENT_FIX (R56). -/
def execDownbeatContentFix : State → Host.Outcome State Fault Refusal := onC onDownbeatContentFix

/-- DOWNBEAT_LAUNCH (R54). -/
def execDownbeatLaunch : State → Host.Outcome State Fault Refusal := onC onDownbeatLaunch

/-- DOWNBEAT_LOOP_RETURN (R60). -/
def execDownbeatLoopReturn (p : Fin 8) (f : Frame) : State → Host.Outcome State Fault Refusal := onC (onDownbeatLoopReturn p f)

/-- PHASE_INPUT_COMPLETE (R533). -/
def execPhaseInputComplete : State → Host.Outcome State Fault Refusal := onC onPhaseInputComplete

/-- PHASE_OUTPUT_DEADLINE (R535). -/
def execPhaseOutputDeadline : State → Host.Outcome State Fault Refusal := onC onPhaseOutputDeadline

/-- DECISION_DEADLINE (R175). -/
def execDecisionDeadline : State → Host.Outcome State Fault Refusal := onC onDecisionDeadline

/-- PPS_PULSE_START (R36). -/
def execPpsPulseStart : State → Host.Outcome State Fault Refusal := onC onPpsPulseStart

/-- PPS_PULSE_END (R36). -/
def execPpsPulseEnd : State → Host.Outcome State Fault Refusal := onC onPpsPulseEnd

/-- STRIKE_MIRROR_PULSE_END (R186). -/
def execStrikeMirrorPulseEnd : State → Host.Outcome State Fault Refusal := onC onStrikeMirrorPulseEnd

/-- HDIE_TIME_SAMPLE (R34). -/
def execHdieTimeSample (agree : Bool) : State → Host.Outcome State Fault Refusal := onC (onHdieTimeSample agree)

/-- PTM_REQUEST (R38). -/
def execPtmRequest : State → Host.Outcome State Fault Refusal := onC onPtmRequest

/-- PTM_DIALOG_COMPLETE (R38). -/
def execPtmDialogComplete (ok : Bool) (rtt : Nat) (host : Int) : State → Host.Outcome State Fault Refusal := onC (onPtmDialogComplete ok rtt host)

/-- PTP_SYNC_RECEIVE (R37). -/
def execPtpSyncReceive (domain : Nat) (l2 : Bool) (t1 : Nat) (t3 : Nat) (t4 : Nat) : State → Host.Outcome State Fault Refusal := onC (onPtpSyncReceive domain l2 t1 t3 t4)

/-- PTP_ANNOUNCE_RECEIVE (R41). -/
def execPtpAnnounceReceive (domain : Nat) (l2 : Bool) : State → Host.Outcome State Fault Refusal := onC (onPtpAnnounceReceive domain l2)

/-- PTP_ANNOUNCE_TIMEOUT (R41). -/
def execPtpAnnounceTimeout : State → Host.Outcome State Fault Refusal := onC onPtpAnnounceTimeout

/-- PPS_EDGE (R39). -/
def execPpsEdge (t : Nat) (falling : Bool) (ref : Bool) : State → Host.Outcome State Fault Refusal := onC (onPpsEdge t falling ref)

/-- PPS_MISSING (R41). -/
def execPpsMissing : State → Host.Outcome State Fault Refusal := onC onPpsMissing

/-- REF10_LOSS (R41). -/
def execRef10Loss : State → Host.Outcome State Fault Refusal := onC onRef10Loss

/-- WAIT_TO_RESTORE_EXPIRE (R43). -/
def execWaitToRestoreExpire : State → Host.Outcome State Fault Refusal := onC onWaitToRestoreExpire

/-- CALIBRATE_RING (R59). -/
def execCalibrateRing (ring : Fin 4) : State → Host.Outcome State Fault Refusal := onC (onCalibrateRing ring)

/-- CAL_DOWNBEAT_RECEIVE (R686). -/
def execCalDownbeatReceive (p : Fin 8) (f : Frame) : State → Host.Outcome State Fault Refusal := onC (onCalDownbeatReceive p f)

/-- SFP_INSERT (R80). -/
def execSfpInsert (p : Fin 8) (code : Nat) : State → Host.Outcome State Fault Refusal := onC (onSfpInsert p code)

/-- SFP_REMOVE (R82). -/
def execSfpRemove (p : Fin 8) : State → Host.Outcome State Fault Refusal := onC (onSfpRemove p)

/-- SFP_TX_FAULT (R82). -/
def execSfpTxFault (p : Fin 8) : State → Host.Outcome State Fault Refusal := onC (onSfpTxFault p)

/-- SFP_LOS_ASSERT (R82). -/
def execSfpLosAssert (p : Fin 8) : State → Host.Outcome State Fault Refusal := onC (onSfpLosAssert p)

/-- SFP_LOS_DEASSERT (R81). -/
def execSfpLosDeassert (p : Fin 8) : State → Host.Outcome State Fault Refusal := onC (onSfpLosDeassert p)

/-- SFP_TEMP_POLL (R675). -/
def execSfpTempPoll (p : Fin 8) (temp : BitVec 16) : State → Host.Outcome State Fault Refusal := onC (onSfpTempPoll p temp)

/-- PCS_LOCK_LOSS (R82). -/
def execPcsLockLoss (p : Fin 8) (hiBer : Bool) : State → Host.Outcome State Fault Refusal := onC (onPcsLockLoss p hiBer)

/-- PORT_LOCK_HOLD_EXPIRE (R81). -/
def execPortLockHoldExpire (p : Fin 8) : State → Host.Outcome State Fault Refusal := onC (onPortLockHoldExpire p)

/-- PORT_TRAINING_TIMEOUT (R684). -/
def execPortTrainingTimeout (p : Fin 8) : State → Host.Outcome State Fault Refusal := onC (onPortTrainingTimeout p)

/-- FEC_AUTO_ATTEMPT_EXPIRE (R78). -/
def execFecAutoAttemptExpire (p : Fin 8) : State → Host.Outcome State Fault Refusal := onC (onFecAutoAttemptExpire p)

/-- PORT_SILENCE_TIMEOUT (R82). -/
def execPortSilenceTimeout (p : Fin 8) : State → Host.Outcome State Fault Refusal := onC (onPortSilenceTimeout p)

/-- LINK_FRAME_RECEIVE (R108). -/
def execLinkFrameReceive (p : Fin 8) (f : Frame) (corrected : Nat) : State → Host.Outcome State Fault Refusal := onC (onLinkFrameReceive p f corrected)

/-- LINK_FRAME_SEND (R110). -/
def execLinkFrameSend (p : Fin 8) : State → Host.Outcome State Fault Refusal := onC (onLinkFrameSend p)

/-- REPLAY_TIMEOUT (R111). -/
def execReplayTimeout (p : Fin 8) : State → Host.Outcome State Fault Refusal := onC (onReplayTimeout p)

/-- FRAME_TRANSMIT (R86). -/
def execFrameTransmit (p : Fin 8) (cut : Option Nat) : State → Host.Outcome State Fault Refusal := onC (onFrameTransmit p cut)

/-- IMAGE_IN_RECEIVE (R532). -/
def execImageInReceive (p : Fin 8) (f : Frame) : State → Host.Outcome State Fault Refusal := onC (onImageInReceive p f)

/-- READ_RESPONSE_RECEIVE (R95). -/
def execReadResponseReceive (p : Fin 8) (f : Frame) : State → Host.Outcome State Fault Refusal := onC (onReadResponseReceive p f)

/-- WRITE_ACK_RECEIVE (R389). -/
def execWriteAckReceive (p : Fin 8) (f : Frame) : State → Host.Outcome State Fault Refusal := onC (onWriteAckReceive p f)

/-- EVENT_FRAME_TC0 (R469). -/
def execEventFrameTc0 (p : Fin 8) (f : Frame) (upset : Option (Fin 2 × Fin 4096 × Fin 10 × U64)) : State → Host.Outcome State Fault Refusal := onC (onEventFrameTc0 p f upset)

/-- EVENT_FRAME_TC2 (R408). -/
def execEventFrameTc2 (p : Fin 8) (f : Frame) : State → Host.Outcome State Fault Refusal := onC (onEventFrameTc2 p f)

/-- VOTE_RECEIVE (R171). -/
def execVoteReceive (p : Fin 8) (f : Frame) : State → Host.Outcome State Fault Refusal := onC (onVoteReceive p f)

/-- ENUM_START (R126). -/
def execEnumStart (ring : Fin 4) : State → Host.Outcome State Fault Refusal := onC (onEnumStart ring)

/-- ENUM_ANSWER_RECEIVE (R130). -/
def execEnumAnswerReceive (p : Fin 8) (f : Frame) : State → Host.Outcome State Fault Refusal := onC (onEnumAnswerReceive p f)

/-- ENUM_PROBE_TIMEOUT (R127). -/
def execEnumProbeTimeout (ring : Fin 4) : State → Host.Outcome State Fault Refusal := onC (onEnumProbeTimeout ring)

/-- ENUM_PROBE_RETURN (R133). -/
def execEnumProbeReturn (p : Fin 8) (f : Frame) : State → Host.Outcome State Fault Refusal := onC (onEnumProbeReturn p f)

/-- DELAY_ANSWER_RECEIVE (R131). -/
def execDelayAnswerReceive (p : Fin 8) (f : Frame) : State → Host.Outcome State Fault Refusal := onC (onDelayAnswerReceive p f)

/-- DELAY_REQUEST_TIMEOUT (R131). -/
def execDelayRequestTimeout (k : BitVec 14) : State → Host.Outcome State Fault Refusal := onC (onDelayRequestTimeout k)

/-- ADOPTION_STEP_TIMEOUT (R139). -/
def execAdoptionStepTimeout (k : BitVec 14) : State → Host.Outcome State Fault Refusal := onC (onAdoptionStepTimeout k)

/-- STATION_ABSENT_TIMEOUT (R134). -/
def execStationAbsentTimeout (k : BitVec 14) : State → Host.Outcome State Fault Refusal := onC (onStationAbsentTimeout k)

/-- ST_CLAMP_SET (R134). -/
def execStClampSet (k : BitVec 14) : State → Host.Outcome State Fault Refusal := onC (onStClampSet k)

/-- ST_CLAMP_CLR (R134). -/
def execStClampClr (k : BitVec 14) : State → Host.Outcome State Fault Refusal := onC (onStClampClr k)

/-- REROUTE_TIMER_EXPIRE (R150). -/
def execRerouteTimerExpire (ring : Fin 4) : State → Host.Outcome State Fault Refusal := onC (onRerouteTimerExpire ring)

/-- ROUTE_CHANGE_WAIT_EXPIRE (R153). -/
def execRouteChangeWaitExpire (k : BitVec 14) : State → Host.Outcome State Fault Refusal := onC (onRouteChangeWaitExpire k)

/-- SK_FORCE_HOLD_WRITE (R177). -/
def execSkForceHoldWrite (k : Fin 4) (v : U64) : State → Host.Outcome State Fault Refusal := onC (onSkForceHoldWrite k v)

/-- ENGINE_START (R200). -/
def execEngineStart (e : Fin 64) : State → Host.Outcome State Fault Refusal := onC (onEngineStart e)

/-- ENGINE_STOP (R217). -/
def execEngineStop (e : Fin 64) : State → Host.Outcome State Fault Refusal := onC (onEngineStop e)

/-- ENGINE_STOP_COMPLETE (R217). -/
def execEngineStopComplete (e : Fin 64) : State → Host.Outcome State Fault Refusal := onC (onEngineStopComplete e)

/-- CLUSTER_CLAMP (R218). -/
def execClusterClamp (c : Fin 16) (set : Bool) : State → Host.Outcome State Fault Refusal := onC (onClusterClamp c set)

/-- ISRAM_WRITE (R216). -/
def execIsramWrite (e : Fin 64) (a : BitVec 16) (data : List Byte) : State → Host.Outcome State Fault Refusal := onC (onIsramWrite e a data)

/-- MIGRATE_REQUEST (R220). -/
def execMigrateRequest (src : Fin 16) : State → Host.Outcome State Fault Refusal := onC (onMigrateRequest src)

/-- MIGRATION_GRACE_EXPIRE (R221). -/
def execMigrationGraceExpire : State → Host.Outcome State Fault Refusal := onC onMigrationGraceExpire

/-- MIGRATION_COPY_DONE (R221). -/
def execMigrationCopyDone : State → Host.Outcome State Fault Refusal := onC onMigrationCopyDone

/-- BINDING_FIRE (R198). -/
def execBindingFire (e : Fin 64) (k : Fin 16) : State → Host.Outcome State Fault Refusal := onC (onBindingFire e k)

/-- BINDING_DISPATCH (R201). -/
def execBindingDispatch (e : Fin 64) : State → Host.Outcome State Fault Refusal := onC (onBindingDispatch e)

/-- BUDGET_EXPIRE (R206). -/
def execBudgetExpire (e : Fin 64) : State → Host.Outcome State Fault Refusal := onC (onBudgetExpire e)

/-- MACHINE_CHECK (R208). -/
def execMachineCheck (e : Fin 64) : State → Host.Outcome State Fault Refusal := onC (onMachineCheck e)

/-- HOST_BAR2_READ (R367). -/
def execHostBar2Read (tag : Nat) (rid : Nat) (off : BitVec 36) (be : List Bool) : State → Host.Outcome State Fault Refusal := onC (onHostBar2Read tag rid off be)

/-- HOST_BAR2_WRITE (R371). -/
def execHostBar2Write (rid : Nat) (off : BitVec 36) (be : List Bool) (data : List Byte) : State → Host.Outcome State Fault Refusal := onC (onHostBar2Write rid off be data)

/-- HOST_BAR4_READ (R363). -/
def execHostBar4Read (tag : Nat) (rid : Nat) (off : BitVec 34) (n : Nat) : State → Host.Outcome State Fault Refusal := onC (onHostBar4Read tag rid off n)

/-- HOST_BAR4_WRITE (R363). -/
def execHostBar4Write (off : BitVec 34) (be : List Bool) (data : List Byte) : State → Host.Outcome State Fault Refusal := onC (onHostBar4Write off be data)

/-- HOST_ATOMICOP (R356). -/
def execHostAtomicop (tag : Nat) (rid : Nat) (bar : Fin 3) (off : BitVec 36) : State → Host.Outcome State Fault Refusal := onC (onHostAtomicop tag rid bar off)

/-- SRAM_WINDOW_ACCESS (R361). -/
def execSramWindowAccess (tag : Nat) (off : BitVec 26) (n : Nat) (data : Option (List Byte)) : State → Host.Outcome State Fault Refusal := onC (onSramWindowAccess tag off n data)

/-- HOST_READ_ABANDON (R396). -/
def execHostReadAbandon (tag : Nat) : State → Host.Outcome State Fault Refusal := onC (onHostReadAbandon tag)

/-- STATION_TIMEOUT (R393). -/
def execStationTimeout (b : Nat) : State → Host.Outcome State Fault Refusal := onC (onStationTimeout b)

/-- CWP_GO (R405). -/
def execCwpGo (k : Fin 8) : State → Host.Outcome State Fault Refusal := onC (onCwpGo k)

/-- CWP_STATUS_READ (R406). -/
def execCwpStatusRead (m : BitVec 7) (k : Fin 8) : State → Host.Outcome State Fault Refusal := onC (onCwpStatusRead m k)

/-- ORPHAN_POP (R400). -/
def execOrphanPop : State → Host.Outcome State Fault Refusal := onC onOrphanPop

/-- EVENT_FENCE_SATISFIED (R408). -/
def execEventFenceSatisfied (idx : Nat) : State → Host.Outcome State Fault Refusal := onC (onEventFenceSatisfied idx)

/-- FENCE_TIMEOUT (R409). -/
def execFenceTimeout (idx : Nat) : State → Host.Outcome State Fault Refusal := onC (onFenceTimeout idx)

/-- UHLUX_OUTBOUND_START (R425). -/
def execUhluxOutboundStart (p : Fin 2) : State → Host.Outcome State Fault Refusal := onC (onUhluxOutboundStart p)

/-- UHLUX_ACK (R430). -/
def execUhluxAck (p : Fin 2) (data : BitVec 16) : State → Host.Outcome State Fault Refusal := onC (onUhluxAck p data)

/-- UHLUX_BERR (R430). -/
def execUhluxBerr (p : Fin 2) : State → Host.Outcome State Fault Refusal := onC (onUhluxBerr p)

/-- UHLUX_CYCLE_TIMEOUT (R430). -/
def execUhluxCycleTimeout (p : Fin 2) : State → Host.Outcome State Fault Refusal := onC (onUhluxCycleTimeout p)

/-- UHLUX_SLOT_ABSENT (R447). -/
def execUhluxSlotAbsent (p : Fin 2) (slot : Fin 16) : State → Host.Outcome State Fault Refusal := onC (onUhluxSlotAbsent p slot)

/-- UHLUX_READ_TIMEOUT (R429). -/
def execUhluxReadTimeout (b : Nat) : State → Host.Outcome State Fault Refusal := onC (onUhluxReadTimeout b)

/-- UHLUX_BUS_HOG_TIMEOUT (R434). -/
def execUhluxBusHogTimeout (p : Fin 2) : State → Host.Outcome State Fault Refusal := onC (onUhluxBusHogTimeout p)

/-- UHLUX_BUS_REQUEST (R432). -/
def execUhluxBusRequest (p : Fin 2) : State → Host.Outcome State Fault Refusal := onC (onUhluxBusRequest p)

/-- UHLUX_BBSY (R432). -/
def execUhluxBbsy (p : Fin 2) (low : Bool) : State → Host.Outcome State Fault Refusal := onC (onUhluxBbsy p low)

/-- UHLUX_INBOUND_CYCLE (R439). -/
def execUhluxInboundCycle (p : Fin 2) (a : BitVec 24) (word : Bool) (lock : Bool) (data : Option (BitVec 16)) : State → Host.Outcome State Fault Refusal := onC (onUhluxInboundCycle p a word lock data)

/-- UHLUX_INBOUND_WRITE_PERFORM (R440). -/
def execUhluxInboundWritePerform (p : Fin 2) : State → Host.Outcome State Fault Refusal := onC (onUhluxInboundWritePerform p)

/-- UHLUX_SLAVE_ACK_TIMEOUT (R435). -/
def execUhluxSlaveAckTimeout (p : Fin 2) : State → Host.Outcome State Fault Refusal := onC (onUhluxSlaveAckTimeout p)

/-- UHLUX_BUS_TIMER (R436). -/
def execUhluxBusTimer (p : Fin 2) (a : BitVec 24) : State → Host.Outcome State Fault Refusal := onC (onUhluxBusTimer p a)

/-- UHLUX_IRQ (R442). -/
def execUhluxIrq (p : Fin 2) (levels : BitVec 7) : State → Host.Outcome State Fault Refusal := onC (onUhluxIrq p levels)

/-- UHLUX_IRQ_RESAMPLE (R444). -/
def execUhluxIrqResample (p : Fin 2) (level : Fin 8) : State → Host.Outcome State Fault Refusal := onC (onUhluxIrqResample p level)

/-- UHLUX_IRQ_AUTO_DISABLE (R446). -/
def execUhluxIrqAutoDisable (p : Fin 2) (level : Fin 8) : State → Host.Outcome State Fault Refusal := onC (onUhluxIrqAutoDisable p level)

/-- UHLUX_SYSRESET (R448). -/
def execUhluxSysreset (p : Fin 2) : State → Host.Outcome State Fault Refusal := onC (onUhluxSysreset p)

/-- UHLUX_SYSRESET_END (R448). -/
def execUhluxSysresetEnd (p : Fin 2) : State → Host.Outcome State Fault Refusal := onC (onUhluxSysresetEnd p)

/-- UX_SLOT_READMIT (R447). -/
def execUxSlotReadmit (p : Fin 2) (mask : BitVec 16) : State → Host.Outcome State Fault Refusal := onC (onUxSlotReadmit p mask)

/-- HOLDOFF_TIMER_END (R463). -/
def execHoldoffTimerEnd (id : BitVec 16) : State → Host.Outcome State Fault Refusal := onC (onHoldoffTimerEnd id)

/-- EVENT_HELD_DELIVER (R462). -/
def execEventHeldDeliver (e : Fin 64) : State → Host.Outcome State Fault Refusal := onC (onEventHeldDeliver e)

/-- MSIX_UNMASK (R465). -/
def execMsixUnmask (v : Option (BitVec 11)) : State → Host.Outcome State Fault Refusal := onC (onMsixUnmask v)

/-- PCIE_LINK_L0_RETURN (R467). -/
def execPcieLinkL0Return : State → Host.Outcome State Fault Refusal := onC onPcieLinkL0Return

/-- REFLEX_TABLE_COMPARE (R474). -/
def execReflexTableCompare (idx : Fin 4096) (upset : Option (Fin 2 × Fin 4096 × Fin 10 × U64)) : State → Host.Outcome State Fault Refusal := onC (onReflexTableCompare idx upset)

/-- INTERLOCK_INPUT_CHANGE (R670). -/
def execInterlockInputChange (k : Fin 6) (level : Bool) : State → Host.Outcome State Fault Refusal := onC (onInterlockInputChange k level)

/-- NOC_PACKET_INJECT (R491). -/
def execNocPacketInject (src : Fin 24) (dst : Fin 24) (sport : Fin 4) (dport : Fin 4) (master : BitVec 7) (cls : Fin 4) (op : BitVec 4) (tag : BitVec 10) (addr : BitVec 48) (bseq : U64) (code : Byte) (data : List Byte) : State → Host.Outcome State Fault Refusal := onC (onNocPacketInject src dst sport dport master cls op tag addr bseq code data)

/-- NOC_PACKET_DELIVER (R489). -/
def execNocPacketDeliver (idx : Nat) (hop : Nat) (noise : List (BitVec 264)) : State → Host.Outcome State Fault Refusal := onC (onNocPacketDeliver idx hop noise)

/-- NOC_TARGET_TIMEOUT (R496). -/
def execNocTargetTimeout (idx : Nat) : State → Host.Outcome State Fault Refusal := onC (onNocTargetTimeout idx)

/-- NOC_PORT_ISOLATE (R496). -/
def execNocPortIsolate (r : Fin 24) : State → Host.Outcome State Fault Refusal := onC (onNocPortIsolate r)

/-- NC_PORT_ISOLATE_WRITE (R495). -/
def execNcPortIsolateWrite (r : Fin 24) : State → Host.Outcome State Fault Refusal := onC (onNcPortIsolateWrite r)

/-- NC_PORT_RELEASE (R498). -/
def execNcPortRelease (r : Fin 24) : State → Host.Outcome State Fault Refusal := onC (onNcPortRelease r)

/-- DOVETAIL_PORT_HOLD_EXPIRE (R499). -/
def execDovetailPortHoldExpire (bridge : Bool) (idx : Nat) : State → Host.Outcome State Fault Refusal := onC (onDovetailPortHoldExpire bridge idx)

/-- CLUSTER_GATE_IDLE_EXPIRE (R500). -/
def execClusterGateIdleExpire (c : Fin 16) : State → Host.Outcome State Fault Refusal := onC (onClusterGateIdleExpire c)

/-- CLUSTER_SWITCH_OPEN (R500). -/
def execClusterSwitchOpen (c : Fin 16) : State → Host.Outcome State Fault Refusal := onC (onClusterSwitchOpen c)

/-- CLUSTER_WAKE (R501). -/
def execClusterWake (c : Fin 16) : State → Host.Outcome State Fault Refusal := onC (onClusterWake c)

/-- CLUSTER_WAKE_DONE (R501). -/
def execClusterWakeDone (c : Fin 16) : State → Host.Outcome State Fault Refusal := onC (onClusterWakeDone c)

/-- PT_CLEAR_FIRST (R525). -/
def execPtClearFirst : State → Host.Outcome State Fault Refusal := onC onPtClearFirst

/-- JOURNAL_ENTRY_WRITE (R547). -/
def execJournalEntryWrite : State → Host.Outcome State Fault Refusal := onC onJournalEntryWrite

/-- JOURNAL_READER_READ (R551). -/
def execJournalReaderRead (master : BitVec 7) (r : Fin 4) : State → Host.Outcome State Fault Refusal := onC (onJournalReaderRead master r)

/-- JOURNAL_CURSOR_WRITE (R551). -/
def execJournalCursorWrite (r : Fin 4) (v : U64) : State → Host.Outcome State Fault Refusal := onC (onJournalCursorWrite r v)

/-- JN_DEGRADE_WRITE (R552). -/
def execJnDegradeWrite (v : Bool) : State → Host.Outcome State Fault Refusal := onC (onJnDegradeWrite v)

/-- MOVER_DESC_ENQUEUE (R542). -/
def execMoverDescEnqueue (master : BitVec 7) (c : Fin 8) (word3 : U64) : State → Host.Outcome State Fault Refusal := onC (onMoverDescEnqueue master c word3)

/-- MOVER_START (R543). -/
def execMoverStart (c : Fin 8) : State → Host.Outcome State Fault Refusal := onC (onMoverStart c)

/-- MOVER_DONE (R544). -/
def execMoverDone (c : Fin 8) (data : List Byte) (ok : Bool) : State → Host.Outcome State Fault Refusal := onC (onMoverDone c data ok)

/-- MOVER_BME_TIMEOUT (R545). -/
def execMoverBmeTimeout (c : Fin 8) : State → Host.Outcome State Fault Refusal := onC (onMoverBmeTimeout c)

/-- SCRUB_LINE (R555). -/
def execScrubLine (line : BitVec 28) (corr : BitVec 8) (bad : BitVec 8) : State → Host.Outcome State Fault Refusal := onC (onScrubLine line corr bad)

/-- CLAMP_RING_PORT (R559). -/
def execClampRingPort (p : Fin 8) (set : Bool) : State → Host.Outcome State Fault Refusal := onC (onClampRingPort p set)

/-- CLAMP_UHLUX_PORT (R560). -/
def execClampUhluxPort (p : Fin 2) (set : Bool) : State → Host.Outcome State Fault Refusal := onC (onClampUhluxPort p set)

/-- CLAMP_DRAM (R560). -/
def execClampDram (set : Bool) : State → Host.Outcome State Fault Refusal := onC (onClampDram set)

/-- CLAMP_MOVERS (R560). -/
def execClampMovers (set : Bool) : State → Host.Outcome State Fault Refusal := onC (onClampMovers set)

/-- CLAMP_TENON (R559). -/
def execClampTenon (set : Bool) : State → Host.Outcome State Fault Refusal := onC (onClampTenon set)

/-- ERROR_LOG_CLEAR (R564). -/
def execErrorLogClear : State → Host.Outcome State Fault Refusal := onC onErrorLogClear

/-- SELF_TEST_CLUSTER_BIST (R567). -/
def execSelfTestClusterBist (c : Fin 16) (migrate : Bool) : State → Host.Outcome State Fault Refusal := onC (onSelfTestClusterBist c migrate)

/-- SELF_TEST_RING_RECAL (R569). -/
def execSelfTestRingRecal (p : Fin 16) : State → Host.Outcome State Fault Refusal := onC (onSelfTestRingRecal p)

/-- BIST_DONE (R568). -/
def execBistDone (ok : Bool) (element : BitVec 8) : State → Host.Outcome State Fault Refusal := onC (onBistDone ok element)

/-- RECAL_DONE (R569). -/
def execRecalDone : State → Host.Outcome State Fault Refusal := onC onRecalDone

/-- TWIN_TIME (R578). -/
def execTwinTime (t : U64) : State → Host.Outcome State Fault Refusal := onC (onTwinTime t)

/-- TWIN_BANK_DATA (R578). -/
def execTwinBankData (bank : Fin 4) (off : Nat) (data : List Byte) : State → Host.Outcome State Fault Refusal := onC (onTwinBankData bank off data)

/-- TWIN_STAGED_SET (R578). -/
def execTwinStagedSet (pairs : List (Nat × U64)) : State → Host.Outcome State Fault Refusal := onC (onTwinStagedSet pairs)

/-- TWIN_DECL_DATA (R578). -/
def execTwinDeclData (region : Fin 8) (off : Nat) (data : List Byte) : State → Host.Outcome State Fault Refusal := onC (onTwinDeclData region off data)

/-- TWIN_COUNTERS (R578). -/
def execTwinCounters (jn : U64) (br : U64) (seqs : List (Nat × Nat)) (regs : List (Nat × U64)) : State → Host.Outcome State Fault Refusal := onC (onTwinCounters jn br seqs regs)

/-- TWIN_FAILURE_DECL (R579). -/
def execTwinFailureDecl (cause : BitVec 16) : State → Host.Outcome State Fault Refusal := onC (onTwinFailureDecl cause)

/-- TWIN_BEAT_SEALED (R574). -/
def execTwinBeatSealed (beat : BitVec 32) (count : Nat) : State → Host.Outcome State Fault Refusal := onC (onTwinBeatSealed beat count)

/-- TWIN_SEAL_ACK (R578). -/
def execTwinSealAck (beat : BitVec 32) : State → Host.Outcome State Fault Refusal := onC (onTwinSealAck beat)

/-- TWIN_DOWNBEAT_MISSING (R579). -/
def execTwinDownbeatMissing : State → Host.Outcome State Fault Refusal := onC onTwinDownbeatMissing

/-- TW_TAKEOVER (R579). -/
def execTwTakeover : State → Host.Outcome State Fault Refusal := onC onTwTakeover

/-- TW_RESIGN (R579). -/
def execTwResign : State → Host.Outcome State Fault Refusal := onC onTwResign

/-- TENON_LINK_DOWN (R582). -/
def execTenonLinkDown : State → Host.Outcome State Fault Refusal := onC onTenonLinkDown

/-- DOVETAIL_FLIT_RECEIVE (R591). -/
def execDovetailFlitReceive (d : Fin 2) (noise : BitVec 680) : State → Host.Outcome State Fault Refusal := onC (onDovetailFlitReceive d noise)

/-- DOVETAIL_LANE_LOCK_LOSS (R596). -/
def execDovetailLaneLockLoss (d : Fin 2) (lane : Fin 17) : State → Host.Outcome State Fault Refusal := onC (onDovetailLaneLockLoss d lane)

/-- DOVETAIL_ERROR_RATE_CHECK (R596). -/
def execDovetailErrorRateCheck : State → Host.Outcome State Fault Refusal := onC onDovetailErrorRateCheck

/-- DOVETAIL_RETRAIN_REQUEST (R596). -/
def execDovetailRetrainRequest : State → Host.Outcome State Fault Refusal := onC onDovetailRetrainRequest

/-- DOVETAIL_UNSPARE (R597). -/
def execDovetailUnspare : State → Host.Outcome State Fault Refusal := onC onDovetailUnspare

/-- DOVETAIL_RETRAIN_DONE (R598). -/
def execDovetailRetrainDone (h2f : BitVec 17) (f2h : BitVec 17) : State → Host.Outcome State Fault Refusal := onC (onDovetailRetrainDone h2f f2h)

/-- DOVETAIL_RETRAIN_TIMEOUT (R595). -/
def execDovetailRetrainTimeout : State → Host.Outcome State Fault Refusal := onC onDovetailRetrainTimeout

/-- DOVETAIL_TRAINING_START (R595). -/
def execDovetailTrainingStart : State → Host.Outcome State Fault Refusal := onC onDovetailTrainingStart

/-- DOVETAIL_TRAINING_DONE (R597). -/
def execDovetailTrainingDone (h2f : BitVec 17) (f2h : BitVec 17) : State → Host.Outcome State Fault Refusal := onC (onDovetailTrainingDone h2f f2h)

/-- DOVETAIL_TRAINING_TIMEOUT (R595). -/
def execDovetailTrainingTimeout : State → Host.Outcome State Fault Refusal := onC onDovetailTrainingTimeout

/-- DIE_READY (R607). -/
def execDieReady (die : Fin 2) (dom : Fin 12) (entries : Nat) : State → Host.Outcome State Fault Refusal := onC (onDieReady die dom entries)

/-- CLOCK_DOMAIN_RESUME (R608). -/
def execClockDomainResume (b : Fin 12) : State → Host.Outcome State Fault Refusal := onC (onClockDomainResume b)

/-- FEED_VALID_CHANGE (R613). -/
def execFeedValidChange (f : Fin 2) (valid : Bool) (excess : Bool) (mv : BitVec 16) : State → Host.Outcome State Fault Refusal := onC (onFeedValidChange f valid excess mv)

/-- SEAT_CHANGE (R629). -/
def execSeatChange (pin : Fin 2) (closed : Bool) : State → Host.Outcome State Fault Refusal := onC (onSeatChange pin closed)

/-- EN_CHANGE (R626). -/
def execEnChange (high : Bool) : State → Host.Outcome State Fault Refusal := onC (onEnChange high)

/-- SEATING_DONE (R616). -/
def execSeatingDone : State → Host.Outcome State Fault Refusal := onC onSeatingDone

/-- PRECHARGE_DONE (R617). -/
def execPrechargeDone : State → Host.Outcome State Fault Refusal := onC onPrechargeDone

/-- PRECHARGE_TIMEOUT (R617). -/
def execPrechargeTimeout : State → Host.Outcome State Fault Refusal := onC onPrechargeTimeout

/-- GATE_FULLY_ON (R618). -/
def execGateFullyOn : State → Host.Outcome State Fault Refusal := onC onGateFullyOn

/-- CURRENT_LIMIT_CHANGE (R619). -/
def execCurrentLimitChange (active : Bool) : State → Host.Outcome State Fault Refusal := onC (onCurrentLimitChange active)

/-- FAULT_TIMER_EXPIRE (R619). -/
def execFaultTimerExpire : State → Host.Outcome State Fault Refusal := onC onFaultTimerExpire

/-- HARD_SHORT_TRIP (R620). -/
def execHardShortTrip : State → Host.Outcome State Fault Refusal := onC onHardShortTrip

/-- PG_QUIET_WINDOW_EXPIRE (R622). -/
def execPgQuietWindowExpire : State → Host.Outcome State Fault Refusal := onC onPgQuietWindowExpire

/-- EN_LATCH_CLEAR_TIMER (R625). -/
def execEnLatchClearTimer : State → Host.Outcome State Fault Refusal := onC onEnLatchClearTimer

/-- EN_OFF_TIMER (R626). -/
def execEnOffTimer : State → Host.Outcome State Fault Refusal := onC onEnOffTimer

/-- NO_FEED_TIMEOUT (R627). -/
def execNoFeedTimeout : State → Host.Outcome State Fault Refusal := onC onNoFeedTimeout

/-- DOMAIN_POWER_UP_STEP (R631). -/
def execDomainPowerUpStep : State → Host.Outcome State Fault Refusal := onC onDomainPowerUpStep

/-- SFP_CAGE_OVERLOAD (R632). -/
def execSfpCageOverload (p : Fin 8) : State → Host.Outcome State Fault Refusal := onC (onSfpCageOverload p)

/-- DOMAIN_CONVERTER_FAULT (R633). -/
def execDomainConverterFault (d : Fin 6) : State → Host.Outcome State Fault Refusal := onC (onDomainConverterFault d)

/-- DRAM_TRAINING_DONE (R641). -/
def execDramTrainingDone (ok : Bool) : State → Host.Outcome State Fault Refusal := onC (onDramTrainingDone ok)

/-- BOOT_COMPLETE (R641). -/
def execBootComplete : State → Host.Outcome State Fault Refusal := onR onBootComplete

/-- PERST_ASSERT (R638). -/
def execPerstAssert : State → Host.Outcome State Fault Refusal := onC onPerstAssert

/-- FLR (R638). -/
def execFlr : State → Host.Outcome State Fault Refusal := onC onFlr

/-- PCIE_LINK_DOWN (R638). -/
def execPcieLinkDown : State → Host.Outcome State Fault Refusal := onC onPcieLinkDown

/-- PCIE_D3HOT_ENTER (R357). -/
def execPcieD3hotEnter : State → Host.Outcome State Fault Refusal := onC onPcieD3hotEnter

/-- PCIE_BUS_MASTER_DISABLE (R358). -/
def execPcieBusMasterDisable : State → Host.Outcome State Fault Refusal := onC onPcieBusMasterDisable

/-- GET_ID (R653). -/
def execGetId (t : Fin 3) (auth : Bool) : State → Host.Outcome State Fault Refusal := onR (onGetId t auth)

/-- GET_HEALTH (R653). -/
def execGetHealth (t : Fin 3) (auth : Bool) : State → Host.Outcome State Fault Refusal := onC (onGetHealth t auth)

/-- GET_POWER (R653). -/
def execGetPower (t : Fin 3) (auth : Bool) : State → Host.Outcome State Fault Refusal := onC (onGetPower t auth)

/-- GET_THERMAL (R653). -/
def execGetThermal (t : Fin 3) (auth : Bool) : State → Host.Outcome State Fault Refusal := onC (onGetThermal t auth)

/-- SET_THRESH (R658). -/
def execSetThresh (t : Fin 3) (auth : Bool) (sensor : BitVec 8) (warn : BitVec 8) (crit : BitVec 8) : State → Host.Outcome State Fault Refusal := onC (onSetThresh t auth sensor warn crit)

/-- READ_LOG (R655). -/
def execReadLog (t : Fin 3) (auth : Bool) (pos : BitVec 16) : State → Host.Outcome State Fault Refusal := onC (onReadLog t auth pos)

/-- CLEAR_LOG (R564). -/
def execClearLog (t : Fin 3) (auth : Bool) : State → Host.Outcome State Fault Refusal := onC (onClearLog t auth)

/-- READ_NVLOG (R655). -/
def execReadNvlog (t : Fin 3) (auth : Bool) (index : BitVec 16) : State → Host.Outcome State Fault Refusal := onC (onReadNvlog t auth index)

/-- SELF_TEST (R656). -/
def execSelfTest (t : Fin 3) (auth : Bool) (req : BitVec 32) : State → Host.Outcome State Fault Refusal := onC (onSelfTest t auth req)

/-- TEST_STATUS (R653). -/
def execTestStatus (t : Fin 3) (auth : Bool) : State → Host.Outcome State Fault Refusal := onC (onTestStatus t auth)

/-- FW_BEGIN (R654). -/
def execFwBegin (t : Fin 3) (auth : Bool) (kind : BitVec 8) (len : BitVec 32) : State → Host.Outcome State Fault Refusal := onN (onFwBegin t auth kind len)

/-- FW_DATA (R654). -/
def execFwData (t : Fin 3) (auth : Bool) (off : BitVec 32) (data : List Byte) : State → Host.Outcome State Fault Refusal := onN (onFwData t auth off data)

/-- FW_VERIFY (R643). -/
def execFwVerify (t : Fin 3) (auth : Bool) : State → Host.Outcome State Fault Refusal := onN (onFwVerify t auth)

/-- FW_ACTIVATE (R646). -/
def execFwActivate (t : Fin 3) (auth : Bool) : State → Host.Outcome State Fault Refusal := onN (onFwActivate t auth)

/-- MODULE_RESET (R637). -/
def execModuleReset (t : Fin 3) (auth : Bool) (kind : BitVec 8) : State → Host.Outcome State Fault Refusal := onC (onModuleReset t auth kind)

/-- SET_CLAMP (R559). -/
def execSetClamp (t : Fin 3) (auth : Bool) (v : BitVec 32) : State → Host.Outcome State Fault Refusal := onC (onSetClamp t auth v)

/-- SENSOR_POLL (R658). -/
def execSensorPoll (t0 : BitVec 16) (t1 : BitVec 16) (t2 : BitVec 16) (t3 : BitVec 16) (t4 : BitVec 16) : State → Host.Outcome State Fault Refusal := onC (onSensorPoll t0 t1 t2 t3 t4)

/-- MC_WATCHDOG_EXPIRE (R659). -/
def execMcWatchdogExpire : State → Host.Outcome State Fault Refusal := onC onMcWatchdogExpire

/-- PCS_BLOCK_LOCK (R81). -/
def execPcsBlockLock (p : Fin 8) : State → Host.Outcome State Fault Refusal := onC (onPcsBlockLock p)

/-- TENON_LINK_UP (R41). -/
def execTenonLinkUp : State → Host.Outcome State Fault Refusal := onC onTenonLinkUp

/-- PTP_SYNC_MISSING (R41). -/
def execPtpSyncMissing : State → Host.Outcome State Fault Refusal := onC onPtpSyncMissing

/-- PTM_L0_ABSENCE_TIMEOUT (R41). -/
def execPtmL0AbsenceTimeout : State → Host.Outcome State Fault Refusal := onC onPtmL0AbsenceTimeout

/-- BAD_FRAME_RECEIVE (R98). -/
def execBadFrameReceive (p : Fin 8) (l6 : BitVec 8) (l7 : BitVec 8) (bs : List Byte) (uncorrected : Nat) : State → Host.Outcome State Fault Refusal := onC (onBadFrameReceive p l6 l7 bs uncorrected)

/-- TRANSIT_FRAME_FORWARD (R573). -/
def execTransitFrameForward (p : Fin 8) (f : Frame) : State → Host.Outcome State Fault Refusal := onC (onTransitFrameForward p f)

/-- PCIE_D0_RETURN (R357). -/
def execPcieD0Return : State → Host.Outcome State Fault Refusal := onC onPcieD0Return

/-- PCIE_BUS_MASTER_ENABLE (R358). -/
def execPcieBusMasterEnable : State → Host.Outcome State Fault Refusal := onC onPcieBusMasterEnable

/-- JTAG_RESET (R637). -/
def execJtagReset : State → Host.Outcome State Fault Refusal := onC onJtagReset

/-- IMAGE_COPY_COMPLETE (R533). -/
def execImageCopyComplete (out : Bool) : State → Host.Outcome State Fault Refusal := onC (onImageCopyComplete out)

end Sys2Proof.Machine
end

