-- ==== Sys2Proof/Machine/Dispatch.lean ====
section
/-!
DEFINITION. The effect of each command: one arm per constructor of Instr, each one direct call of its meaning.
-/
namespace Sys2Proof.Machine

/-- The command's effect on everything but the queue. -/
def exec (i : Instr) (s : State) : Host.Outcome State Fault Refusal :=
  match i with
  | .registerWrite master off n enabled value => Sys2Proof.Machine.execRegisterWrite master off n enabled value s
  | .registerLowerHalfRead master word => Sys2Proof.Machine.execRegisterLowerHalfRead master word s
  | .rcFieldRead master word => Sys2Proof.Machine.execRcFieldRead master word s
  | .stagingCheckComplete => Sys2Proof.Machine.execStagingCheckComplete s
  | .stageCommit master tag => Sys2Proof.Machine.execStageCommit master tag s
  | .stageDiscard => Sys2Proof.Machine.execStageDiscard s
  | .commitApplyBeatsOff => Sys2Proof.Machine.execCommitApplyBeatsOff s
  | .glResetModule master => Sys2Proof.Machine.execGlResetModule master s
  | .glResetHdie master => Sys2Proof.Machine.execGlResetHdie master s
  | .beatStart => Sys2Proof.Machine.execBeatStart s
  | .beatStop => Sys2Proof.Machine.execBeatStop s
  | .finalEdge => Sys2Proof.Machine.execFinalEdge s
  | .timeStep => Sys2Proof.Machine.execTimeStep s
  | .beatEdge => Sys2Proof.Machine.execBeatEdge s
  | .downbeatContentFix => Sys2Proof.Machine.execDownbeatContentFix s
  | .downbeatLaunch => Sys2Proof.Machine.execDownbeatLaunch s
  | .downbeatLoopReturn p f => Sys2Proof.Machine.execDownbeatLoopReturn p f s
  | .phaseInputComplete => Sys2Proof.Machine.execPhaseInputComplete s
  | .phaseOutputDeadline => Sys2Proof.Machine.execPhaseOutputDeadline s
  | .decisionDeadline => Sys2Proof.Machine.execDecisionDeadline s
  | .ppsPulseStart => Sys2Proof.Machine.execPpsPulseStart s
  | .ppsPulseEnd => Sys2Proof.Machine.execPpsPulseEnd s
  | .strikeMirrorPulseEnd => Sys2Proof.Machine.execStrikeMirrorPulseEnd s
  | .hdieTimeSample agree => Sys2Proof.Machine.execHdieTimeSample agree s
  | .ptmRequest => Sys2Proof.Machine.execPtmRequest s
  | .ptmDialogComplete ok rtt host => Sys2Proof.Machine.execPtmDialogComplete ok rtt host s
  | .ptpSyncReceive domain l2 t1 t3 t4 => Sys2Proof.Machine.execPtpSyncReceive domain l2 t1 t3 t4 s
  | .ptpAnnounceReceive domain l2 => Sys2Proof.Machine.execPtpAnnounceReceive domain l2 s
  | .ptpAnnounceTimeout => Sys2Proof.Machine.execPtpAnnounceTimeout s
  | .ppsEdge t falling ref => Sys2Proof.Machine.execPpsEdge t falling ref s
  | .ppsMissing => Sys2Proof.Machine.execPpsMissing s
  | .ref10Loss => Sys2Proof.Machine.execRef10Loss s
  | .waitToRestoreExpire => Sys2Proof.Machine.execWaitToRestoreExpire s
  | .calibrateRing ring => Sys2Proof.Machine.execCalibrateRing ring s
  | .calDownbeatReceive p f => Sys2Proof.Machine.execCalDownbeatReceive p f s
  | .sfpInsert p code => Sys2Proof.Machine.execSfpInsert p code s
  | .sfpRemove p => Sys2Proof.Machine.execSfpRemove p s
  | .sfpTxFault p => Sys2Proof.Machine.execSfpTxFault p s
  | .sfpLosAssert p => Sys2Proof.Machine.execSfpLosAssert p s
  | .sfpLosDeassert p => Sys2Proof.Machine.execSfpLosDeassert p s
  | .sfpTempPoll p temp => Sys2Proof.Machine.execSfpTempPoll p temp s
  | .pcsLockLoss p hiBer => Sys2Proof.Machine.execPcsLockLoss p hiBer s
  | .portLockHoldExpire p => Sys2Proof.Machine.execPortLockHoldExpire p s
  | .portTrainingTimeout p => Sys2Proof.Machine.execPortTrainingTimeout p s
  | .fecAutoAttemptExpire p => Sys2Proof.Machine.execFecAutoAttemptExpire p s
  | .portSilenceTimeout p => Sys2Proof.Machine.execPortSilenceTimeout p s
  | .linkFrameReceive p f corrected => Sys2Proof.Machine.execLinkFrameReceive p f corrected s
  | .linkFrameSend p => Sys2Proof.Machine.execLinkFrameSend p s
  | .replayTimeout p => Sys2Proof.Machine.execReplayTimeout p s
  | .frameTransmit p cut => Sys2Proof.Machine.execFrameTransmit p cut s
  | .imageInReceive p f => Sys2Proof.Machine.execImageInReceive p f s
  | .readResponseReceive p f => Sys2Proof.Machine.execReadResponseReceive p f s
  | .writeAckReceive p f => Sys2Proof.Machine.execWriteAckReceive p f s
  | .eventFrameTc0 p f upset => Sys2Proof.Machine.execEventFrameTc0 p f upset s
  | .eventFrameTc2 p f => Sys2Proof.Machine.execEventFrameTc2 p f s
  | .voteReceive p f => Sys2Proof.Machine.execVoteReceive p f s
  | .enumStart ring => Sys2Proof.Machine.execEnumStart ring s
  | .enumAnswerReceive p f => Sys2Proof.Machine.execEnumAnswerReceive p f s
  | .enumProbeTimeout ring => Sys2Proof.Machine.execEnumProbeTimeout ring s
  | .enumProbeReturn p f => Sys2Proof.Machine.execEnumProbeReturn p f s
  | .delayAnswerReceive p f => Sys2Proof.Machine.execDelayAnswerReceive p f s
  | .delayRequestTimeout k => Sys2Proof.Machine.execDelayRequestTimeout k s
  | .adoptionStepTimeout k => Sys2Proof.Machine.execAdoptionStepTimeout k s
  | .stationAbsentTimeout k => Sys2Proof.Machine.execStationAbsentTimeout k s
  | .stClampSet k => Sys2Proof.Machine.execStClampSet k s
  | .stClampClr k => Sys2Proof.Machine.execStClampClr k s
  | .rerouteTimerExpire ring => Sys2Proof.Machine.execRerouteTimerExpire ring s
  | .routeChangeWaitExpire k => Sys2Proof.Machine.execRouteChangeWaitExpire k s
  | .skForceHoldWrite k v => Sys2Proof.Machine.execSkForceHoldWrite k v s
  | .engineStart e => Sys2Proof.Machine.execEngineStart e s
  | .engineStop e => Sys2Proof.Machine.execEngineStop e s
  | .engineStopComplete e => Sys2Proof.Machine.execEngineStopComplete e s
  | .clusterClamp c set => Sys2Proof.Machine.execClusterClamp c set s
  | .isramWrite e a data => Sys2Proof.Machine.execIsramWrite e a data s
  | .migrateRequest src => Sys2Proof.Machine.execMigrateRequest src s
  | .migrationGraceExpire => Sys2Proof.Machine.execMigrationGraceExpire s
  | .migrationCopyDone => Sys2Proof.Machine.execMigrationCopyDone s
  | .bindingFire e k => Sys2Proof.Machine.execBindingFire e k s
  | .bindingDispatch e => Sys2Proof.Machine.execBindingDispatch e s
  | .budgetExpire e => Sys2Proof.Machine.execBudgetExpire e s
  | .machineCheck e => Sys2Proof.Machine.execMachineCheck e s
  | .storeBufferDrain e port => Sys2Proof.Machine.execStoreBufferDrain e port s
  | .fabricReadResponse e => Sys2Proof.Machine.execFabricReadResponse e s
  | .barrierResolved e => Sys2Proof.Machine.execBarrierResolved e s
  | .waitTimeReached e => Sys2Proof.Machine.execWaitTimeReached e s
  | .evwaitTimeout e => Sys2Proof.Machine.execEvwaitTimeout e s
  | .add e w d a b => Sys2Proof.Machine.execAdd e w d a b s
  | .sub e w d a b => Sys2Proof.Machine.execSub e w d a b s
  | .and e d a b => Sys2Proof.Machine.execAnd e d a b s
  | .or e d a b => Sys2Proof.Machine.execOr e d a b s
  | .xor e d a b => Sys2Proof.Machine.execXor e d a b s
  | .andn e d a b => Sys2Proof.Machine.execAndn e d a b s
  | .orn e d a b => Sys2Proof.Machine.execOrn e d a b s
  | .sll e w d a b => Sys2Proof.Machine.execSll e w d a b s
  | .srl e w d a b => Sys2Proof.Machine.execSrl e w d a b s
  | .sra e w d a b => Sys2Proof.Machine.execSra e w d a b s
  | .rol e w d a b => Sys2Proof.Machine.execRol e w d a b s
  | .ror e w d a b => Sys2Proof.Machine.execRor e w d a b s
  | .slt e d a b => Sys2Proof.Machine.execSlt e d a b s
  | .sltu e d a b => Sys2Proof.Machine.execSltu e d a b s
  | .min e d a b => Sys2Proof.Machine.execMin e d a b s
  | .max e d a b => Sys2Proof.Machine.execMax e d a b s
  | .minu e d a b => Sys2Proof.Machine.execMinu e d a b s
  | .maxu e d a b => Sys2Proof.Machine.execMaxu e d a b s
  | .clz e w d a => Sys2Proof.Machine.execClz e w d a s
  | .ctz e w d a => Sys2Proof.Machine.execCtz e w d a s
  | .popc e w d a => Sys2Proof.Machine.execPopc e w d a s
  | .bswap e w d a => Sys2Proof.Machine.execBswap e w d a s
  | .sextb e d a => Sys2Proof.Machine.execSextb e d a s
  | .sexth e d a => Sys2Proof.Machine.execSexth e d a s
  | .addi e d a imm => Sys2Proof.Machine.execAddi e d a imm s
  | .andi e d a imm => Sys2Proof.Machine.execAndi e d a imm s
  | .ori e d a imm => Sys2Proof.Machine.execOri e d a imm s
  | .xori e d a imm => Sys2Proof.Machine.execXori e d a imm s
  | .slti e d a imm => Sys2Proof.Machine.execSlti e d a imm s
  | .sltiu e d a imm => Sys2Proof.Machine.execSltiu e d a imm s
  | .shi e d a imm => Sys2Proof.Machine.execShi e d a imm s
  | .lsh e d a imm => Sys2Proof.Machine.execLsh e d a imm s
  | .mul e w d a b => Sys2Proof.Machine.execMul e w d a b s
  | .mulh e d a b => Sys2Proof.Machine.execMulh e d a b s
  | .mulhu e d a b => Sys2Proof.Machine.execMulhu e d a b s
  | .mulhsu e d a b => Sys2Proof.Machine.execMulhsu e d a b s
  | .div e w d a b => Sys2Proof.Machine.execDiv e w d a b s
  | .divu e w d a b => Sys2Proof.Machine.execDivu e w d a b s
  | .rem e w d a b => Sys2Proof.Machine.execRem e w d a b s
  | .remu e w d a b => Sys2Proof.Machine.execRemu e w d a b s
  | .fadd e dbl d a b => Sys2Proof.Machine.execFadd e dbl d a b s
  | .fsub e dbl d a b => Sys2Proof.Machine.execFsub e dbl d a b s
  | .fmul e dbl d a b => Sys2Proof.Machine.execFmul e dbl d a b s
  | .fdiv e dbl d a b => Sys2Proof.Machine.execFdiv e dbl d a b s
  | .fsqrt e dbl d a => Sys2Proof.Machine.execFsqrt e dbl d a s
  | .fmin e dbl d a b => Sys2Proof.Machine.execFmin e dbl d a b s
  | .fmax e dbl d a b => Sys2Proof.Machine.execFmax e dbl d a b s
  | .fmac e dbl d a b => Sys2Proof.Machine.execFmac e dbl d a b s
  | .fsgnj e dbl d a b => Sys2Proof.Machine.execFsgnj e dbl d a b s
  | .fsgnjn e dbl d a b => Sys2Proof.Machine.execFsgnjn e dbl d a b s
  | .fsgnjx e dbl d a b => Sys2Proof.Machine.execFsgnjx e dbl d a b s
  | .feq e dbl d a b => Sys2Proof.Machine.execFeq e dbl d a b s
  | .flt e dbl d a b => Sys2Proof.Machine.execFlt e dbl d a b s
  | .fle e dbl d a b => Sys2Proof.Machine.execFle e dbl d a b s
  | .fcvtSD e d a => Sys2Proof.Machine.execFcvtSD e d a s
  | .fcvtDS e d a => Sys2Proof.Machine.execFcvtDS e d a s
  | .fcvtWS e rz d a => Sys2Proof.Machine.execFcvtWS e rz d a s
  | .fcvtWuS e rz d a => Sys2Proof.Machine.execFcvtWuS e rz d a s
  | .fcvtLS e rz d a => Sys2Proof.Machine.execFcvtLS e rz d a s
  | .fcvtLuS e rz d a => Sys2Proof.Machine.execFcvtLuS e rz d a s
  | .fcvtWD e rz d a => Sys2Proof.Machine.execFcvtWD e rz d a s
  | .fcvtWuD e rz d a => Sys2Proof.Machine.execFcvtWuD e rz d a s
  | .fcvtLD e rz d a => Sys2Proof.Machine.execFcvtLD e rz d a s
  | .fcvtLuD e rz d a => Sys2Proof.Machine.execFcvtLuD e rz d a s
  | .fcvtSW e d a => Sys2Proof.Machine.execFcvtSW e d a s
  | .fcvtSWu e d a => Sys2Proof.Machine.execFcvtSWu e d a s
  | .fcvtSL e d a => Sys2Proof.Machine.execFcvtSL e d a s
  | .fcvtSLu e d a => Sys2Proof.Machine.execFcvtSLu e d a s
  | .fcvtDW e d a => Sys2Proof.Machine.execFcvtDW e d a s
  | .fcvtDWu e d a => Sys2Proof.Machine.execFcvtDWu e d a s
  | .fcvtDL e d a => Sys2Proof.Machine.execFcvtDL e d a s
  | .fcvtDLu e d a => Sys2Proof.Machine.execFcvtDLu e d a s
  | .fclassS e d a => Sys2Proof.Machine.execFclassS e d a s
  | .fclassD e d a => Sys2Proof.Machine.execFclassD e d a s
  | .lb e d a imm => Sys2Proof.Machine.execLb e d a imm s
  | .lbu e d a imm => Sys2Proof.Machine.execLbu e d a imm s
  | .lh e d a imm => Sys2Proof.Machine.execLh e d a imm s
  | .lhu e d a imm => Sys2Proof.Machine.execLhu e d a imm s
  | .lw e d a imm => Sys2Proof.Machine.execLw e d a imm s
  | .lwu e d a imm => Sys2Proof.Machine.execLwu e d a imm s
  | .ld e d a imm => Sys2Proof.Machine.execLd e d a imm s
  | .ldp e d a imm => Sys2Proof.Machine.execLdp e d a imm s
  | .sb e d a imm => Sys2Proof.Machine.execSb e d a imm s
  | .sh e d a imm => Sys2Proof.Machine.execSh e d a imm s
  | .sw e d a imm => Sys2Proof.Machine.execSw e d a imm s
  | .sd e d a imm => Sys2Proof.Machine.execSd e d a imm s
  | .stp e d a imm => Sys2Proof.Machine.execStp e d a imm s
  | .lr e d a w => Sys2Proof.Machine.execLr e d a w s
  | .sc e d b a w => Sys2Proof.Machine.execSc e d b a w s
  | .amoswap e d b a w => Sys2Proof.Machine.execAmoswap e d b a w s
  | .amoadd e d b a w => Sys2Proof.Machine.execAmoadd e d b a w s
  | .amoand e d b a w => Sys2Proof.Machine.execAmoand e d b a w s
  | .amoor e d b a w => Sys2Proof.Machine.execAmoor e d b a w s
  | .amoxor e d b a w => Sys2Proof.Machine.execAmoxor e d b a w s
  | .amomin e d b a w => Sys2Proof.Machine.execAmomin e d b a w s
  | .amomax e d b a w => Sys2Proof.Machine.execAmomax e d b a w s
  | .amominu e d b a w => Sys2Proof.Machine.execAmominu e d b a w s
  | .amomaxu e d b a w => Sys2Proof.Machine.execAmomaxu e d b a w s
  | .cas e d b a w => Sys2Proof.Machine.execCas e d b a w s
  | .beq e a b off => Sys2Proof.Machine.execBeq e a b off s
  | .bne e a b off => Sys2Proof.Machine.execBne e a b off s
  | .blt e a b off => Sys2Proof.Machine.execBlt e a b off s
  | .bge e a b off => Sys2Proof.Machine.execBge e a b off s
  | .bltu e a b off => Sys2Proof.Machine.execBltu e a b off s
  | .bgeu e a b off => Sys2Proof.Machine.execBgeu e a b off s
  | .j e off => Sys2Proof.Machine.execJ e off s
  | .jal e off => Sys2Proof.Machine.execJal e off s
  | .jalr e d a imm => Sys2Proof.Machine.execJalr e d a imm s
  | .barD e d => Sys2Proof.Machine.execBarD e d s
  | .barA e d => Sys2Proof.Machine.execBarA e d s
  | .barS e d => Sys2Proof.Machine.execBarS e d s
  | .srd e d sr => Sys2Proof.Machine.execSrd e d sr s
  | .swr e sr a => Sys2Proof.Machine.execSwr e sr a s
  | .brk e => Sys2Proof.Machine.execBrk e s
  | .eret e => Sys2Proof.Machine.execEret e s
  | .yield e => Sys2Proof.Machine.execYield e s
  | .halt e => Sys2Proof.Machine.execHalt e s
  | .trap e imm => Sys2Proof.Machine.execTrap e imm s
  | .fld e d a cls sz sw tm off => Sys2Proof.Machine.execFld e d a cls sz sw tm off s
  | .fst e d a cls sz sw tm off => Sys2Proof.Machine.execFst e d a cls sz sw tm off s
  | .fstn e d a cls sz sw tm off => Sys2Proof.Machine.execFstn e d a cls sz sw tm off s
  | .gath e d a cls sw tm n => Sys2Proof.Machine.execGath e d a cls sw tm n s
  | .scat e d a cls sw tm n => Sys2Proof.Machine.execScat e d a cls sw tm n s
  | .imgcp e d a outImg toImage => Sys2Proof.Machine.execImgcp e d a outImg toImage s
  | .ltset e r ph t => Sys2Proof.Machine.execLtset e r ph t s
  | .ltabs e r => Sys2Proof.Machine.execLtabs e r s
  | .waitph e r ph t => Sys2Proof.Machine.execWaitph e r ph t s
  | .waitt e r => Sys2Proof.Machine.execWaitt e r s
  | .delta e d a sz be cnt mode => Sys2Proof.Machine.execDelta e d a sz be cnt mode s
  | .japp e d a => Sys2Proof.Machine.execJapp e d a s
  | .scale e d a k sz rev sg s32 => Sys2Proof.Machine.execScale e d a k sz rev sg s32 s
  | .crc e d a n mode => Sys2Proof.Machine.execCrc e d a n mode s
  | .evpost e d a target urgent => Sys2Proof.Machine.execEvpost e d a target urgent s
  | .evwait e d a t => Sys2Proof.Machine.execEvwait e d a t s
  | .hostBar2Read tag rid off be => Sys2Proof.Machine.execHostBar2Read tag rid off be s
  | .hostBar2Write rid off be data => Sys2Proof.Machine.execHostBar2Write rid off be data s
  | .hostBar4Read tag rid off n => Sys2Proof.Machine.execHostBar4Read tag rid off n s
  | .hostBar4Write off be data => Sys2Proof.Machine.execHostBar4Write off be data s
  | .hostAtomicop tag rid bar off => Sys2Proof.Machine.execHostAtomicop tag rid bar off s
  | .sramWindowAccess tag off n data => Sys2Proof.Machine.execSramWindowAccess tag off n data s
  | .hostReadAbandon tag => Sys2Proof.Machine.execHostReadAbandon tag s
  | .stationTimeout b => Sys2Proof.Machine.execStationTimeout b s
  | .cwpGo k => Sys2Proof.Machine.execCwpGo k s
  | .cwpStatusRead m k => Sys2Proof.Machine.execCwpStatusRead m k s
  | .orphanPop => Sys2Proof.Machine.execOrphanPop s
  | .eventFenceSatisfied idx => Sys2Proof.Machine.execEventFenceSatisfied idx s
  | .fenceTimeout idx => Sys2Proof.Machine.execFenceTimeout idx s
  | .uhluxOutboundStart p => Sys2Proof.Machine.execUhluxOutboundStart p s
  | .uhluxAck p data => Sys2Proof.Machine.execUhluxAck p data s
  | .uhluxBerr p => Sys2Proof.Machine.execUhluxBerr p s
  | .uhluxCycleTimeout p => Sys2Proof.Machine.execUhluxCycleTimeout p s
  | .uhluxSlotAbsent p slot => Sys2Proof.Machine.execUhluxSlotAbsent p slot s
  | .uhluxReadTimeout b => Sys2Proof.Machine.execUhluxReadTimeout b s
  | .uhluxBusHogTimeout p => Sys2Proof.Machine.execUhluxBusHogTimeout p s
  | .uhluxBusRequest p => Sys2Proof.Machine.execUhluxBusRequest p s
  | .uhluxBbsy p low => Sys2Proof.Machine.execUhluxBbsy p low s
  | .uhluxInboundCycle p a word lock data => Sys2Proof.Machine.execUhluxInboundCycle p a word lock data s
  | .uhluxInboundWritePerform p => Sys2Proof.Machine.execUhluxInboundWritePerform p s
  | .uhluxSlaveAckTimeout p => Sys2Proof.Machine.execUhluxSlaveAckTimeout p s
  | .uhluxBusTimer p a => Sys2Proof.Machine.execUhluxBusTimer p a s
  | .uhluxIrq p levels => Sys2Proof.Machine.execUhluxIrq p levels s
  | .uhluxIrqResample p level => Sys2Proof.Machine.execUhluxIrqResample p level s
  | .uhluxIrqAutoDisable p level => Sys2Proof.Machine.execUhluxIrqAutoDisable p level s
  | .uhluxSysreset p => Sys2Proof.Machine.execUhluxSysreset p s
  | .uhluxSysresetEnd p => Sys2Proof.Machine.execUhluxSysresetEnd p s
  | .uxSlotReadmit p mask => Sys2Proof.Machine.execUxSlotReadmit p mask s
  | .holdoffTimerEnd id => Sys2Proof.Machine.execHoldoffTimerEnd id s
  | .eventHeldDeliver e => Sys2Proof.Machine.execEventHeldDeliver e s
  | .msixUnmask v => Sys2Proof.Machine.execMsixUnmask v s
  | .pcieLinkL0Return => Sys2Proof.Machine.execPcieLinkL0Return s
  | .reflexTableCompare idx upset => Sys2Proof.Machine.execReflexTableCompare idx upset s
  | .interlockInputChange k level => Sys2Proof.Machine.execInterlockInputChange k level s
  | .nocPacketInject src dst sport dport master cls op tag addr bseq code data => Sys2Proof.Machine.execNocPacketInject src dst sport dport master cls op tag addr bseq code data s
  | .nocPacketDeliver idx hop noise => Sys2Proof.Machine.execNocPacketDeliver idx hop noise s
  | .nocTargetTimeout idx => Sys2Proof.Machine.execNocTargetTimeout idx s
  | .nocPortIsolate r => Sys2Proof.Machine.execNocPortIsolate r s
  | .ncPortIsolateWrite r => Sys2Proof.Machine.execNcPortIsolateWrite r s
  | .ncPortRelease r => Sys2Proof.Machine.execNcPortRelease r s
  | .dovetailPortHoldExpire bridge idx => Sys2Proof.Machine.execDovetailPortHoldExpire bridge idx s
  | .clusterGateIdleExpire c => Sys2Proof.Machine.execClusterGateIdleExpire c s
  | .clusterSwitchOpen c => Sys2Proof.Machine.execClusterSwitchOpen c s
  | .clusterWake c => Sys2Proof.Machine.execClusterWake c s
  | .clusterWakeDone c => Sys2Proof.Machine.execClusterWakeDone c s
  | .ptClearFirst => Sys2Proof.Machine.execPtClearFirst s
  | .journalEntryWrite => Sys2Proof.Machine.execJournalEntryWrite s
  | .journalReaderRead master r => Sys2Proof.Machine.execJournalReaderRead master r s
  | .journalCursorWrite r v => Sys2Proof.Machine.execJournalCursorWrite r v s
  | .jnDegradeWrite v => Sys2Proof.Machine.execJnDegradeWrite v s
  | .moverDescEnqueue master c word3 => Sys2Proof.Machine.execMoverDescEnqueue master c word3 s
  | .moverStart c => Sys2Proof.Machine.execMoverStart c s
  | .moverDone c data ok => Sys2Proof.Machine.execMoverDone c data ok s
  | .moverBmeTimeout c => Sys2Proof.Machine.execMoverBmeTimeout c s
  | .scrubLine line corr bad => Sys2Proof.Machine.execScrubLine line corr bad s
  | .clampRingPort p set => Sys2Proof.Machine.execClampRingPort p set s
  | .clampUhluxPort p set => Sys2Proof.Machine.execClampUhluxPort p set s
  | .clampDram set => Sys2Proof.Machine.execClampDram set s
  | .clampMovers set => Sys2Proof.Machine.execClampMovers set s
  | .clampTenon set => Sys2Proof.Machine.execClampTenon set s
  | .errorLogClear => Sys2Proof.Machine.execErrorLogClear s
  | .selfTestClusterBist c migrate => Sys2Proof.Machine.execSelfTestClusterBist c migrate s
  | .selfTestRingRecal p => Sys2Proof.Machine.execSelfTestRingRecal p s
  | .bistDone ok element => Sys2Proof.Machine.execBistDone ok element s
  | .recalDone => Sys2Proof.Machine.execRecalDone s
  | .twinTime t => Sys2Proof.Machine.execTwinTime t s
  | .twinBankData bank off data => Sys2Proof.Machine.execTwinBankData bank off data s
  | .twinStagedSet pairs => Sys2Proof.Machine.execTwinStagedSet pairs s
  | .twinDeclData region off data => Sys2Proof.Machine.execTwinDeclData region off data s
  | .twinCounters jn br seqs regs => Sys2Proof.Machine.execTwinCounters jn br seqs regs s
  | .twinFailureDecl cause => Sys2Proof.Machine.execTwinFailureDecl cause s
  | .twinBeatSealed beat count => Sys2Proof.Machine.execTwinBeatSealed beat count s
  | .twinSealAck beat => Sys2Proof.Machine.execTwinSealAck beat s
  | .twinDownbeatMissing => Sys2Proof.Machine.execTwinDownbeatMissing s
  | .twTakeover => Sys2Proof.Machine.execTwTakeover s
  | .twResign => Sys2Proof.Machine.execTwResign s
  | .tenonLinkDown => Sys2Proof.Machine.execTenonLinkDown s
  | .dovetailFlitReceive d noise => Sys2Proof.Machine.execDovetailFlitReceive d noise s
  | .dovetailLaneLockLoss d lane => Sys2Proof.Machine.execDovetailLaneLockLoss d lane s
  | .dovetailErrorRateCheck => Sys2Proof.Machine.execDovetailErrorRateCheck s
  | .dovetailRetrainRequest => Sys2Proof.Machine.execDovetailRetrainRequest s
  | .dovetailUnspare => Sys2Proof.Machine.execDovetailUnspare s
  | .dovetailRetrainDone h2f f2h => Sys2Proof.Machine.execDovetailRetrainDone h2f f2h s
  | .dovetailRetrainTimeout => Sys2Proof.Machine.execDovetailRetrainTimeout s
  | .dovetailTrainingStart => Sys2Proof.Machine.execDovetailTrainingStart s
  | .dovetailTrainingDone h2f f2h => Sys2Proof.Machine.execDovetailTrainingDone h2f f2h s
  | .dovetailTrainingTimeout => Sys2Proof.Machine.execDovetailTrainingTimeout s
  | .dieReady die dom entries => Sys2Proof.Machine.execDieReady die dom entries s
  | .clockDomainResume b => Sys2Proof.Machine.execClockDomainResume b s
  | .feedValidChange f valid excess mv => Sys2Proof.Machine.execFeedValidChange f valid excess mv s
  | .seatChange pin closed => Sys2Proof.Machine.execSeatChange pin closed s
  | .enChange high => Sys2Proof.Machine.execEnChange high s
  | .seatingDone => Sys2Proof.Machine.execSeatingDone s
  | .prechargeDone => Sys2Proof.Machine.execPrechargeDone s
  | .prechargeTimeout => Sys2Proof.Machine.execPrechargeTimeout s
  | .gateFullyOn => Sys2Proof.Machine.execGateFullyOn s
  | .currentLimitChange active => Sys2Proof.Machine.execCurrentLimitChange active s
  | .faultTimerExpire => Sys2Proof.Machine.execFaultTimerExpire s
  | .hardShortTrip => Sys2Proof.Machine.execHardShortTrip s
  | .pgQuietWindowExpire => Sys2Proof.Machine.execPgQuietWindowExpire s
  | .enLatchClearTimer => Sys2Proof.Machine.execEnLatchClearTimer s
  | .enOffTimer => Sys2Proof.Machine.execEnOffTimer s
  | .noFeedTimeout => Sys2Proof.Machine.execNoFeedTimeout s
  | .domainPowerUpStep => Sys2Proof.Machine.execDomainPowerUpStep s
  | .sfpCageOverload p => Sys2Proof.Machine.execSfpCageOverload p s
  | .domainConverterFault d => Sys2Proof.Machine.execDomainConverterFault d s
  | .dramTrainingDone ok => Sys2Proof.Machine.execDramTrainingDone ok s
  | .bootComplete => Sys2Proof.Machine.execBootComplete s
  | .perstAssert => Sys2Proof.Machine.execPerstAssert s
  | .flr => Sys2Proof.Machine.execFlr s
  | .pcieLinkDown => Sys2Proof.Machine.execPcieLinkDown s
  | .pcieD3hotEnter => Sys2Proof.Machine.execPcieD3hotEnter s
  | .pcieBusMasterDisable => Sys2Proof.Machine.execPcieBusMasterDisable s
  | .getId t auth => Sys2Proof.Machine.execGetId t auth s
  | .getHealth t auth => Sys2Proof.Machine.execGetHealth t auth s
  | .getPower t auth => Sys2Proof.Machine.execGetPower t auth s
  | .getThermal t auth => Sys2Proof.Machine.execGetThermal t auth s
  | .setThresh t auth sensor warn crit => Sys2Proof.Machine.execSetThresh t auth sensor warn crit s
  | .readLog t auth pos => Sys2Proof.Machine.execReadLog t auth pos s
  | .clearLog t auth => Sys2Proof.Machine.execClearLog t auth s
  | .readNvlog t auth index => Sys2Proof.Machine.execReadNvlog t auth index s
  | .selfTest t auth req => Sys2Proof.Machine.execSelfTest t auth req s
  | .testStatus t auth => Sys2Proof.Machine.execTestStatus t auth s
  | .fwBegin t auth kind len => Sys2Proof.Machine.execFwBegin t auth kind len s
  | .fwData t auth off data => Sys2Proof.Machine.execFwData t auth off data s
  | .fwVerify t auth => Sys2Proof.Machine.execFwVerify t auth s
  | .fwActivate t auth => Sys2Proof.Machine.execFwActivate t auth s
  | .moduleReset t auth kind => Sys2Proof.Machine.execModuleReset t auth kind s
  | .setClamp t auth v => Sys2Proof.Machine.execSetClamp t auth v s
  | .sensorPoll t0 t1 t2 t3 t4 => Sys2Proof.Machine.execSensorPoll t0 t1 t2 t3 t4 s
  | .mcWatchdogExpire => Sys2Proof.Machine.execMcWatchdogExpire s
  | .pcsBlockLock p => Sys2Proof.Machine.execPcsBlockLock p s
  | .tenonLinkUp => Sys2Proof.Machine.execTenonLinkUp s
  | .ptpSyncMissing => Sys2Proof.Machine.execPtpSyncMissing s
  | .ptmL0AbsenceTimeout => Sys2Proof.Machine.execPtmL0AbsenceTimeout s
  | .illegalInstruction e => Sys2Proof.Machine.execIllegalInstruction e s
  | .instructionFetchFault e => Sys2Proof.Machine.execInstructionFetchFault e s
  | .badFrameReceive p l6 l7 bs uncorrected => Sys2Proof.Machine.execBadFrameReceive p l6 l7 bs uncorrected s
  | .transitFrameForward p f => Sys2Proof.Machine.execTransitFrameForward p f s
  | .pcieD0Return => Sys2Proof.Machine.execPcieD0Return s
  | .pcieBusMasterEnable => Sys2Proof.Machine.execPcieBusMasterEnable s
  | .jtagReset => Sys2Proof.Machine.execJtagReset s
  | .imageCopyComplete out => Sys2Proof.Machine.execImageCopyComplete out s

end Sys2Proof.Machine
end

