-- ==== Sys2Proof/WellFormed.lean ====
section
/-!
DEFINITION. Which commands are well formed: every operand lies in the range its field has in the spec. Operands with a bounded type
need no check; what is checked here are the fields of a frame and the operands held as Nat or List.
-/
namespace Sys2Proof
open Machine (Frame)

/-- The fields of a frame fit their places in the header (Table 03-4) and the link tag (R107), and the payload has its length. -/
def Frame.wf (f : Frame) : Bool :=
  decide (f.type < 2 ^ 4) && decide (f.cls < 4) && decide (f.flags < 4) && decide (f.route < 4) && decide (f.dest < 2 ^ 14) &&
  decide (f.origin < 4) && decide (f.src < 2 ^ 14) && decide (f.seq < 2 ^ 16) && decide (f.launch < 2 ^ 32) &&
  decide (f.word < 2 ^ 32) && decide (f.len < 2 ^ 16) && decide (f.acc < 2 ^ 16) && decide (f.hops < 2 ^ 8) &&
  decide (f.aux < 2 ^ 32) && decide (f.payload.length = f.len) && decide (f.lseq < 2 ^ 16) && decide (f.retry < 2 ^ 8)

/-- A PCI Express tag has 10 bits and a requester ID 16. -/
def tagWf (tag : Nat) : Bool := decide (tag < 2 ^ 10)
/-- A requester ID. -/
def ridWf (rid : Nat) : Bool := decide (rid < 2 ^ 16)

/-- The command is well formed. -/
def wellFormed (c : Instr) : Bool :=
  match c with
  | .registerWrite _ _ n _ _ => decide (0 < n) && decide (n ≤ 8)
  | .ptpSyncReceive domain _ t1 t3 t4 => decide (domain < 2 ^ 8) && decide (t1 < 2 ^ 64) && decide (t3 < 2 ^ 64) && decide (t4 < 2 ^ 64)
  | .ptpAnnounceReceive domain _ => decide (domain < 2 ^ 8)
  | .ppsEdge t _ _ => decide (t < 2 ^ 64)
  | .sfpInsert _ code => decide (code < 2 ^ 8)
  | .frameTransmit _ cut => match cut with
    | none => true
    | some n => decide (n % 64 = 0)
  | .downbeatLoopReturn _ f => Frame.wf f
  | .calDownbeatReceive _ f => Frame.wf f
  | .linkFrameReceive _ f _ => Frame.wf f
  | .imageInReceive _ f => Frame.wf f
  | .readResponseReceive _ f => Frame.wf f
  | .writeAckReceive _ f => Frame.wf f
  | .eventFrameTc0 _ f _ => Frame.wf f
  | .eventFrameTc2 _ f => Frame.wf f
  | .voteReceive _ f => Frame.wf f
  | .enumAnswerReceive _ f => Frame.wf f
  | .enumProbeReturn _ f => Frame.wf f
  | .delayAnswerReceive _ f => Frame.wf f
  | .transitFrameForward _ f => Frame.wf f
  | .isramWrite _ _ data => decide (data.length ≤ 512)
  | .hostBar2Read tag rid _ be => tagWf tag && ridWf rid && decide (be.length ≤ 4096)
  | .hostBar2Write rid _ be data => ridWf rid && decide (be.length ≤ 4096) && decide (data.length = be.length)
  | .hostBar4Read tag rid _ n => tagWf tag && ridWf rid && decide (n ≤ 4096)
  | .hostBar4Write _ be data => decide (be.length ≤ 4096) && decide (data.length = be.length)
  | .hostAtomicop tag rid _ _ => tagWf tag && ridWf rid
  | .sramWindowAccess tag _ n data => tagWf tag && decide (n ≤ 4096) &&
    (match data with
     | none => true
     | some d => decide (d.length = n))
  | .hostReadAbandon tag => tagWf tag
  | .nocPacketInject _ _ _ _ _ _ _ _ _ _ _ data => decide (data.length ≤ 1024)
  | .twinBankData _ off data => decide (off < 2 ^ 24) && decide (data.length ≤ 1016)
  | .twinStagedSet l => decide (l.length ≤ 64)
  | .twinCounters _ _ seqs _ => seqs.all (fun x => decide (x.2 < 2 ^ 16))
  | .twinDeclData _ off data => decide (off < 2 ^ 34) && decide (data.length ≤ 1016)
  | .fwData _ _ _ data => decide (data.length ≤ 4096)
  | _ => true

end Sys2Proof
end

