-- ==== Sys2Proof/Safety.lean ====
section
/-!
DEFINITION. The terms the statements use: how a command completes, what it leaves unchanged, and the invariants of a well-kept
state.
-/
namespace Sys2Proof.Machine

/-! ### How a command completes -/

/-- Command c, run at s, answers the next state that differs from s in the module alone, now m. -/
def Runs (c : Instr) (s : State) (m : Mach) : Prop := exec c s = .next { s with m := m }

/-- Instruction i, fetched by engine e at its pc (R224), answers the next state that differs from s in the module alone, now m. -/
def Issues (e : Nat) (i : Instr) (s : State) (m : Mach) : Prop := fetches s.m e i = true → Runs i s m

/-- Command c, run at s, answers the next state whose module is the one the log, journal, event and Uhlux services and the descriptor lists
leave (`finish`) after a step that made m; m satisfies P. The queue and the firmware store are as in s. -/
def Ends (c : Instr) (s : State) (P : Mach → Prop) : Prop := ∃ m, exec c s = .next { s with m := finish m } ∧ P m

/-- Command c, run at s, answers the next state whose module is the one those services leave after a step that made m. -/
def Leaves (c : Instr) (s : State) (m : Mach) : Prop := exec c s = .next { s with m := finish m }

/-- The parts of the module, one per field of `Mach`. -/
inductive Part where
  | regs
  | staged
  | committed
  | sel
  | heldLo
  | latch
  | now
  | sub
  | freeCtr
  | work
  | out
  | log
  | folds
  | heldLogs
  | heldLogLost
  | heldPosts
  | heldPostsLost
  | hReset
  | mpuClear
  | jq
  | jStarted
  | jDropBoot
  | jDropNojrn
  | jDropDis
  | jDropFull
  | evSlots
  | evHeld
  | mxAcc
  | mxHeld
  | mxEpisode
  | pcie
  | dram
  | dramBad
  | scratch
  | csram
  | isram
  | portQ
  | engines
  | cycles
  | engBase
  | hSkew
  | reqs
  | orphans
  | lateResp
  | noc
  | ring
  | beat
  | ux
  | fenced
  | img
  | movers
  | mvWords
  | jLatch
  | mig
  | dv
  | pw
  | nvLog
  | shadow
  | heldWrites
  | stopped
  | test
  | twin
  | strike
  | tocsin
deriving DecidableEq, Repr

/-- t with one part taken from b. -/
def copyPart (b t : Mach) (p : Part) : Mach :=
  match p with
  | .regs => { t with regs := b.regs }
  | .staged => { t with staged := b.staged }
  | .committed => { t with committed := b.committed }
  | .sel => { t with sel := b.sel }
  | .heldLo => { t with heldLo := b.heldLo }
  | .latch => { t with latch := b.latch }
  | .now => { t with now := b.now }
  | .sub => { t with sub := b.sub }
  | .freeCtr => { t with freeCtr := b.freeCtr }
  | .work => { t with work := b.work }
  | .out => { t with out := b.out }
  | .log => { t with log := b.log }
  | .folds => { t with folds := b.folds }
  | .heldLogs => { t with heldLogs := b.heldLogs }
  | .heldLogLost => { t with heldLogLost := b.heldLogLost }
  | .heldPosts => { t with heldPosts := b.heldPosts }
  | .heldPostsLost => { t with heldPostsLost := b.heldPostsLost }
  | .hReset => { t with hReset := b.hReset }
  | .mpuClear => { t with mpuClear := b.mpuClear }
  | .jq => { t with jq := b.jq }
  | .jStarted => { t with jStarted := b.jStarted }
  | .jDropBoot => { t with jDropBoot := b.jDropBoot }
  | .jDropNojrn => { t with jDropNojrn := b.jDropNojrn }
  | .jDropDis => { t with jDropDis := b.jDropDis }
  | .jDropFull => { t with jDropFull := b.jDropFull }
  | .evSlots => { t with evSlots := b.evSlots }
  | .evHeld => { t with evHeld := b.evHeld }
  | .mxAcc => { t with mxAcc := b.mxAcc }
  | .mxHeld => { t with mxHeld := b.mxHeld }
  | .mxEpisode => { t with mxEpisode := b.mxEpisode }
  | .pcie => { t with pcie := b.pcie }
  | .dram => { t with dram := b.dram }
  | .dramBad => { t with dramBad := b.dramBad }
  | .scratch => { t with scratch := b.scratch }
  | .csram => { t with csram := b.csram }
  | .isram => { t with isram := b.isram }
  | .portQ => { t with portQ := b.portQ }
  | .engines => { t with engines := b.engines }
  | .cycles => { t with cycles := b.cycles }
  | .engBase => { t with engBase := b.engBase }
  | .hSkew => { t with hSkew := b.hSkew }
  | .reqs => { t with reqs := b.reqs }
  | .orphans => { t with orphans := b.orphans }
  | .lateResp => { t with lateResp := b.lateResp }
  | .noc => { t with noc := b.noc }
  | .ring => { t with ring := b.ring }
  | .beat => { t with beat := b.beat }
  | .ux => { t with ux := b.ux }
  | .fenced => { t with fenced := b.fenced }
  | .img => { t with img := b.img }
  | .movers => { t with movers := b.movers }
  | .mvWords => { t with mvWords := b.mvWords }
  | .jLatch => { t with jLatch := b.jLatch }
  | .mig => { t with mig := b.mig }
  | .dv => { t with dv := b.dv }
  | .pw => { t with pw := b.pw }
  | .nvLog => { t with nvLog := b.nvLog }
  | .shadow => { t with shadow := b.shadow }
  | .heldWrites => { t with heldWrites := b.heldWrites }
  | .stopped => { t with stopped := b.stopped }
  | .test => { t with test := b.test }
  | .twin => { t with twin := b.twin }
  | .strike => { t with strike := b.strike }
  | .tocsin => { t with tocsin := b.tocsin }

/-- b differs from a in these parts at most; the registers, memories, engines, queues and units not named are those of a. -/
def Only (ps : List Part) (a b : Mach) : Prop := b = ps.foldl (copyPart b) a

/-- Every register outside ks reads in b as in a. -/
def OnlyRegs (ks : List Nat) (a b : Mach) : Prop := ∀ k, k ∉ ks → b.r k = a.r k

/-! ### Engines -/

/-- Engine e can issue an instruction that uses the general registers rs: it runs, waits for nothing, no stop is requested, its
pc is in the instruction SRAM and no outstanding read has one of rs as its destination (R214, Table 06-5). -/
def Ready (s : State) (e : Nat) (rs : List Nat) : Prop := (s.m.eng e).canIssue rs = true

/-- As Ready, and every earlier instruction has retired. -/
def ReadyAlone (s : State) (e : Nat) (rs : List Nat) : Prop := (s.m.eng e).canIssueAlone rs = true

/-- The value of general register d of engine e. -/
def reg (s : State) (e d : Nat) : U64 := (s.m.eng e).get d

/-- No asynchronous exception of engine x is due (R208). -/
def NoneDue (x : Engine) : Prop := x.overrunDue = false ∧ x.fabErrDue = false ∧ x.mcDue = false

/-- The module after an instruction of engine e that only writes v to d has retired; an asynchronous exception that is due is
taken with it (R209). -/
def wrote (s : State) (e d : Nat) (v : U64) : Mach := retireEng s.m e ((s.m.eng e).retireD d v)

/-- As wrote, with flags ored into FCSR (R236). -/
def wroteFlags (s : State) (e d : Nat) (r : Nat × Nat) : Mach :=
  retireEng s.m e
    { (s.m.eng e).retireD d (BitVec.ofNat 64 r.1) with
      arch := { ((s.m.eng e).retireD d (BitVec.ofNat 64 r.1)).arch with fcsr := orFlags (s.m.eng e).arch.fcsr r.2 } }

/-- The module after an instruction of engine e that only moves the pc has retired. -/
def moved (s : State) (e npc : Nat) : Mach := retireEng s.m e ((s.m.eng e).retire npc)

/-- The module after the instruction at the pc of engine e has raised the precise exception with vector vec (R209 to R211). -/
def raised (s : State) (e vec ea : Nat) : Mach := settle (preciseException s.m e vec ea)

/-- The low 32 bits of v, sign-extended (the w forms, R228). -/
def low32 (v : U64) : U64 := (v.setWidth 32).signExtend 64

/-- The low 32 bits of v, zero-extended. -/
def zlow32 (v : U64) : U64 := (v.setWidth 32).setWidth 64

/-- An address lies in memory that an engine's core instructions reach as normal memory (Table 06-4). -/
def NormalAt (ea : Nat) : Prop :=
  (∃ a, locate ea = .scratch a) ∨ (∃ a, locate ea = .csram a) ∨ (∃ a, locate ea = .dram a)

/-- Engine e may make an aligned access of n bytes at ea: every byte has the rights it needs (R517, R520). -/
def Allowed (s : State) (e ea n : Nat) (need : Need) : Prop :=
  ea % n = 0 ∧ mpuFirst s.m e ((s.m.eng e).level == 1) need ea n = none

/-- The address of a load or store. -/
def memAddr (s : State) (e a : Nat) (i : BitVec 16) : Nat := (reg s e a + i.signExtend 64).toNat

/-- The value a load of n bytes writes: extended with its sign (sg) or with zeros (Table 07-9). -/
def loadExt (n : Nat) (sg : Bool) (v : Nat) : U64 := if sg then sext64 (8 * n) v else BitVec.ofNat 64 v

/-- The module after a store instruction has put a store of this kind into its buffer. -/
def stored (s : State) (e d a : Nat) (i : BitVec 16) (n kind : Nat) : Mach :=
  retireEng s.m e (Engine.retire4 { s.m.eng e with
    sb := (s.m.eng e).sb ++ [{ kind := kind, addr := memAddr s e a i, data := leBytes n (reg s e d).toNat,
                               after := (s.m.eng e).robNext, level := (s.m.eng e).level }] })

/-- No store of engine e's buffer covers a byte of the access (R254). -/
def NoStoreOver (s : State) (e ea n : Nat) : Prop :=
  (s.m.eng e).sb.any (fun t => decide (t.addr < ea + n) && decide (ea < t.addr + t.data.length)) = false

/-- The module after the cluster port has passed the stores up to the last one that touches the granule of ea to the DRAM
controller (R340). -/
def portPassed (s : State) (e ea : Nat) : Mach :=
  match locate ea with
  | .dram o => drainGranule s.m (e / 4) o
  | _ => s.m

/-! ### Invariants -/

/-- Every memory of the module is in its one canonical form. -/
def MemWf (m : Mach) : Prop :=
  mapWf memReset m.dram = true ∧ mapWf memReset m.scratch = true ∧ mapWf memReset m.csram = true ∧
  mapWf memReset m.isram = true

/-- The rollback floor of an image kind. -/
def floorOf (n : Nv) (kind : Nat) : Nat := mapGet (fun _ => 0) n.floors kind

end Sys2Proof.Machine
end

