-- ==== Sys2Proof/Certificates/Slice0/Obligations.lean ====
section
/-! DEFINITION. The statements for the provers. Each docstring says what its statement states and which rules of spec/ it rests on;
a clause that is the model's own choice names its log entry. -/

open Sys2Proof Sys2Proof.Machine

/-- Addition, subtraction and the logic operations of two registers write their result to d; a w form works on the low 32 bits and sign-
extends its 32-bit result. Each completes for every ready engine and every operand. Rests on Table 07-3, R228, of which it states the part
said here. -/
def Obligations.ArithmeticAndLogicResults : Prop :=
  ∀ (s : State) (e : Fin 64) (d a b : Fin 32), Ready s e [d, a, b] →
    Issues e (.add e false d a b) s (wrote s e d (reg s e a + reg s e b)) ∧
    Issues e (.add e true d a b) s (wrote s e d (low32 (reg s e a + reg s e b))) ∧
    Issues e (.sub e false d a b) s (wrote s e d (reg s e a - reg s e b)) ∧
    Issues e (.sub e true d a b) s (wrote s e d (low32 (reg s e a - reg s e b))) ∧
    Issues e (.and e d a b) s (wrote s e d (reg s e a &&& reg s e b)) ∧
    Issues e (.or e d a b) s (wrote s e d (reg s e a ||| reg s e b)) ∧
    Issues e (.xor e d a b) s (wrote s e d (reg s e a ^^^ reg s e b)) ∧
    Issues e (.andn e d a b) s (wrote s e d (reg s e a &&& ~~~(reg s e b))) ∧
    Issues e (.orn e d a b) s (wrote s e d (reg s e a ||| ~~~(reg s e b)))

/-- Shifts and rotates by the low 6 bits of b; a w form by its low 5 bits, on the low 32 bits of a, with the 32-bit result sign-extended.
A left shift multiplies, a right shift divides toward minus infinity, a rotate joins both shifts. Rests on Table 07-3, of which it states
the part said here. -/
def Obligations.ShiftResults : Prop :=
  ∀ (s : State) (e : Fin 64) (d a b : Fin 32), Ready s e [d, a, b] →
    let p := reg s e a
    let n := (reg s e b).toNat % 64
    let k := (reg s e b).toNat % 32
    Issues e (.sll e false d a b) s (wrote s e d (BitVec.ofNat 64 (p.toNat * 2 ^ n))) ∧
    Issues e (.sll e true d a b) s (wrote s e d (low32 (BitVec.ofNat 64 (p.toNat * 2 ^ k)))) ∧
    Issues e (.srl e false d a b) s (wrote s e d (BitVec.ofNat 64 (p.toNat / 2 ^ n))) ∧
    Issues e (.srl e true d a b) s (wrote s e d (low32 (BitVec.ofNat 64 (p.toNat % 2 ^ 32 / 2 ^ k)))) ∧
    Issues e (.sra e false d a b) s (wrote s e d (BitVec.ofInt 64 (p.toInt / 2 ^ n))) ∧
    Issues e (.sra e true d a b) s (wrote s e d (BitVec.ofInt 64 ((low32 p).toInt / 2 ^ k))) ∧
    Issues e (.rol e false d a b) s (wrote s e d (p <<< n ||| p >>> (64 - n))) ∧
    Issues e (.rol e true d a b) s (wrote s e d (low32 (zlow32 p <<< k ||| zlow32 p >>> (32 - k)))) ∧
    Issues e (.ror e false d a b) s (wrote s e d (p >>> n ||| p <<< (64 - n))) ∧
    Issues e (.ror e true d a b) s (wrote s e d (low32 (zlow32 p >>> k ||| zlow32 p <<< (32 - k))))

/-- Comparisons write 1 or 0; a minimum or maximum writes the lesser or greater operand. The immediate of SLTI is sign-extended, that of
SLTIU zero-extended. Rests on Table 07-3, Table 07-4, of which it states the part said here. -/
def Obligations.ComparisonResults : Prop :=
  ∀ (s : State) (e : Fin 64) (d a b : Fin 32) (i : BitVec 16),
    let p := reg s e a
    let q := reg s e b
    (Ready s e [d, a, b] →
      Issues e (.slt e d a b) s (wrote s e d (if p.toInt < q.toInt then 1 else 0)) ∧
      Issues e (.sltu e d a b) s (wrote s e d (if p.toNat < q.toNat then 1 else 0)) ∧
      Issues e (.min e d a b) s (wrote s e d (if p.toInt ≤ q.toInt then p else q)) ∧
      Issues e (.max e d a b) s (wrote s e d (if p.toInt ≤ q.toInt then q else p)) ∧
      Issues e (.minu e d a b) s (wrote s e d (if p.toNat ≤ q.toNat then p else q)) ∧
      Issues e (.maxu e d a b) s (wrote s e d (if p.toNat ≤ q.toNat then q else p))) ∧
    (Ready s e [d, a] →
      Issues e (.slti e d a i) s (wrote s e d (if p.toInt < i.toInt then 1 else 0)) ∧
      Issues e (.sltiu e d a i) s (wrote s e d (if p.toNat < i.toNat then 1 else 0)))

/-- CLZ and CTZ count the zeros above the highest and below the lowest one bit, and give the width for 0; POPC counts the one bits; BSWAP
puts byte k of the source into byte 7 - k (w: 3 - k of the low half, the 32-bit result sign-extended); SEXTB and SEXTH extend the sign of
the low 8 and 16 bits. Rests on Table 07-3, of which it states the part said here. -/
def Obligations.BitCountAndByteResults : Prop :=
  ∀ (s : State) (e : Fin 64) (w : Bool) (d a : Fin 32), Ready s e [d, a] →
    let p := reg s e a
    let n := if w then 32 else 64
    let x := p.toNat % 2 ^ n
    (∃ c, Issues e (.clz e w d a) s (wrote s e d (BitVec.ofNat 64 c)) ∧
      ((x = 0 ∧ c = n) ∨ (c < n ∧ 2 ^ (n - 1 - c) ≤ x ∧ x < 2 ^ (n - c)))) ∧
    (∃ c, Issues e (.ctz e w d a) s (wrote s e d (BitVec.ofNat 64 c)) ∧
      ((x = 0 ∧ c = n) ∨ (c < n ∧ x % 2 ^ c = 0 ∧ x / 2 ^ c % 2 = 1))) ∧
    Issues e (.popc e w d a) s (wrote s e d (BitVec.ofNat 64 ((List.range n).countP (fun k => p.getLsbD k)))) ∧
    (∃ v, Issues e (.bswap e w d a) s (wrote s e d v) ∧
      (w = false → ∀ k, k < 8 → v.toNat / 256 ^ (7 - k) % 256 = p.toNat / 256 ^ k % 256) ∧
      (w = true → v = low32 v ∧ ∀ k, k < 4 → v.toNat / 256 ^ (3 - k) % 256 = p.toNat / 256 ^ k % 256)) ∧
    Issues e (.sextb e d a) s (wrote s e d ((p.setWidth 8).signExtend 64)) ∧
    Issues e (.sexth e d a) s (wrote s e d ((p.setWidth 16).signExtend 64))

/-- The immediate forms; ADDI extends its immediate with its sign, ANDI, ORI, XORI and LSH with zeros. SHI shifts or rotates by imm16[5:0]
in the way imm16[7:6] names, on 32 bits when imm16[8] is 1; with imm16[15:9] not 0, or an amount above 31 on 32 bits, it is illegal
(R226). Rests on Table 07-4, of which it states the part said here. -/
def Obligations.ImmediateResults : Prop :=
  ∀ (s : State) (e : Fin 64) (d a : Fin 32) (i : BitVec 16), Ready s e [d, a] →
    let p := reg s e a
    Issues e (.addi e d a i) s (wrote s e d (p + i.signExtend 64)) ∧
    Issues e (.andi e d a i) s (wrote s e d (p &&& i.setWidth 64)) ∧
    Issues e (.ori e d a i) s (wrote s e d (p ||| i.setWidth 64)) ∧
    Issues e (.xori e d a i) s (wrote s e d (p ^^^ i.setWidth 64)) ∧
    Issues e (.lsh e d a i) s (wrote s e d (BitVec.ofNat 64 (p.toNat * 65536 + i.toNat))) ∧
    (∀ n, n < 64 → i = BitVec.ofNat 16 n → Issues e (.shi e d a i) s (wrote s e d (BitVec.ofNat 64 (p.toNat * 2 ^ n)))) ∧
    (∀ n, n < 64 → i = BitVec.ofNat 16 (64 + n) → Issues e (.shi e d a i) s (wrote s e d (BitVec.ofNat 64 (p.toNat / 2 ^ n)))) ∧
    (∀ n, n < 64 → i = BitVec.ofNat 16 (128 + n) → Issues e (.shi e d a i) s (wrote s e d (BitVec.ofInt 64 (p.toInt / 2 ^ n)))) ∧
    (∀ n, n < 64 → i = BitVec.ofNat 16 (192 + n) → Issues e (.shi e d a i) s (wrote s e d (p >>> n ||| p <<< (64 - n)))) ∧
    (∀ n, n < 32 → i = BitVec.ofNat 16 (256 + n) → Issues e (.shi e d a i) s (wrote s e d (low32 (BitVec.ofNat 64 (p.toNat * 2 ^ n))))) ∧
    (∀ n, n < 32 → i = BitVec.ofNat 16 (320 + n) →
      Issues e (.shi e d a i) s (wrote s e d (low32 (BitVec.ofNat 64 (p.toNat % 2 ^ 32 / 2 ^ n))))) ∧
    (∀ n, n < 32 → i = BitVec.ofNat 16 (384 + n) →
      Issues e (.shi e d a i) s (wrote s e d (BitVec.ofInt 64 ((low32 p).toInt / 2 ^ n)))) ∧
    (∀ n, n < 32 → i = BitVec.ofNat 16 (448 + n) →
      Issues e (.shi e d a i) s (wrote s e d (low32 (zlow32 p >>> n ||| zlow32 p <<< (32 - n))))) ∧
    ((512 ≤ i.toNat ∨ (i.toNat / 256 % 2 = 1 ∧ i.toNat / 32 % 2 = 1)) → Issues e (.shi e d a i) s (raised s e 3 0))

/-- Products and their high halves; quotients rounded toward zero and remainders with the sign of a, for a divisor whose operand bits are
not 0; a zero divisor raises the arithmetic exception. Rests on Table 07-5, R230, R231. -/
def Obligations.MultiplyDivideResults : Prop :=
  ∀ (s : State) (e : Fin 64) (d a b : Fin 32), Ready s e [d, a, b] →
    let p := reg s e a
    let q := reg s e b
    let p32 := low32 p
    let q32 := low32 q
    Issues e (.mul e false d a b) s (wrote s e d (BitVec.ofNat 64 (p.toNat * q.toNat))) ∧
    Issues e (.mul e true d a b) s (wrote s e d (low32 (BitVec.ofNat 64 (p.toNat * q.toNat)))) ∧
    Issues e (.mulh e d a b) s (wrote s e d (BitVec.ofInt 64 (p.toInt * q.toInt / 2 ^ 64))) ∧
    Issues e (.mulhu e d a b) s (wrote s e d (BitVec.ofNat 64 (p.toNat * q.toNat / 2 ^ 64))) ∧
    Issues e (.mulhsu e d a b) s (wrote s e d (BitVec.ofInt 64 (p.toInt * (q.toNat : Int) / 2 ^ 64))) ∧
    (q ≠ 0 →
      Issues e (.div e false d a b) s (wrote s e d (BitVec.ofInt 64 (p.toInt.tdiv q.toInt))) ∧
      Issues e (.divu e false d a b) s (wrote s e d (BitVec.ofNat 64 (p.toNat / q.toNat))) ∧
      Issues e (.rem e false d a b) s (wrote s e d (BitVec.ofInt 64 (p.toInt.tmod q.toInt))) ∧
      Issues e (.remu e false d a b) s (wrote s e d (BitVec.ofNat 64 (p.toNat % q.toNat)))) ∧
    (q32 ≠ 0 →
      Issues e (.div e true d a b) s (wrote s e d (low32 (BitVec.ofInt 64 (p32.toInt.tdiv q32.toInt)))) ∧
      Issues e (.divu e true d a b) s (wrote s e d (low32 (BitVec.ofNat 64 (p.toNat % 2 ^ 32 / (q.toNat % 2 ^ 32))))) ∧
      Issues e (.rem e true d a b) s (wrote s e d (low32 (BitVec.ofInt 64 (p32.toInt.tmod q32.toInt)))) ∧
      Issues e (.remu e true d a b) s (wrote s e d (low32 (BitVec.ofNat 64 (p.toNat % 2 ^ 32 % (q.toNat % 2 ^ 32)))))) ∧
    (q = 0 → ∀ i ∈ [Instr.div e false d a b, Instr.divu e false d a b, Instr.rem e false d a b, Instr.remu e false d a b],
      Issues e i s (raised s e 9 0)) ∧
    (q32 = 0 → ∀ i ∈ [Instr.div e true d a b, Instr.divu e true d a b, Instr.rem e true d a b, Instr.remu e true d a b],
      Issues e i s (raised s e 9 0))

/-- An instruction whose effect is a result writes its destination alone: g0 stays 0, the other general registers keep their values, the
pc moves on by 4, INSTRET counts 1 (modulo 2^64), FCSR gains the flags. The launch register, STATUS, the exception registers, the other
engines, every module register and every memory stay as they were. Rests on R228, R192, R236, of which it states the part said here. -/
def Obligations.ResultInstructionsWriteTheirDestinationOnly : Prop :=
  ∀ (s : State) (e d : Nat) (r : Nat × Nat), NoneDue (s.m.eng e) →
    let x := s.m.eng e
    let m := wroteFlags s e d r
    let y := m.eng e
    (∀ k, y.get k = if k = d ∧ d ≠ 0 then BitVec.ofNat 64 r.1 else x.get k) ∧
    y = { x with arch := { x.arch with g := y.arch.g, pc := x.arch.pc + 4, fcsr := orFlags x.arch.fcsr r.2,
                                       instret := (x.arch.instret + 1) % 2 ^ 64 },
                 rob := y.rob } ∧
    (x.rob = [] → y.rob = []) ∧
    Only [.engines] s.m m ∧ (∀ k, k ≠ e → m.eng k = s.m.eng k) ∧
    wrote s e d (BitVec.ofNat 64 r.1) = (s.m.setEng e { y with arch := { y.arch with fcsr := x.arch.fcsr } })

/-- The arithmetic of FADD, FSUB, FMUL, FDIV, FSQRT and FMAC on the operand bits of the format, with the rounding mode of FCSR; the flags
are ored into FCSR. A NaN operand gives the canonical quiet NaN. Rests on Table 07-6, R234, R235, of which it states the part said here.
-/
def Obligations.FloatArithmeticResults : Prop :=
  ∀ (s : State) (e : Fin 64) (dbl : Bool) (d a b : Fin 32),
    let f := dblFmt dbl
    let rm := roundMode (s.m.eng e).arch.fcsr
    let p := fpBits dbl (reg s e a)
    let q := fpBits dbl (reg s e b)
    let z := fpBits dbl (reg s e d)
    (Ready s e [d, a, b] →
      Issues e (.fadd e dbl d a b) s (wroteFlags s e d (fpAdd f rm p q)) ∧
      Issues e (.fsub e dbl d a b) s (wroteFlags s e d (fpSub f rm p q)) ∧
      Issues e (.fmul e dbl d a b) s (wroteFlags s e d (fpMul f rm p q)) ∧
      Issues e (.fdiv e dbl d a b) s (wroteFlags s e d (fpDiv f rm p q)) ∧
      Issues e (.fmac e dbl d a b) s (wroteFlags s e d (fpFma f rm p q z))) ∧
    (Ready s e [d, a] → Issues e (.fsqrt e dbl d a) s (wroteFlags s e d (fpSqrt f rm p))) ∧
    ((fpDecode f p).isNan = true →
      (fpAdd f rm p q).1 = fpNan f ∧ (fpAdd f rm q p).1 = fpNan f ∧ (fpSub f rm p q).1 = fpNan f ∧ (fpSub f rm q p).1 = fpNan f ∧
      (fpMul f rm p q).1 = fpNan f ∧ (fpMul f rm q p).1 = fpNan f ∧ (fpDiv f rm p q).1 = fpNan f ∧ (fpDiv f rm q p).1 = fpNan f ∧
      (fpFma f rm p q z).1 = fpNan f ∧ (fpFma f rm q p z).1 = fpNan f ∧ (fpFma f rm q z p).1 = fpNan f ∧
      (fpSqrt f rm p).1 = fpNan f)

/-- Rounding is exact on every number the format holds: for binary32 and binary64, every rounding mode and every bit pattern of a number
that is not zero, infinite or a NaN, rounding the pattern's value gives the pattern and no flag. Rests on R234, R236, of which it states
the part said here. -/
def Obligations.RoundingKeepsRepresentableNumbers : Prop :=
  ∀ f ∈ [fmt32, fmt64], ∀ (rm x : Nat) (sg : Bool) (m : Nat) (k : Int), x < 2 ^ f.width → fpDecode f x = .fin sg m k → m ≠ 0 →
    fpRound f rm sg m k false = (x, 0)

/-- Comparisons write 1 or 0 by the order of the two numbers, FEQ without and FLT and FLE with NV for a quiet NaN; FSGNJ, FSGNJN and
FSGNJX join the magnitude of a with a sign bit; FMIN and FMAX give the number when one operand is a NaN; FCLASS writes exactly one bit of
ten. Rests on Table 07-6, Table 07-8, of which it states the part said here. -/
def Obligations.FloatCompareSignAndClassResults : Prop :=
  ∀ (s : State) (e : Fin 64) (dbl : Bool) (d a b : Fin 32),
    let f := dblFmt dbl
    let p := fpBits dbl (reg s e a)
    let q := fpBits dbl (reg s e b)
    let x := fpDecode f p
    let y := fpDecode f q
    let half := 2 ^ (f.width - 1)
    let nan := x.isNan || y.isNan
    let nv := if x.snan || y.snan then 0x80 else 0
    (Ready s e [d, a, b] →
      Issues e (.feq e dbl d a b) s (wroteFlags s e d (if nan then (0, nv) else (b2n (fpLtEq x y).2, 0))) ∧
      Issues e (.flt e dbl d a b) s (wroteFlags s e d (if nan then (0, 0x80) else (b2n (fpLtEq x y).1, 0))) ∧
      Issues e (.fle e dbl d a b) s (wroteFlags s e d (if nan then (0, 0x80) else (b2n ((fpLtEq x y).1 || (fpLtEq x y).2), 0))) ∧
      Issues e (.fsgnj e dbl d a b) s (wroteFlags s e d (p % half + q / half % 2 * half, 0)) ∧
      Issues e (.fsgnjn e dbl d a b) s (wroteFlags s e d (p % half + (1 - q / half % 2) * half, 0)) ∧
      Issues e (.fsgnjx e dbl d a b) s (wroteFlags s e d (p % half + (p / half + q / half) % 2 * half, 0)) ∧
      (∃ r, Issues e (.fmin e dbl d a b) s (wroteFlags s e d r) ∧
        (x.isNan = true → y.isNan = true → r = (fpNan f, nv)) ∧ (x.isNan = true → y.isNan = false → r = (q, nv)) ∧
        (x.isNan = false → y.isNan = true → r = (p, nv)) ∧
        (nan = false → r.2 = 0 ∧ ((fpLtEq x y).1 = true → r.1 = p) ∧ ((fpLtEq y x).1 = true → r.1 = q))) ∧
      (∃ r, Issues e (.fmax e dbl d a b) s (wroteFlags s e d r) ∧
        (x.isNan = true → y.isNan = true → r = (fpNan f, nv)) ∧ (x.isNan = true → y.isNan = false → r = (q, nv)) ∧
        (x.isNan = false → y.isNan = true → r = (p, nv)) ∧
        (nan = false → r.2 = 0 ∧ ((fpLtEq x y).1 = true → r.1 = q) ∧ ((fpLtEq y x).1 = true → r.1 = p)))) ∧
    (Ready s e [d, a] →
      (∃ k, k < 10 ∧ Issues e (.fclassS e d a) s (wroteFlags s e d (2 ^ k, 0))) ∧
      (∃ k, k < 10 ∧ Issues e (.fclassD e d a) s (wroteFlags s e d (2 ^ k, 0))))

/-- Conversions. To an integer: rounded toward zero with rz and by FCSR without, saturated at the bounds of the type, a NaN giving the
greatest value, each of these with NV; 32-bit results sign-extended. From an integer and between the formats: rounded by FCSR, with the
canonical NaN for a NaN. Rests on Table 07-7, R238, R239. -/
def Obligations.FloatConversionResults : Prop :=
  ∀ (s : State) (e : Fin 64) (rz : Bool) (d a : Fin 32), Ready s e [d, a] →
    let rm := roundMode (s.m.eng e).arch.fcsr
    let p := (reg s e a).toNat
    let p32 := p % 2 ^ 32
    (∀ c ∈ [(Instr.fcvtWS e rz d a, fpDecode fmt32 p32, 32, true), (.fcvtWuS e rz d a, fpDecode fmt32 p32, 32, false),
            (.fcvtLS e rz d a, fpDecode fmt32 p32, 64, true), (.fcvtLuS e rz d a, fpDecode fmt32 p32, 64, false),
            (.fcvtWD e rz d a, fpDecode fmt64 p, 32, true), (.fcvtWuD e rz d a, fpDecode fmt64 p, 32, false),
            (.fcvtLD e rz d a, fpDecode fmt64 p, 64, true), (.fcvtLuD e rz d a, fpDecode fmt64 p, 64, false)],
      let hi : Int := if c.2.2.2 then 2 ^ (c.2.2.1 - 1) - 1 else 2 ^ c.2.2.1 - 1
      let lo : Int := if c.2.2.2 then -2 ^ (c.2.2.1 - 1) else 0
      ∃ (i : Int) (fl : Nat), Issues e c.1 s (wroteFlags s e d ((sext64 c.2.2.1 (twos c.2.2.1 i)).toNat, fl)) ∧ lo ≤ i ∧ i ≤ hi ∧
        (match c.2.1 with
         | .nan _ => i = hi ∧ fl = 0x80
         | .inf sg => i = (if sg then lo else hi) ∧ fl = 0x80
         | .fin sg m k =>
           let r := fpToInt (if rz then 1 else rm) sg m k
           if r.1 < lo then i = lo ∧ fl = 0x80 else if hi < r.1 then i = hi ∧ fl = 0x80
           else i = r.1 ∧ fl = (if r.2 then 0x08 else 0))) ∧
    (∀ c ∈ [(Instr.fcvtSW e d a, fmt32, (reg s e a).truncate 32 |>.toInt), (.fcvtSWu e d a, fmt32, (p32 : Int)),
            (.fcvtSL e d a, fmt32, (reg s e a).toInt), (.fcvtSLu e d a, fmt32, (p : Int)),
            (.fcvtDW e d a, fmt64, (reg s e a).truncate 32 |>.toInt), (.fcvtDWu e d a, fmt64, (p32 : Int)),
            (.fcvtDL e d a, fmt64, (reg s e a).toInt), (.fcvtDLu e d a, fmt64, (p : Int))],
      Issues e c.1 s (wroteFlags s e d (if c.2.2 = 0 then (0, 0) else fpRound c.2.1 rm (decide (c.2.2 < 0)) c.2.2.natAbs 0 false))) ∧
    (∀ c ∈ [(Instr.fcvtSD e d a, fpDecode fmt64 p, fmt32), (.fcvtDS e d a, fpDecode fmt32 p32, fmt64)],
      Issues e c.1 s (wroteFlags s e d (match c.2.1 with
        | .nan sn => (fpNan c.2.2, if sn then 0x80 else 0)
        | .inf sg => (fpInf c.2.2 sg, 0)
        | .fin sg m k => if m = 0 then (fpZero c.2.2 sg, 0) else fpRound c.2.2 rm sg m k false)))

/-- A branch whose condition does not hold goes on at pc + 4. A branch whose condition holds and a jump go to their target when it is a
multiple of 4 in the instruction SRAM, and raise the instruction fetch fault themselves, with no link written, when it is not. JAL links
in g31, JALR in d. Rests on Table 07-11, R255, R256, of which it states the part said here. -/
def Obligations.BranchAndJumpResults : Prop :=
  ∀ (s : State) (e : Fin 64) (a b d : Fin 32) (o : BitVec 16) (o26 : BitVec 26),
    let x := s.m.eng e
    let p := reg s e a
    let q := reg s e b
    let bad (t : Int) : Prop := t % 4 ≠ 0 ∨ t < 0 ∨ 0x10000 ≤ t
    let fetch (i : Instr) (t : Int) : Prop := bad t → Issues e i s (raised s e 2 (t % 2 ^ 48).toNat)
    let link (r : Nat) (t : Nat) : Mach := retireEng s.m e ((x.put r (BitVec.ofNat 64 (x.arch.pc + 4))).retire t)
    let near := (x.arch.pc : Int) + 4 * o.toInt
    let far := (x.arch.pc : Int) + 4 * o26.toInt
    (Ready s e [a, b] →
      ∀ c ∈ [(Instr.beq e a b o, decide (p = q)), (.bne e a b o, decide (p ≠ q)), (.blt e a b o, decide (p.toInt < q.toInt)),
             (.bge e a b o, decide (q.toInt ≤ p.toInt)), (.bltu e a b o, decide (p.toNat < q.toNat)),
             (.bgeu e a b o, decide (q.toNat ≤ p.toNat))],
        (c.2 = false → Issues e c.1 s (moved s e (x.arch.pc + 4))) ∧
        (c.2 = true → (¬ bad near → Issues e c.1 s (moved s e near.toNat)) ∧ fetch c.1 near)) ∧
    (Ready s e [] → (¬ bad far → Issues e (.j e o26) s (moved s e far.toNat)) ∧ fetch (.j e o26) far) ∧
    (Ready s e [31] → (¬ bad far → Issues e (.jal e o26) s (link 31 far.toNat)) ∧ fetch (.jal e o26) far) ∧
    (Ready s e [d, a] →
      let t := (p + o.signExtend 64).toNat
      (¬ bad t → Issues e (.jalr e d a o) s (link d t)) ∧ fetch (.jalr e d a o) t)

/-- Loads of normal memory write the little-endian bytes the engine sees at a + sext(imm16), its own stores first, sign- or zero-extended,
when the address is aligned, every byte is allowed and the memory answers. A misaligned address raises vector 0x06, an address outside the
ranges a load reaches vector 0x07. R245: a load of the register mirror issues once nothing before it is outstanding; its read is in the
reorder buffer, and what the register read gives, with code 0x15 when the read fails, waits for the engine. Rests on Table 07-9, R240,
R243, R248, of which it states the part said here. -/
def Obligations.LoadResults : Prop :=
  ∀ (s : State) (e : Fin 64) (d a : Fin 32) (i : BitVec 16), Ready s e [d, a] →
    let x := s.m.eng e
    let ea := (reg s e a + i.signExtend 64).toNat
    ∀ c ∈ [(Instr.lb e d a i, 1, true), (.lbu e d a i, 1, false), (.lh e d a i, 2, true), (.lhu e d a i, 2, false),
           (.lw e d a i, 4, true), (.lwu e d a i, 4, false), (.ld e d a i, 8, false)],
      let n := c.2.1
      let ext (v : Nat) : U64 := if c.2.2 then (BitVec.ofNat (8 * n) v).signExtend 64 else BitVec.ofNat 64 v
      (NormalAt ea → Allowed s e ea n needR → dramFails s.m ea n = false →
        Issues e c.1 s (wrote s e d (ext (leNat (engBytes s.m e ea n))))) ∧
      (x.rob = [] → ea % n ≠ 0 → Issues e c.1 s (raised s e 6 ea)) ∧
      (x.rob = [] → ea % n = 0 → (locate ea = .nowhere ∨ ∃ fa, locate ea = .fabric fa) → Issues e c.1 s (raised s e 7 ea)) ∧
      (∀ off, locate ea = .mirror off → 4 ≤ n → Allowed s e ea n needR → x.rob = [] → x.inbox = [] → x.devicePending = false →
        let m := s.m.setEng e { x.retire (x.arch.pc + 4) with
          robNext := x.robNext + 1,
          rob := [{ id := x.robNext, pc := x.arch.pc, d := d, pair := false, n := n, swap := 1, kind := 3, ea := ea,
                    bseq := 0xFFFFFFFFFFFFFFFF, sg := c.2.2, at_ := s.m.now, snap := x.arch }] }
        let r := busRead m e off n
        (r.wait = true → Issues e c.1 s (settle m)) ∧
        (r.wait = false → Issues e c.1 s (settle
          (r.m.updEng e (fun y => { y with inbox := y.inbox ++ [(x.robNext, if r.ok then 0 else 0x15, leBytes n r.value)] })))))

/-- A store puts the low bytes of d with their address into the engine's store buffer and retires; no memory changes yet. It waits while
all 8 entries are in use (an STP to one range of normal memory takes two); a misaligned address raises vector 0x06, an address outside the
ranges vector 0x07. Rests on Table 07-9, R213, R240, R243, of which it states the part said here. -/
def Obligations.StoreResults : Prop :=
  ∀ (s : State) (e : Fin 64) (d a : Fin 32) (i : BitVec 16), Ready s e [d, a] →
    let x := s.m.eng e
    let ea := (reg s e a + i.signExtend 64).toNat
    ∀ c ∈ [(Instr.sb e d a i, 1), (.sh e d a i, 2), (.sw e d a i, 4), (.sd e d a i, 8)],
      let put (kind : Nat) : Mach := retireEng s.m e (Engine.retire4 { x with
        sb := x.sb ++ [{ kind := kind, addr := ea, data := leBytes c.2 (reg s e d).toNat, after := x.robNext, level := x.level }] })
      (NormalAt ea → Allowed s e ea c.2 needW → slotsUsed x.sb < 8 → Issues e c.1 s (put 0)) ∧
      (∀ off, locate ea = .mirror off → 4 ≤ c.2 → Allowed s e ea c.2 needW → slotsUsed x.sb < 8 → Issues e c.1 s (put 1)) ∧
      (NormalAt ea → Allowed s e ea c.2 needW → 8 ≤ slotsUsed x.sb → Issues e c.1 s (stall s.m e)) ∧
      (x.rob = [] → ea % c.2 ≠ 0 → Issues e c.1 s (raised s e 6 ea)) ∧
      (x.rob = [] → ea % c.2 = 0 → (locate ea = .nowhere ∨ ∃ fa, locate ea = .fabric fa) → Issues e c.1 s (raised s e 7 ea))

/-- The oldest store of an engine's buffer leaves it once every read before it has retired. A normal store to scratch or cluster SRAM
writes exactly its bytes there; one to DRAM goes to the end of the cluster's port write queue, which holds 16. The oldest store of a port
write queue writes exactly its bytes to DRAM. No other byte of memory changes. (A clamped cluster's port closes behind its last store,
R218: not stated here.) Rests on R330, R333, Table 09-5, of which it states the part said here. -/
def Obligations.StoreDrainWritesItsBytesOnly : Prop :=
  ∀ (s : State) (e : Fin 64), s.m.b (EN_CL_CLAMP_clamp (e.val / 4)) = false →
    let x := s.m.eng e
    (∀ t rest, x.sb = t :: rest → t.kind = 0 → x.rob.any (fun r => decide (r.id < t.after)) = false →
      (∀ o, locate t.addr = .scratch o → ∃ m, Runs (.storeBufferDrain e false) s m ∧ (m.eng e).sb = rest ∧
        (∀ k, mapGet memReset m.scratch k =
          if h : scrKey e o ≤ k ∧ k < scrKey e o + t.data.length then t.data[k - scrKey e o]'(by omega) else mapGet memReset s.m.scratch k) ∧
        Only [.scratch, .engines] s.m m) ∧
      (∀ o, locate t.addr = .csram o → ∃ m, Runs (.storeBufferDrain e false) s m ∧ (m.eng e).sb = rest ∧
        (∀ k, mapGet memReset m.csram k =
          if h : clsKey (e.val / 4) o ≤ k ∧ k < clsKey (e.val / 4) o + t.data.length then t.data[k - clsKey (e.val / 4) o]'(by omega)
          else mapGet memReset s.m.csram k) ∧
        Only [.csram, .engines] s.m m) ∧
      (∀ o, locate t.addr = .dram o → (s.m.portq (e.val / 4)).length < 16 → ∃ m, Runs (.storeBufferDrain e false) s m ∧
        (m.eng e).sb = rest ∧ m.portq (e.val / 4) = s.m.portq (e.val / 4) ++ [⟨e, o, t.data⟩] ∧
        Only [.portQ, .engines] s.m m)) ∧
    (∀ w rest, s.m.portq (e.val / 4) = w :: rest → s.m.dramReach w.addr = true → ∃ m, Runs (.storeBufferDrain e true) s m ∧
      m.portq (e.val / 4) = rest ∧
      (∀ k, mapGet memReset m.dram k =
        if h : w.addr ≤ k ∧ k < w.addr + w.data.length then w.data[k - w.addr]'(by omega) else mapGet memReset s.m.dram k) ∧
      Only [.portQ, .engines, .dram, .dramBad] s.m m)

/-- LDP fills d and d + 1 with the 16 bytes at its address, low half first; STP stores d and d + 1, as one entry in one range of normal
memory and as two device stores in the register mirror; g0 stores 0. R245: an LDP of the register mirror issues two reads, the lower
first, and the second only when the first succeeds. An odd d is illegal (vector 0x03), an address that is no multiple of 8 misaligned
(vector 0x06). Rests on Table 07-9, R242, R244, of which it states the part said here. -/
def Obligations.PairResults : Prop :=
  ∀ (s : State) (e : Fin 64) (d a : Fin 32) (i : BitVec 16), Ready s e [d, d.val + 1, a] → (s.m.eng e).rob = [] →
    let x := s.m.eng e
    let ea := memAddr s e a i
    let half (k : Nat) : List Byte := leBytes 8 (reg s e k).toNat
    let ent (kind ad : Nat) (bs : List Byte) : StoreEntry := { kind := kind, addr := ad, data := bs, after := x.robNext, level := x.level }
    let put (l : List StoreEntry) : Mach := retireEng s.m e (Engine.retire4 { x with sb := x.sb ++ l })
    (d.val % 2 = 1 → Issues e (.ldp e d a i) s (raised s e 3 0) ∧ Issues e (.stp e d a i) s (raised s e 3 0)) ∧
    (d.val % 2 = 0 → ea % 8 ≠ 0 → Issues e (.ldp e d a i) s (raised s e 6 ea) ∧ Issues e (.stp e d a i) s (raised s e 6 ea)) ∧
    (d.val % 2 = 0 → NormalAt ea → NormalAt (ea + 8) → Allowed s e ea 8 needR → Allowed s e (ea + 8) 8 needR →
      dramFails s.m ea 8 = false → dramFails s.m (ea + 8) 8 = false →
      Issues e (.ldp e d a i) s (retireEng s.m e
        ((x.put d (BitVec.ofNat 64 (leNat (engBytes s.m e ea 8)))).retireD (d.val + 1)
          (BitVec.ofNat 64 (leNat (engBytes s.m e (ea + 8) 8)))))) ∧
    (d.val % 2 = 0 → NormalAt ea → NormalAt (ea + 8) → normalRange ea 16 = true → Allowed s e ea 8 needW →
      Allowed s e (ea + 8) 8 needW → slotsUsed x.sb < 7 →
      Issues e (.stp e d a i) s (put [ent 0 ea (half d ++ half (d.val + 1))])) ∧
    (∀ o o', d.val % 2 = 0 → locate ea = .mirror o → locate (ea + 8) = .mirror o' → Allowed s e ea 8 needW →
      Allowed s e (ea + 8) 8 needW → slotsUsed x.sb < 7 →
      Issues e (.stp e d a i) s (put [ent 1 ea (half d), ent 1 (ea + 8) (half (d.val + 1))])) ∧
    (∀ o o', d.val % 2 = 0 → locate ea = .mirror o → locate (ea + 8) = .mirror o' → Allowed s e ea 8 needR →
      Allowed s e (ea + 8) 8 needR → x.inbox = [] → x.devicePending = false →
      let m := s.m.setEng e { x.retire (x.arch.pc + 4) with
        robNext := x.robNext + 1,
        rob := [{ id := x.robNext, pc := x.arch.pc, d := d, pair := true, n := 16, swap := 1, kind := 3, ea := ea,
                  bseq := 0xFFFFFFFFFFFFFFFF, at_ := s.m.now, snap := x.arch }] }
      let p := busRead m e o 8
      let q := busRead p.m e (o + 8) 8
      p.wait = false → (busRead m e (o + 8) 8).wait = false →
      (p.ok = false → Issues e (.ldp e d a i) s (settle (p.m.updEng e (fun y => { y with inbox := y.inbox ++ [(x.robNext, 0x15, [])] })))) ∧
      (p.ok = true → Issues e (.ldp e d a i) s (settle (q.m.updEng e (fun y =>
        { y with inbox := y.inbox ++ [(x.robNext, if q.ok then 0 else 0x15, leBytes 8 p.value ++ leBytes 8 q.value)] })))))

/-- An atomic reads its location, stores the new value and writes the old one to d, at 64 bits or at 32 with the old value sign-extended;
CAS stores only when the old value equals d. LR reads and reserves the 64-byte granule of its address; SC stores b and writes 0 when the
reservation still holds that granule, else it writes 1; either way the reservation is gone. For scratch and cluster SRAM and for DRAM that
answers. Rests on Table 07-10, R250 to R253, of which it states the part said here. -/
def Obligations.AtomicResults : Prop :=
  ∀ (s : State) (e : Fin 64) (d b a : Fin 32) (w : Bool),
    let n := if w then 4 else 8
    let ea := (reg s e a).toNat
    let m := portPassed s e ea
    let v := leNat (engBytes m e ea n)
    let old : U64 := if w then low32 (BitVec.ofNat 64 v) else BitVec.ofNat 64 v
    let rb : U64 := if w then low32 (reg s e b) else reg s e b
    let rd : U64 := if w then low32 (reg s e d) else reg s e d
    let k := resvKey e ea
    let store (x : U64) : Mach := performNormal m e ea (leBytes n x.toNat)
    let ends (i : Instr) (t : Mach) : Prop := Issues e i s (settle (retireEng t e ((t.eng e).retireD d old)))
    NormalAt ea → NoStoreOver s e ea n → dramFails m ea n = false →
    (ReadyAlone s e [d, b, a] → Allowed s e ea n needAmo →
      ends (.amoswap e d b a w) (store rb) ∧ ends (.amoadd e d b a w) (store (old + rb)) ∧
      ends (.amoand e d b a w) (store (old &&& rb)) ∧ ends (.amoor e d b a w) (store (old ||| rb)) ∧
      ends (.amoxor e d b a w) (store (old ^^^ rb)) ∧
      ends (.amomin e d b a w) (store (if old.toInt ≤ rb.toInt then old else rb)) ∧
      ends (.amomax e d b a w) (store (if old.toInt ≤ rb.toInt then rb else old)) ∧
      ends (.amominu e d b a w) (store (if old.toNat ≤ rb.toNat then old else rb)) ∧
      ends (.amomaxu e d b a w) (store (if old.toNat ≤ rb.toNat then rb else old)) ∧
      ends (.cas e d b a w) (if old = rd then store rb else m) ∧
      (let hit := (m.eng e).resv = some (k.2 / 64) ∧ (m.eng e).resvAt = k.1
       (hit → Issues e (.sc e d b a w) s (let t := store (reg s e b)
          settle (retireEng t e { (t.eng e).retireD d 0 with resv := none }))) ∧
       (¬ hit → Issues e (.sc e d b a w) s (settle (retireEng m e { (m.eng e).retireD d 1 with resv := none }))))) ∧
    (ReadyAlone s e [d, a] → Allowed s e ea n needLr →
      Issues e (.lr e d a w) s (settle (retireEng m e { (m.eng e).retireD d old with resv := some (k.2 / 64), resvAt := k.1 })))

/-- A write of an engine at its serialising point changes exactly its bytes of the memory it lies in, takes away every other engine's
reservation on a granule it touches, and leaves the other memories and every register as they were. Rests on R330, R334, R253, of which it
states the part said here. -/
def Obligations.PerformedWritesChangeTheirBytesOnly : Prop :=
  ∀ (s : Mach) (e a : Nat) (bs : List Byte),
    let m := performNormal s e a bs
    let wrote (d : Nat → Byte) (at_ : Nat) (k : Nat) : Byte := if h : at_ ≤ k ∧ k < at_ + bs.length then bs[k - at_]'(by omega) else d k
    (∀ o, locate a = .scratch o → ∀ k, mapGet memReset m.scratch k = wrote (mapGet memReset s.scratch) (scrKey e o) k) ∧
    (∀ o, locate a = .csram o → ∀ k, mapGet memReset m.csram k = wrote (mapGet memReset s.csram) (clsKey (e / 4) o) k) ∧
    (∀ o, locate a = .dram o → s.dramReach o = true → ∀ k, mapGet memReset m.dram k = wrote (mapGet memReset s.dram) o k) ∧
    ((∀ o, locate a ≠ .scratch o) → m.scratch = s.scratch) ∧ ((∀ o, locate a ≠ .csram o) → m.csram = s.csram) ∧
    ((∀ o, locate a = .dram o → s.dramReach o = false) → m.dram = s.dram) ∧ m.isram = s.isram ∧ m.regs = s.regs ∧
    (∀ j, m.eng j = { s.eng j with resv := (m.eng j).resv }) ∧
    (∀ j, (m.eng j).resv = (s.eng j).resv ∨ (j ≠ e ∧ (m.eng j).resv = none)) ∧
    (MemWf s → MemWf m)

/-- A precise exception in an engine whose earlier reads have retired saves level and ie and the pc, sets level 1, ie 0 and in_exc 1,
writes ECAUSE, and EADDR for vectors 0x02 and 0x05 to 0x08, loses the reservation and goes to VBASE + 0x20 times the vector. Nothing else
of the engine, no other engine and no memory changes. ERET restores level and ie, clears in_exc and goes on at EPC. Rests on R209, R210,
of which it states the part said here. -/
def Obligations.ExceptionEntryAndReturn : Prop :=
  ∀ (s : State) (e : Fin 64) (v ea : Nat),
    let x := s.m.eng e
    (s.m.work = [] → x.rob = [] → x.inExc = 0 →
      let m := raised s e v ea
      m.eng e = { x with
        prevLevel := x.level, prevIe := x.ie, level := 1, ie := 0, inExc := 1, ecause := v + 64 * x.bindNo, epc := x.arch.pc,
        eaddr := (if v = 2 ∨ (5 ≤ v ∧ v ≤ 8) then ea % 2 ^ 48 else x.eaddr), resv := none, wait := .none,
        state := (if x.state = 4 then 3 else x.state), arch := { x.arch with pc := (x.vbase + v * 0x20) % 0x10000 } } ∧
      (∀ k, k ≠ e.val → m.eng k = s.m.eng k) ∧ Only [.regs, .engines] s.m m ∧
      OnlyRegs [EN_CNT e 5, EN_EXC e, EN_EXC_ADDR e] s.m m) ∧
    (ReadyAlone s e [] → x.level = 1 →
      Issues e (.eret e) s (settle (retireEng s.m e
        { x.retire (x.epc - x.epc % 4) with level := x.prevLevel, ie := x.prevIe, inExc := 0 })))

/-- An exception taken while in_exc is 1 makes the engine faulted: no register of it but its state changes, the error log and EN_EVENT
report it. Rests on R211, of which it states the part said here. -/
def Obligations.ExceptionInAnExceptionFaultsTheEngine : Prop :=
  ∀ (s : Mach) (e v ea : Nat), (s.eng e).rob = [] → (s.eng e).inExc = 1 →
    let x := s.eng e
    let m := preciseException s e v ea
    let y := m.eng e
    y.state = 6 ∧ y.wait = .none ∧ y.resv = none ∧ y.arch = x.arch ∧ y.level = x.level ∧ y.epc = x.epc ∧ y.ecause = x.ecause ∧
    y.prevLevel = x.prevLevel ∧ y.ie = x.ie ∧ m.f EN_EVENT_double_fault = 1 ∧
    (∀ k, k ≠ e → m.eng k = s.eng k) ∧ Only [.regs, .engines, .work] s m

/-- BRK raises vector 0x0B, TRAP 0x0A, a word that is no instruction 0x03 and a fetch outside the instruction SRAM 0x02; the privileged
ERET and HALT raise 0x04 at task level. YIELD ends the activation: the engine is idle, in_exc is 0 and the reservation is lost. HALT
retires once the store buffer is empty and leaves the engine halted with nothing pending; until then it waits. Rests on R265, R226, R256,
R194, of which it states the part said here. -/
def Obligations.SystemInstructionResults : Prop :=
  ∀ (s : State) (e : Fin 64) (i : BitVec 16),
    let x := s.m.eng e
    (Ready s e [] → Issues e (.brk e) s (raised s e 0x0B 0) ∧ Issues e (.trap e i) s (raised s e 0x0A 0) ∧
      (decodeWord e (fetchWord s.m e) = none → Runs (.illegalInstruction e) s (raised s e 3 0))) ∧
    ((x.state = 1 ∨ x.state = 3) → x.wait = .none → x.stopReq = false → 0x10000 ≤ x.arch.pc →
      Runs (.instructionFetchFault e) s (raised s e 2 x.arch.pc)) ∧
    (ReadyAlone s e [] → x.level = 0 → Issues e (.eret e) s (raised s e 4 0) ∧ Issues e (.halt e) s (raised s e 4 0)) ∧
    (ReadyAlone s e [] → x.level = 1 → x.sb ≠ [] → Issues e (.halt e) s s.m) ∧
    (ReadyAlone s e [] → x.level = 1 → x.sb = [] → fetches s.m e (.halt e) = true →
      ∃ m, Runs (.halt e) s m ∧ (m.eng e).state = 5 ∧ (m.eng e).binds = [] ∧ (m.eng e).active = none ∧
        (m.eng e).arch = (x.retire (x.arch.pc + 4)).arch ∧ (∀ k, k ≠ e.val → m.eng k = s.m.eng k) ∧
        Only [.regs, .engines] s.m m) ∧
    (ReadyAlone s e [] → s.m.mig = none → fetches s.m e (.yield e) = true →
      ∃ m, Runs (.yield e) s m ∧ (m.eng e).restAt = s.m.cycles ∧ (m.eng e).state = 2 ∧ (m.eng e).inExc = 0 ∧ (m.eng e).resv = none ∧ (m.eng e).active = none ∧
        (m.eng e).arch = (x.retire (x.arch.pc + 4)).arch ∧ (m.eng e).level = x.level ∧ (m.eng e).evq = x.evq ∧
        (∀ k, k ≠ e.val → m.eng k = s.m.eng k) ∧ Only [.regs, .engines] s.m m)

/-- SRD writes the state register it names to d, SWR writes one, with the bits the register has; a number above 0x10 is illegal, and one
hidden at task level, or any write there but of FCSR, privileged. Rests on Table 06-2, R192, R194, R263, of which it states the part said
here. -/
def Obligations.StateRegisterInstructions : Prop :=
  ∀ (s : State) (e : Fin 64) (d r a : Fin 32),
    let x := s.m.eng e
    let v := (reg s e a).toNat
    let swr (y : Engine) : Prop := Issues e (.swr e r a) s (settle (retireEng s.m e (y.retire (x.arch.pc + 4))))
    (Ready s e [d] → x.rob = [] →
      (0x10 < r.val → Issues e (.srd e d r) s (raised s e 3 0)) ∧
      (r.val ≤ 5 → x.level = 0 → Issues e (.srd e d r) s (raised s e 4 0)) ∧
      (r.val ≤ 0x10 → (x.level = 1 ∨ 6 ≤ r.val) → Issues e (.srd e d r) s (wrote s e d (BitVec.ofNat 64 (stateReg s.m e r))))) ∧
    (ReadyAlone s e [a] →
      (0x10 < r.val → Issues e (.swr e r a) s (raised s e 3 0)) ∧
      (r.val ≤ 0x10 → r.val ≠ 7 → x.level = 0 → Issues e (.swr e r a) s (raised s e 4 0)) ∧
      (r.val = 7 → swr { x with arch := { x.arch with fcsr := v % 256 } }) ∧
      (x.level = 1 →
        (r.val = 0 → swr { x with level := v % 2, ie := v / 2 % 2, inExc := v / 4 % 2, prevLevel := v / 8 % 2, prevIe := v / 16 % 2 }) ∧
        (r.val = 1 → swr { x with epc := v }) ∧ (r.val = 2 → swr { x with ecause := v % 1024 }) ∧
        (r.val = 4 → swr { x with escratch := v }) ∧ (r.val = 5 → swr { x with vbase := v % 65536 / 1024 * 1024 }) ∧
        (r.val = 6 → swr { x with caps := v % 32 }) ∧ (r.val = 0x10 → swr { x with budget := v, budgetAt := s.m.cycles }) ∧
        (r.val ∈ [3, 8, 9, 10, 11, 12, 13, 14, 15] → swr x)))

/-- A barrier whose covered stores and reads are resolved retires at once with the status of the failures it counts: failed device stores
for BAR.D and BAR.A, failed fabric stores as well for BAR.S; the counted failures are forgotten. One that is not done waits, and
BARRIER_RESOLVED ends the wait once it is. Rests on R257 to R259, Table 07-12, Table 07-13, of which it states the part said here. -/
def Obligations.BarrierResults : Prop :=
  ∀ (s : State) (e : Fin 64) (d : Fin 32),
    let x := s.m.eng e
    let done (m : Mach) (y : Engine) (k : Nat) : Mach :=
      let counted := y.fails.filter (fun f => !f.fabric || decide (k = 3))
      let n := counted.length
      let st := (if n < 255 then n else 255) * 256 + (if counted.any (fun f => f.absorbed) then 2 else 0) + (if n = 0 then 0 else 1)
      settle (retireEng m e
        (({ y with wait := .none, fails := y.fails.filter (fun f => f.fabric && decide (k ≠ 3)) } : Engine).retireD d (BitVec.ofNat 64 st)))
    (∀ c ∈ [(Instr.barD e d, 1), (.barA e d, 2), (.barS e d, 3)], Ready s e [d] →
      let w := s.m.setEng e { x with wait := .barrier c.2 d }
      ((x.rob = [] ∧ barrierDone w e c.2 = true) → Issues e c.1 s (done w x c.2)) ∧
      (¬ (x.rob = [] ∧ barrierDone w e c.2 = true) → Issues e c.1 s (settle w))) ∧
    (∀ k, k = 1 ∨ k = 2 ∨ k = 3 → x.wait = .barrier k d → x.rob = [] → barrierDone s.m e k = true →
      Runs (.barrierResolved e) s (done s.m x k))

/-- A fabric access whose width is legal, whose address, class, timing and protection rules hold goes ahead. FLD takes a reorder-buffer
entry for d and sends a read; FSTN takes one and sends a write whose completion code it will write to d; FST joins the store buffer, with
the present beat. With sw the bytes of the access are reversed in units of 2^sw bytes, a timed access carries the launch register. A width
code above 4, or 16 bytes with an odd d, is illegal. Rests on R277, R283, R286, R288, R289, R295, R343, of which it states the part said
here. -/
def Obligations.FabricAccessResults : Prop :=
  ∀ (s : State) (e : Fin 64) (d a : Fin 32) (cls : Fin 4) (sz : Fin 8) (sw : Fin 4) (tm : Bool) (off : BitVec 8),
    let x := s.m.eng e
    let n : Nat := 2 ^ sz.val
    let ea := (reg s e a + BitVec.ofInt 64 (off.toInt * (n : Int))).toNat
    let u := if 2 ^ sw.val < n then 2 ^ sw.val else n
    let fa := ea - 0x800000000000
    let rs := if n = 16 then [d.val, d.val + 1, a.val] else [d.val, a.val]
    let go (need : Need) : Prop := fabMpu s.m e ea n (x.level == 1) need = (s.m, none) ∧
      mpuFirst s.m e (x.level == 1) need ea n = none
    let legal := sz.val ≤ 4 ∧ (sz.val = 4 → d.val % 2 = 0)
    let bs := fabPayload x d n u
    let launch := if tm then some x.arch.launch else none
    let y := x.retire (x.arch.pc + 4)
    Ready s e rs →
    (¬ legal → x.readFree = true → Issues e (.fld e d a cls sz sw tm off) s (raised s e 3 0) ∧
      (x.mayFault = false → Issues e (.fstn e d a cls sz sw tm off) s (raised s e 3 0))) ∧
    (¬ legal → Issues e (.fst e d a cls sz sw tm off) s (raised s e 3 0)) ∧
    (legal → x.readFree = true → fabFault s.m x ea n cls false true tm = none → go needR →
      Issues e (.fld e d a cls sz sw tm off) s
        (settle (accept (s.m.setEng e { y with
            robNext := x.robNext + 1,
            rob := x.rob ++ [{ id := x.robNext, pc := x.arch.pc, d := d, pair := n == 16, n := n, swap := u, kind := 0, ea := ea,
                               bseq := s.m.n BR_SEQ, at_ := s.m.now, snap := x.arch }] })
          { bseq := 0, init := e, kind := .fld x.robNext, write := false, posted := false, ack := false, cls := cls, faddr := fa,
            iaddr := ea, tAcc := 0, launch := launch, stamp := some (s.m.hTime % 2 ^ 32), pieces := cutRun fa n [] }))) ∧
    (legal → x.readFree = true → x.mayFault = false → fabFault s.m x ea n cls true true tm = none → go needW →
      Issues e (.fstn e d a cls sz sw tm off) s
        (settle (accept (s.m.setEng e { y with
            robNext := x.robNext + 1,
            rob := x.rob ++ [{ id := x.robNext, pc := x.arch.pc, d := d, pair := false, n := n, swap := 1, kind := 1, ea := ea,
                               bseq := s.m.n BR_SEQ, at_ := s.m.now, snap := x.arch }] })
          { bseq := 0, init := e, kind := .fstn x.robNext, write := true, posted := false, ack := true, cls := cls, faddr := fa,
            iaddr := ea, tAcc := 0, launch := launch, stamp := some (s.m.hTime % 2 ^ 32), pieces := cutRun fa bs.length bs }))) ∧
    (legal → fabFault s.m x ea n cls true false tm = none → go needW → slotsUsed x.sb < 8 →
      Issues e (.fst e d a cls sz sw tm off) s (retireEng s.m e (Engine.retire4 { x with
        sb := x.sb ++ [{ kind := 2, addr := ea, data := bs, cls := cls, launch := launch, after := x.robNext, level := x.level,
                         beat := s.m.n BT_BEAT_NUM }] })))

/-- A response goes to its reorder-buffer entry, and entries retire from the oldest on. The oldest outstanding read, of the fabric or of
the register mirror, whose response has code 0 writes its data, extended as a load's, and an FSTN writes its completion code, to d when
nothing is due; a read that failed raises the fabric read error with the engine's registers as they were when it issued. Rests on R342,
R343, R245, R246, R287, R289, of which it states the part said here. -/
def Obligations.FabricReadsRetireInOrder : Prop :=
  ∀ (s : State) (e : Fin 64) (r : RobEntry) (c : Nat) (bs : List Byte) (rest : List (Nat × Nat × List Byte)),
    let x := s.m.eng e
    let one (a : EngArch) : Engine := { x with inbox := rest, rob := [], arch := a }
    x.rob = [r] → x.inbox = (r.id, c, bs) :: rest → NoneDue x → r.half = none → x.stallAt = none →
    ((r.kind = 0 ∨ r.kind = 3) → r.pair = false → c = 0 → ∃ m, Runs (.fabricReadResponse e) s (settle m) ∧
      m.eng e = one (x.arch.put r.d (loadExt r.n r.sg (leNat (swapBytes r.swap bs)))) ∧
      (∀ k, k ≠ e.val → m.eng k = s.m.eng k) ∧ Only [.engines] s.m m) ∧
    (r.kind = 1 → ∃ m, Runs (.fabricReadResponse e) s (settle m) ∧ m.eng e = one (x.arch.put r.d (BitVec.ofNat 64 c)) ∧
      (∀ k, k ≠ e.val → m.eng k = s.m.eng k) ∧ Only [.engines] s.m m) ∧
    ((r.kind = 0 ∨ r.kind = 3) → c ≠ 0 → x.inExc = 0 → ∃ m, Runs (.fabricReadResponse e) s (settle m) ∧
      (m.eng e).ecause = 8 + 64 * x.bindNo ∧ (m.eng e).epc = r.snap.pc ∧ (m.eng e).eaddr = r.ea % 2 ^ 48 ∧
      (m.eng e).arch.g = r.snap.g ∧ (m.eng e).rob = [] ∧ (m.eng e).level = 1 ∧ (m.eng e).arch.pc = (x.vbase + 0x100) % 0x10000)

/-- GATH and SCAT read off8 + 1 descriptors of 32 bytes at a. When every descriptor passes its checks the list takes a reorder-buffer
entry and its frames are sent in list order; a timed GATH is illegal, a timed SCAT into the future without its capability raises vector
0x05, a list that is not aligned to 32 bytes is misaligned, and a class below 2 is an access fault when no exception of higher priority is
due (R208). Rests on R300 to R302, R305, of which it states the part said here. -/
def Obligations.DescriptorListResults : Prop :=
  ∀ (s : State) (e : Fin 64) (d a : Fin 32) (cls sw : Fin 4) (tm g : Bool) (n : BitVec 8),
    let x := s.m.eng e
    let base := (reg s e a).toNat
    let at_ := (keysFrom 0 (n.toNat + 1)).map (fun i => base + 32 * i)
    let ds := at_.map (fun p => gsDesc s.m e p)
    let fine := at_.all (fun p => localOk s.m e p 32 (x.level == 1) needR) = true ∧
      ds.all (fun q => (gsCheck s.m e x g cls (2 ^ sw.val) tm q).isNone) = true
    let early := tm = true ∧ launchState s.m x.arch.launch = some true ∧ x.lacks 2 = true
    let i : Instr := if g then .gath e d a cls sw tm n else .scat e d a cls sw tm n
    Ready s e [d, a] → x.readFree = true → x.gs = none → (g = false → x.mayFault = false) →
    (g = true → tm = true → Issues e i s (raised s e 3 0)) ∧
    (x.rob = [] → (g = false ∨ tm = false) → early → Issues e i s (raised s e 5 base)) ∧
    (x.rob = [] → (g = false ∨ tm = false) → ¬ early → base % 32 ≠ 0 → Issues e i s (raised s e 6 base)) ∧
    (x.rob = [] → (g = false ∨ tm = false) → ¬ early → base % 32 = 0 → cls.val < 2 → localOk s.m e base 32 (x.level == 1) needR = true →
      ds.all (fun q => decide (gsCheck s.m e x g cls (2 ^ sw.val) tm q ≠ some 5 ∧ gsCheck s.m e x g cls (2 ^ sw.val) tm q ≠ some 6)) = true →
      Issues e i s (raised s e 7 base)) ∧
    ((g = false ∨ tm = false) → ¬ early → base % 32 = 0 → 2 ≤ cls.val → fine →
      Issues e i s (settle (gsPump (s.m.setEng e { x.retire (x.arch.pc + 4) with
        robNext := x.robNext + 1,
        rob := x.rob ++ [{ id := x.robNext, pc := x.arch.pc, d := d, pair := false, n := 8, swap := 1, kind := 2, ea := base,
                           bseq := 0xFFFFFFFFFFFFFFFF, at_ := s.m.now, snap := x.arch }],
        gs := some { id := x.robNext, gather := g, cls := cls, swap := 2 ^ sw.val, launch := (if tm then some x.arch.launch else none),
                     level := x.level, descs := ds } }))))

/-- IMGCP copies len bytes between local memory and the station's bytes of the input image of the present beat or of the output image of
the next, as its 16-byte descriptor says, and writes the beat and the status bits to d, when the descriptor, both ranges and the images'
rules allow it. Rests on R307 to R310, R538, of which it states the part said here. -/
def Obligations.ImageCopyResults : Prop :=
  ∀ (s : State) (e : Fin 64) (d a : Fin 32) (o t : Bool),
    let x := s.m.eng e
    let ad := (reg s e a).toNat
    let g (k n : Nat) : Nat := leNat (engBytes s.m e (ad + k) n)
    let loc := g 0 8
    let k := g 8 2 % 2 ^ 14
    let off := g 12 2
    let len := g 14 2
    let b := if o then s.m.beatNum + 1 else s.m.beatNum
    let bank := if o then outBank b else inBank b
    let img := (if o then stOut s.m k b else stIn s.m k b) + off
    let fl := recFlags s.m bank
    let m := if t then imgWriteBy s.m e img (engBytes s.m e loc len) else writeLocal s.m e loc (imgBytes s.m img len)
    ReadyAlone s e [d, a] → ad % 16 = 0 → localOk s.m e ad 16 (x.level == 1) needR = true →
    imgFault s.m e ad loc k off len img t (x.level == 1) o = none →
    (o = false → bitAt fl 0 = true → bitAt fl 1 = true) → (o = true → s.m.img.outCopy ≠ some (b % 2 ^ 32)) →
    x.sb.any (fun q => q.kind == 0) = false → imgReach s.m img = true → imgPoison s.m img len = false → dramFails s.m loc len = false →
    Issues e (.imgcp e d a o t) s (settle (retireEng m e ((m.eng e).retireD d (BitVec.ofNat 64
      (b % 2 ^ 32 + b2n (!o && !bitAt fl 0) * 2 ^ 32 + b2n (!o && recBit s.m bank k) * 2 ^ 33 + b2n (o && t && bitAt fl 0) * 2 ^ 34
        + b2n (decide (recBeat s.m bank ≠ b % 2 ^ 32) && !o) * 2 ^ 35)))))

/-- A target is the strike of the present beat plus k beat periods, the offset of the phase and 10 ns steps, or the value of a register.
LTSET and LTABS put its low 32 bits into the launch register; WAITPH and WAITT go on at once when it has passed and otherwise wait until
the H-die time reaches it. A phase above 5 is illegal; a phase with no beat running, and a target more than 2 s away, are access faults.
Rests on R292 to R297, of which it states the part said here. -/
def Obligations.LaunchAndWaitResults : Prop :=
  ∀ (s : State) (e : Fin 64) (r : Fin 32) (ph : Fin 8) (t : BitVec 18),
    let x := s.m.eng e
    let k := (reg s e r).toInt
    let at_ : Int := s.m.beat.strike + k * period s.m + phaseOff s.m ph + t.toNat * 10
    let abs : Int := (reg s e r).toNat
    let near (v : Int) : Prop := v - s.m.hTime ≤ 2000000000 ∧ -2000000000 ≤ v - s.m.hTime
    let set (v : Int) : Mach := retireEng s.m e (Engine.retire4 { x with arch := { x.arch with launch := (v % 2 ^ 32).toNat } })
    let wait (v : Int) : Mach := if v ≤ s.m.hTime then retireEng s.m e x.retire4
      else settle (asyncCheck (s.m.setEng e { x with
        state := 4, wait := .time v.toNat, actAt := (if x.state = 1 then s.m.cycles else x.actAt),
        budgetAt := (if x.state = 1 then s.m.cycles else x.budgetAt) }) e)
    (Ready s e [r] →
      (6 ≤ ph.val → Issues e (.ltset e r ph t) s (raised s e 3 0)) ∧
      (ph.val < 6 → s.m.b BT_STATUS_beat_run = false → Issues e (.ltset e r ph t) s (raised s e 7 0)) ∧
      (ph.val < 6 → s.m.b BT_STATUS_beat_run = true →
        (near at_ → Issues e (.ltset e r ph t) s (set at_)) ∧
        (¬ near at_ → Issues e (.ltset e r ph t) s (raised s e 7 (at_ % 2 ^ 48).toNat))) ∧
      (near abs → Issues e (.ltabs e r) s (set abs)) ∧ (¬ near abs → Issues e (.ltabs e r) s (raised s e 7 (abs % 2 ^ 48).toNat))) ∧
    (ReadyAlone s e [r] →
      (ph.val < 6 → s.m.b BT_STATUS_beat_run = true → near at_ → Issues e (.waitph e r ph t) s (wait at_)) ∧
      (near abs → Issues e (.waitt e r) s (wait abs))) ∧
    (∀ v, x.wait = .time v → ∃ m, Runs (.waitTimeReached e) s m ∧ (NoneDue x →
      (m.eng e) = { x.retire4 with wait := .none, state := 3 } ∧ m.now = max s.m.now ((v : Int) - s.m.hSkew).toNat))

/-- JAPP offers the journal an entry of kind 0x11 with the engine, the low 16 bits of d and 12 bytes at a, and writes its sequence number
to d, or all-ones when the journal takes none. A DELTA of one element journals it (without count-only) when it has changed, copies it to
the old array, and writes 1 to d, with bit 32 in the no-journal mode; an unchanged element writes 0 and is not copied. Rests on R311 to
R314, R316, R549, of which it states the part said here. -/
def Obligations.JournalInstructionResults : Prop :=
  ∀ (s : State) (e : Fin 64) (d a : Fin 32) (sz : Fin 8) (be : Bool) (mode : Fin 4),
    let x := s.m.eng e
    let ad := (reg s e a).toNat
    let g (k n : Nat) : Nat := leNat (engBytes s.m e (ad + k) n)
    let n := 2 ^ sz.val
    let new := g 0 8
    let old := g 8 8
    let nb := engBytes s.m e new n
    let ob := engBytes s.m e old n
    let changed := deltaChanged mode (8 * n) (elemNat be nb) (elemNat be ob) (g 24 4)
    (ReadyAlone s e [d, a] → x.lacks 4 = false → ad % 4 = 0 → localOk s.m e ad 12 (x.level == 1) needR = true →
      journalBusy s.m = false → s.m.work = [] →
      let m := settle (s.m.jpush s.m.hTime 0x11 (leBytes 1 e ++ leBytes 2 (reg s e d).toNat ++ engBytes s.m e ad 12))
      Issues e (.japp e d a) s (settle (retireEng m e ((m.eng e).retireD d
        (if m.n JN_NEXT = s.m.n JN_NEXT + 1 then BitVec.ofNat 64 (s.m.n JN_NEXT) else BitVec.allOnes 64))))) ∧
    (ReadyAlone s e [d, a] → sz.val ≤ 2 → (mode.val = 3 → sz.val = 2) → ad % 32 = 0 → localOk s.m e ad 32 (x.level == 1) needR = true →
      g 16 2 = 0 → new % n = 0 → old % n = 0 → localOk s.m e new n (x.level == 1) needR = true →
      localOk s.m e old n (x.level == 1) ⟨true, true, false⟩ = true → x.sb.any (fun t => t.kind == 0) = false →
      dramFails s.m new n = false → dramFails s.m old n = false →
      (changed = false → x.lacks 4 = false →
        Issues e (.delta e d a sz be false mode) s (settle (retireEng s.m e (x.retireD d (BitVec.ofNat 64 (b2n s.m.noJournal * 2 ^ 32)))))) ∧
      (changed = false → Issues e (.delta e d a sz be true mode) s (settle (retireEng s.m e (x.retireD d 0)))) ∧
      (changed = true →
        let m := writeLocal s.m e old nb
        Issues e (.delta e d a sz be true mode) s (settle (retireEng m e ((m.eng e).retireD d 1)))) ∧
      (changed = true → x.lacks 4 = false → journalBusy s.m = false →
        let time := if bitAt (g 28 4) 0 then s.m.beat.strike else s.m.hTime
        let info := sz.val + mode * 4 + b2n be * 16
        let rest := leBytes 1 info ++ leBytes 2 (g 18 2 % 2 ^ 14) ++ leBytes 2 (g 20 2) ++ leBytes 2 (g 22 2 % 2 ^ 16)
          ++ leBytes 4 (elemNat be ob) ++ leBytes 4 (elemNat be nb)
        let m := writeLocal (doJournal s.m time 0x10 rest) e old nb
        Issues e (.delta e d a sz be false mode) s
          (settle (retireEng m e ((m.eng e).retireD d (BitVec.ofNat 64 (1 + b2n s.m.noJournal * 2 ^ 32)))))))

/-- SCALE with entry k of the scale table in the engine's scratch: forward, the value times the gain plus the offset with one rounding;
reverse, the value minus the offset, divided by the gain, rounded to an integer and saturated; an undefined width code is illegal. CRC
runs the chosen polynomial over n bytes at a from the state in d. Rests on R317 to R319, of which it states the part said here. -/
def Obligations.ScaleAndChecksumResults : Prop :=
  ∀ (s : State) (e : Fin 64) (d a : Fin 32) (k : BitVec 8) (sz : Fin 8) (sg s32 : Bool) (n : BitVec 8) (mode : Fin 8),
    let x := s.m.eng e
    let rm := roundMode x.arch.fcsr
    let v := reg s e a
    let w := 8 * 2 ^ sz.val
    let gain := leNat (engBytes s.m e (0x1F000 + 16 * k.toNat) 8)
    let off := leNat (engBytes s.m e (0x1F000 + 16 * k.toNat + 8) 8)
    (Ready s e [d, a] → 4 ≤ sz.val → ∀ rev, Issues e (.scale e d a k sz rev sg s32) s (raised s e 3 0)) ∧
    (Ready s e [d, a] → sz.val < 4 →
      (let r := fpFromInt fmt64 rm (if sg then signed w v.toNat else (v.toNat % 2 ^ w : Nat))
       let p := fpFma fmt64 rm r.1 gain off
       let q := fpConv fmt64 fmt32 rm p.1
       Issues e (.scale e d a k sz false sg s32) s
         (wroteFlags s e d (if s32 then (q.1, orFlags (orFlags r.2 p.2) q.2) else (p.1, orFlags r.2 p.2)))) ∧
      (let c := if s32 then fpConv fmt32 fmt64 rm (v.toNat % 2 ^ 32) else (v.toNat, 0)
       let p := fpSub fmt64 rm c.1 off
       let q := fpDiv fmt64 rm p.1 gain
       let i := fpConvInt rm (fpDecode fmt64 q.1) w sg
       Issues e (.scale e d a k sz true sg s32) s
         (wroteFlags s e d (if sg then (sext64 w (twos w i.1)).toNat else twos w i.1, orFlags (orFlags c.2 p.2) (orFlags q.2 i.2))))) ∧
    (ReadyAlone s e [d, a] → 3 ≤ mode.val → Issues e (.crc e d a n mode) s (raised s e 3 0)) ∧
    (ReadyAlone s e [d, a] → localOk s.m e v.toNat (n.toNat + 1) (x.level == 1) needR = true → dramFails s.m v.toNat (n.toNat + 1) = false →
      let bs := engBytes s.m e v.toNat (n.toNat + 1)
      (mode.val = 0 → Issues e (.crc e d a n mode) s (wrote s e d ((bs.foldl (crcReflected 0xEDB88320#32) ((reg s e d).setWidth 32)).setWidth 64))) ∧
      (mode.val = 1 → Issues e (.crc e d a n mode) s (wrote s e d ((bs.foldl (crcReflected 0x82F63B78#32) ((reg s e d).setWidth 32)).setWidth 64))) ∧
      (mode.val = 2 → Issues e (.crc e d a n mode) s (wrote s e d ((bs.foldl crc16 ((reg s e d).setWidth 16)).setWidth 64))))

/-- EVPOST to the engine's own queue puts the event there when there is room; with target 0b10 it posts to the event table, where its
access is allowed there (log 82); to another engine it delivers to that engine's queue, and waits while that is full; target 0b11 is
illegal, and every target but its own needs the capability at task level. EVWAIT takes the first queued event that matches and writes its
word to d, or waits, with its timeout; EVWAIT_TIMEOUT ends the wait with the timeout word. Rests on R320 to R323, of which it states the
part said here. -/
def Obligations.EventInstructionResults : Prop :=
  ∀ (s : State) (e : Fin 64) (d a : Fin 32) (u : Bool) (t : BitVec 8),
    let x := s.m.eng e
    let w := reg s e d
    let v := reg s e a
    let r : EvRec := { id := w.toNat / 2 ^ 48 % 2 ^ 16, cond := w.toNat / 2 ^ 32 % 2 ^ 16, source := 0x4000 + e, time := s.m.hTime, urgent := u }
    let tgt := v.toNat % 64
    let hit (p : Nat × Nat) : Bool := evMatch (p.1 / 2 ^ 48 % 65536) (v.toNat / 65536 % 65536) (v.toNat % 65536)
    (ReadyAlone s e [d, a] → x.devicePending = false →
      Issues e (.evpost e d a 3 u) s (raised s e 3 0) ∧
      (x.lacks 3 = true → Issues e (.evpost e d a 1 u) s (raised s e 5 v.toNat) ∧ Issues e (.evpost e d a 2 u) s (raised s e 5 v.toNat)) ∧
      (x.evq.length < 64 → Issues e (.evpost e d a 0 u) s
        (retireEng s.m e { x.retire4 with evq := x.evq ++ [(eventWord r, s.m.hTime)] })) ∧
      (x.lacks 3 = false →
        let c := mpuCheck s.m e (x.level == 1) needW 0x40600100 8
        (c.2 = none → Issues e (.evpost e d a 2 u) s (settle (retireEng (postOutside s.m r) e ((postOutside s.m r).eng e).retire4))) ∧
        (∀ f, c.2 = some f → Issues e (.evpost e d a 2 u) s (settle (preciseException c.1 e 7 f))) ∧
        (tgt ≠ e.val → s.m.port (s.m.clRouter (tgt / 4)) = 0 → migrating s.m tgt = false → (s.m.eng tgt).state ≠ 7 →
          64 ≤ (s.m.eng tgt).evq.length → Issues e (.evpost e d a 1 u) s s.m) ∧
        (tgt ≠ e.val → (s.m.eng tgt).evq.length < 64 →
          let m := engineDeliver s.m r.id tgt r
          Issues e (.evpost e d a 1 u) s (settle (retireEng m e (m.eng e).retire4))))) ∧
    (ReadyAlone s e [d, a] →
      (∀ pre p post, x.evq = pre ++ p :: post → pre.all (fun q => !hit q) = true → hit p = true →
        Issues e (.evwait e d a t) s (retireEng s.m e (({ x with evq := pre ++ post } : Engine).retireD d (BitVec.ofNat 64 p.1)))) ∧
      (x.evq.all (fun q => !hit q) = true →
        Issues e (.evwait e d a t) s (settle (asyncCheck (s.m.setEng e { x with
          state := 4, actAt := (if x.state = 1 then s.m.cycles else x.actAt), budgetAt := (if x.state = 1 then s.m.cycles else x.budgetAt),
          wait := .event d (v.toNat / 65536 % 65536) (v.toNat % 65536)
            (if t = 0 then none else some (s.m.hTime + t.toNat * 1000)) }) e)))) ∧
    (∀ dd k m tt, x.wait = .event dd k m (some tt) → ∃ mm, Runs (.evwaitTimeout e) s mm ∧
      (NoneDue x → mm.eng e = { x.retireD dd 0x80000000 with wait := .none, state := 3 }))

/-- The queue is first in, first out: a step runs the command at its front on the state with the rest of the queue. On an empty queue the
module idles, which is the model's choice (log entry 16). -/
def Obligations.StepRunsTheFrontCommand : Prop :=
  (∀ (s : State) (c : Instr), step { s with pending := c :: s.pending } = exec c s) ∧
  (∀ (s : State) (c : Instr) (l : List Instr), s.pending = c :: l → step s = exec c { s with pending := l }) ∧
  (∀ s : State, s.pending = [] → step s = .next s)

/-- Every command of the table completes, and leaves the queue as it is; R643 to R647: the firmware store changes by the four firmware
commands only. -/
def Obligations.CommandsCompleteAndKeepTheQueue : Prop :=
  ∀ (c : Instr) (s : State), ∃ t, exec c s = .next t ∧ t.pending = s.pending ∧
    ((∀ u a k l, c ≠ .fwBegin u a k l) → (∀ u a o d, c ≠ .fwData u a o d) → (∀ u a, c ≠ .fwVerify u a) → (∀ u a, c ≠ .fwActivate u a) →
      t.nv = s.nv)

/-- No step lowers a rollback floor or brings a revoked key slot back, and a floor stays within the levels an image may name. The
statement holds of every state, its hypothesis is kept by every step, and the reset state meets it. Rests on R646, R647, R654, of which it
states the part said here. -/
def Obligations.RollbackFloorsNeverFall : Prop :=
  ∀ s t : State, step s = .next t → (∀ k, floorOf s.nv k ≤ 63) →
    (∀ k, floorOf s.nv k ≤ floorOf t.nv k) ∧ (∀ k, floorOf t.nv k ≤ 63) ∧ (∀ x, x ∈ s.nv.revoked → x ∈ t.nv.revoked)

/-- What reset leaves: no command waits, every memory is in its one canonical form and lists nothing, floors are at 0, the engines are
stopped with pc 0x400 (R200), the ring ports are down, fabric time is 0 (R31), the stage is off, no set is committed, no region of the
protection unit is valid, and every register holds the reset value of its card (R5, R661). The contents of memory at power-on are the
model's choice (log entry 1), the values the cards leave open likewise (log entry 2). The values of registers and memories for which the
spec gives none state the model's choice (log entries 1, 2 and 14). -/
def Obligations.ResetState : Prop :=
  let s := State.reset
  s.pending = [] ∧ MemWf s.m ∧ s.m.dram = [] ∧ s.m.csram = [] ∧ s.m.scratch = [] ∧ s.m.isram = [] ∧ (∀ k, floorOf s.nv k = 0) ∧ s.nv.revoked = [] ∧
  s.m.now = 0 ∧ s.m.committed = none ∧ s.m.log = [] ∧ s.m.reqs = [] ∧ s.m.ring.ports = [] ∧
  (∀ e, s.m.eng e = ({} : Engine)) ∧ ({} : Engine).state = 0 ∧ ({} : Engine).arch.pc = 0x400 ∧
  (∀ k, s.m.r k = regReset k) ∧ (∀ k, s.m.st k = regReset k)

/-- The decision on one byte. Of the regions that are valid, apply at the level and hold the address: one decides by its rights; two or
more deny with reason 3 and name the lowest (log 69); with none, an engine at user level is denied, another master is denied when its
default bit is 0, and the default map decides otherwise. Rests on R517, R512, R518. -/
def Obligations.ProtectionDecision : Prop :=
  ∀ (s : Mach) (m a : Nat) (sup : Bool) (n : Need),
    let hits := (List.range 32).filter (regionHit s m sup a)
    (∀ k, hits = [k] → regionGrants s m k n = true → checkByte s m sup a n = none) ∧
    (∀ k, hits = [k] → regionGrants s m k n = false → checkByte s m sup a n = some ⟨2, k⟩) ∧
    (∀ k j l, hits = k :: j :: l → k < j ∧ checkByte s m sup a n = some ⟨3, k⟩) ∧
    (hits = [] → m < 64 → sup = false → checkByte s m sup a n = some ⟨1, 0x3F⟩) ∧
    (hits = [] → 64 ≤ m → mpuDflt s m = 0 → checkByte s m sup a n = some ⟨1, 0x3F⟩) ∧
    (hits = [] → (m < 64 → sup = true) → (64 ≤ m → mpuDflt s m ≠ 0) → checkByte s m sup a n = defaultMap m a n) ∧
    (s.mpuClear = true → fDieMaster m = false → hits = []) ∧ (s.mpuClear = false → mpuDflt s m = s.f (PT_MCFG_dflt m)) ∧
    (∀ k, regionHit s m sup a k = true → s.f (PT_RA_start m k) * 32 ≤ a ∧ a ≤ s.f (PT_RB_end m k) * 32 + 31 ∧ s.b (PT_RA_valid m k) = true)

/-- Accesses of registers by a master that is let through to a register of the F-die or H-die whose clock runs. A 4-byte write to a
register of 32 bits with no action of its own sets its RW fields and clears its RW1C bits where ones are written, an 8-byte write does the
same for a register of 64 bits; the write of a lower half alone is held for its master; a write to RWS fields goes to the staging copy,
and a host's on a standby is ignored, counted and logged. A read of 4 bytes at the lower half of a register of 64 bits latches the upper
half for its master, and a read of the upper half returns what is latched; a register that shows no state of a unit reads as it was set,
but for fields that only take writes. Rests on R2, R5, R8, R9, R573, of which it states the part said here. -/
def Obligations.RegisterAccessResults : Prop :=
  (∀ (s : State) (m : BitVec 7) (off : BitVec 26) (n : Nat) (v : U64) (k : Nat) (x : U64),
    let o := off.toNat
    let a : Mach := s.m
    (m.toNat = 0x40 → barsOpen a = true) → (n = 4 ∨ n = 8) → o % n = 0 → o < 0x1300000 →
    mpuCheck a m.toNat true needW (0x40000000 + o) n = (a, none) → regBlocked a m.toNat o = none → domainStopped a o = false →
    x.toNat = v.toNat % 2 ^ (8 * n) →
    (∀ sg, n = 4 → regAt a m.toNat o = some ⟨k, true, false, sg⟩ → bufWord k = false →
      let id := if sg then o - 8 else o
      Leaves (.registerWrite m off n true v) s (uxCheck (settle
        { a with heldLo := (m.toNat, id, x.toNat) :: a.heldLo.filter (fun y => !(y.1 == m.toNat && y.2.1 == id)) }))) ∧
    (∀ mask : U64, (n = 4 ∧ regAt a m.toNat o = some ⟨k, false, false, false⟩ ∧ mask = loMask ∨
        n = 8 ∧ regAt a m.toNat o = some ⟨k, true, false, false⟩ ∧ mask = ~~~0) →
      selNo k = none → k / 0x100000 ∈ [0x02, 0x04, 0x06, 0x08, 0x09] → k < 0x100000000 →
      (rwsMask k = 0 → ∃ t, Leaves (.registerWrite m off n true v) s (uxCheck (settle t)) ∧ Only [.regs] a t ∧ OnlyRegs [k] a t ∧
        t.r k = ((a.r k &&& ~~~(accMask k (fun y => decide (y = .rw)) &&& mask)) ||| (x &&& (accMask k (fun y => decide (y = .rw)) &&& mask)))
          &&& ~~~(x &&& (accMask k (fun y => decide (y = .rw1c)) &&& mask))) ∧
      (rwsMask k ≠ 0 → a.standby = true → m.toNat = 0x40 →
        Leaves (.registerWrite m off n true v) s (uxCheck (settle
          ((a.inc (TW_CNT 6)).logE { cause := 0x1206, initiator := m.toNat, detail := k })))) ∧
      (rwsMask k ≠ 0 → (a.standby = false ∨ m.toNat ≠ 0x40) → accMask k (fun y => decide (y = .rw)) = 0 → accMask k (fun y => decide (y = .rw1c)) = 0 →
        ∃ t, Leaves (.registerWrite m off n true v) s (uxCheck (settle t)) ∧ OnlyRegs [] a t ∧
          t.st k = (a.st k &&& ~~~(rwsMask k &&& mask)) ||| (x &&& (rwsMask k &&& mask)) ∧
          (∀ j, j ≠ k → t.st j = a.st j) ∧ t.beat.checkDue = some (a.now + 20000) ∧ Only [.regs, .staged, .beat] a t))) ∧
  (∀ (s : State) (m : BitVec 7) (word : BitVec 24) (low : BitVec 23) (y : RegAt),
    let a : Mach := s.m
    let pass (o : Nat) : Prop := o < 0x1300000 ∧ mpuCheck a m.toNat true needR (0x40000000 + o) 4 = (a, none) ∧
      regBlocked a m.toNat o = none ∧ domainStopped a o = false ∧ regAt a m.toNat o = some y ∧
      ¬ (BR_CWP_ADDR 0 ≤ o ∧ o < BR_CWP_ADDR 8 ∧ o % 0x40 = 0x18)
    let id (o : Nat) : Nat := if y.up then o - 4 else o
    (m.toNat = 0x40 → barsOpen a = true) → bufWord y.key = false →
    (pass (word.toNat * 4) →
      (y.up = false → y.wide = false → Leaves (.rcFieldRead m word) s
        ((readWhole a m.toNat y).1.emit (.regRead m.toNat (word.toNat * 4) ((readWhole a m.toNat y).2 % 2 ^ 32)))) ∧
      (∀ x, y.up = true → a.latch.find? (fun x => x.1 == m.toNat && x.2.1 == id (word.toNat * 4)) = some x →
        Leaves (.rcFieldRead m word) s (a.emit (.regRead m.toNat (word.toNat * 4) x.2.2)))) ∧
    (pass (low.toNat * 8) → y.up = false → y.wide = true →
      let v := (readWhole a m.toNat y).2
      Ends (.registerLowerHalfRead m low) s (fun t => t.out = a.out ++ [.regRead m.toNat (low.toNat * 8) (v % 2 ^ 32)] ∧
        t.latch.find? (fun x => x.1 == m.toNat && x.2.1 == low.toNat * 8) = some (m.toNat, low.toNat * 8, v / 2 ^ 32) ∧
        (∀ x, x.1 ≠ m.toNat → (x ∈ t.latch ↔ x ∈ a.latch)) ∧ Only [.regs, .sel, .jLatch, .latch, .out] a t)) ∧
    (y.staged = false → y.key < 0x100000000 → y.key / 0x100000 ∈ [0x02, 0x03, 0x04, 0x06, 0x08, 0x09] → selNo y.key = none → y.key ≠ ST_ANS_TYPE →
      (readWhole a m.toNat y).2 = (a.r y.key &&& ~~~(accMask y.key (fun z => decide (z = .wo)))).toNat))

/-- The staging point. The checks end 20 µs after the last write and show what they found of the set that would become active; a commit
write first waits for them. An accepted commit captures every staging copy and shows result 1 and its tag; a refused one shows its result
and its first failing block and changes no set; applying a set gives every RWS field its captured value and keeps every other field, and
shows result 2 with the beat; a discard gives the staging copies the active values. Rests on R5, R648 to R651. -/
def Obligations.StagingResults : Prop :=
  (∀ s : State, (s.m.beat.checkDue = none → Leaves .stagingCheckComplete s s.m) ∧
    (∀ t, s.m.beat.checkDue = some t →
      let v := stagedView (s.m.upTo t)
      Ends .stagingCheckComplete s (fun m => m.beat = { s.m.beat with checkDue := none } ∧ t ≤ m.now ∧ s.m.now ≤ m.now ∧
        m.f BT_LEAD_CHECK_cause = leadCause v ∧ m.f SK_WINDOW_wmin_ns = (wMin v + 79) / 80 % 2 ^ SK_WINDOW_wmin_ns.width ∧
        (∀ x, regionFail v = some x → m.f PT_CHECK_cause = regionCause v x) ∧
        (∀ x, regionFail v = none → regionPair v = some x → m.f PT_CHECK_cause = 3 ∧ m.f PT_EVENT_overlap_cfg = 1) ∧
        (regionFail v = none → regionPair v = none → m.f PT_CHECK_cause = 0) ∧
        m.f TX_CHECK_cause = (if (reflexFail v).isSome then 2 else if (fanFail v).isSome then 1 else 0) ∧
        (phaseOff v 4 * 80 < phaseOff v 3 * 80 + wMin v → m.f SK_EVENT_window_short = 1) ∧
        m.f TW_STATUS_mirror_bytes = mirrorBytes v % 2 ^ TW_STATUS_mirror_bytes.width ∧
        OnlyRegs ([BT_DMAX, BT_LEAD_CHECK, TX_CHECK, SK_WINDOW, SK_EVENT, PT_CHECK, PT_EVENT, TW_STATUS] ++ (keysFrom 0 4).map RG_RING_CAP) s.m m ∧
        Only [.regs, .beat, .work, .now, .sub, .cycles, .hSkew] s.m m))) ∧
  (∀ (s : State) (master : BitVec 7) (tag : BitVec 16) (t : Nat), s.m.beat.checkDue = some t →
    exec (.stageCommit master tag) s = exec (.stageCommit master tag) { s with m := showChecks (s.m.upTo t) } ∧
      (showChecks (s.m.upTo t)).beat.checkDue = none) ∧
  (∀ (s : State) (master : BitVec 7) (tag : BitVec 16), s.m.beat.checkDue = none →
    let a := s.m.setF GL_STAGE_STATUS_tag tag.toNat
    (s.m.committed = none → s.m.standby = false → failingBlocks (stagedView a) = [] →
      Ends (.stageCommit master tag) s (fun m => m.committed = some s.m.staged ∧ m.f GL_STAGE_STATUS_result = 1 ∧ m.f GL_STAGE_STATUS_block = 0 ∧
        m.f GL_STAGE_STATUS_tag = tag.toNat ∧ m.beat.commitAt = some s.m.now ∧ m.beat.commitTag = tag.toNat ∧
        m.beat.commitOff = !s.m.b BT_CTRL_beat_en ∧ OnlyRegs [GL_STAGE_STATUS] s.m m ∧ Only [.regs, .committed, .beat] s.m m)) ∧
    (s.m.committed ≠ none → Ends (.stageCommit master tag) s (fun m => m.committed = s.m.committed ∧ m.f GL_STAGE_STATUS_result = 4 ∧
        m.f GL_STAGE_STATUS_block = 0 ∧ m.f GL_STAGE_STATUS_tag = tag.toNat ∧ m.f GL_EVENT_refused = 1 ∧
        m.n (GL_CNT 1) = (s.m.n (GL_CNT 1) + 1) % 2 ^ 64 ∧ OnlyRegs [GL_STAGE_STATUS, GL_EVENT, GL_CNT 1] s.m m ∧ Only [.regs, .work] s.m m)) ∧
    (s.m.committed = none → s.m.standby = true → Ends (.stageCommit master tag) s (fun m => m.committed = none ∧
        m.f GL_STAGE_STATUS_result = 5 ∧ m.f GL_EVENT_refused = 1 ∧ OnlyRegs [GL_STAGE_STATUS, GL_EVENT, GL_CNT 1] s.m m ∧
        Only [.regs, .work] s.m m)) ∧
    (∀ b l, s.m.committed = none → s.m.standby = false → failingBlocks (stagedView a) = b :: l →
      Ends (.stageCommit master tag) s (fun m => m.f GL_STAGE_STATUS_result = 3 ∧ m.f GL_STAGE_STATUS_block = b ∧
        m.f GL_STAGE_STATUS_tag = tag.toNat ∧ m.f GL_EVENT_refused = 1 ∧ m.n (GL_CNT 1) = (s.m.n (GL_CNT 1) + 1) % 2 ^ 64 ∧
        (∀ k, rwsMask k ≠ 0 → m.r k = s.m.r k) ∧ Only [.regs, .work] s.m m))) ∧
  (∀ (s : Mach) (edge : Nat) (l : List (Nat × U64)), s.committed = some l →
    let m := (applyCommit s edge).1
    (∀ k, k ∉ [GL_STAGE_STATUS, GL_EVENT, GL_CNT 0] → m.r k = (s.r k &&& ~~~(rwsMask k)) ||| (mapGet regReset l k &&& rwsMask k)) ∧
    m.f GL_STAGE_STATUS_result = 2 ∧ m.f GL_STAGE_STATUS_block = 0 ∧ m.f GL_STAGE_STATUS_tag = s.beat.commitTag % 2 ^ 16 ∧
    m.f GL_STAGE_STATUS_beat = edge % 2 ^ 32 ∧ m.f GL_EVENT_committed = 1 ∧ m.committed = none) ∧
  (∀ (s : State) (l : List (Nat × U64)), s.m.committed = some l → s.m.beat.commitOff = true ∨ s.m.b BT_STATUS_beat_run = false →
    let t := s.m.upTo (s.m.beat.commitAt.getD s.m.now)
    let a := nocAdmit t
    a.committed = some l ∧ Leaves .commitApplyBeatsOff s (migrateStart (commitEffects a (applyCommit a t.beatNum).1 l))) ∧
  (∀ s : State,
    (s.m.committed = none → Ends .stageDiscard s (fun m => (∀ k, m.st k = if rwsMask k = 0 then s.m.st k else s.m.r k) ∧
      Only [.staged] s.m m)) ∧
    (s.m.committed ≠ none → Ends .stageDiscard s (fun m => m.f GL_STAGE_STATUS_result = 4 ∧ m.f GL_STAGE_STATUS_tag = s.m.f GL_STAGE_STATUS_tag ∧
      m.f GL_STAGE_STATUS_block = s.m.f GL_STAGE_STATUS_block ∧ OnlyRegs [GL_STAGE_STATUS] s.m m ∧ Only [.regs] s.m m)))

/-- What each reset clears. A reset asked for by register begins 10 µs after its write; one of the debug access port at once. A module
reset clears every register but those of the always-on domain and the role, every memory, queue, engine and port, and fabric time starts
at 0; the clusters of a domain that is held off stay clamped; after a thermal shutdown both dies stay held. An H-die reset clears the
H-die's registers, memories, engines and requests, and leaves module DRAM, the rings, the beat and the error log. An endpoint reset masks
every vector, clears the pending bits and the function's enables, orphans the host's reads, ends its busy configuration writes and changes
nothing else. GL_RESET_CAUSE shows each. Clauses on what a reset keeps beyond the words of the spec state the model's choice (log entry
53). Rests on R637 to R640, R671, of which it states the part said here. -/
def Obligations.ResetResults : Prop :=
  (∀ (s : State) (master : BitVec 7),
    let off := s.m.pw.held.contains 4
    let cleared (src : Nat) (m : Mach) : Prop :=
      m.dram = [] ∧ m.csram = [] ∧ m.scratch = [] ∧ m.isram = [] ∧ m.reqs = [] ∧ m.orphans = [] ∧ m.ring = {} ∧ m.beat = {} ∧ m.strike = {} ∧
      m.log = [] ∧ m.portQ = [] ∧ m.evSlots = [] ∧ m.staged = [] ∧ m.committed = none ∧ m.now = 0 ∧ m.sub = 0 ∧ m.nvLog = s.m.nvLog ∧
      m.r TW_CFG = s.m.r TW_CFG ∧ m.f TW_STATUS_role = (if s.m.f TW_CFG_role = 3 then 2 else s.m.f TW_CFG_role) ∧
      m.f GL_RESET_CAUSE_kind = 2 ∧ m.f GL_RESET_CAUSE_source = src ∧ m.pw.upd = none ∧ m.pw.mbx = none ∧
      (off = false → m.engines = []) ∧ (off = true → ∀ e, e < 64 → (m.eng e).state = 7 ∧ m.f (EN_CL_CLAMP_clamp (e / 4)) = 1) ∧
      (∀ k, blockOf k = 0x11 → k ≠ PW_DIO → k ≠ PW_MBX_STATUS → m.r k = s.m.r k) ∧ m.f PW_DIO_oe = 0 ∧ m.f PW_MBX_STATUS_busy = 0 ∧
      (s.m.pw.shutdown = false → m.hReset = false ∧ m.stopped = [] ∧ m.pw.hold = false ∧
        ∀ k, blockOf k ≠ 0x11 → k ∉ [TW_CFG, TW_STATUS, TW_EVENT, GL_RESET_CAUSE] →
          (off = true → ∀ c, c < 16 → k ≠ EN_CL_CLAMP c) → m.r k = regReset k) ∧
      (s.m.pw.shutdown = true → m.hReset = true ∧ m.pw.hold = true ∧ ∀ b, b < 9 → b ∈ m.stopped)
    Ends (.glResetModule master) s (fun m => cleared master.toNat m ∧ s.m.cycles + 10000 ≤ m.cycles) ∧
    Ends .jtagReset s (fun m => cleared 0x7E m ∧ m.cycles = s.m.cycles) ∧
    Ends (.glResetHdie master) s (fun m => m.hReset = true ∧ m.mpuClear = true ∧ m.csram = [] ∧ m.scratch = [] ∧ m.isram = [] ∧
      m.reqs = [] ∧ m.orphans = [] ∧ m.portQ = [] ∧ m.fenced = [] ∧ m.committed = none ∧ m.dram = s.m.dram ∧ m.ring = s.m.ring ∧ m.log = s.m.log ∧
      m.strike = s.m.strike ∧ m.beat = { s.m.beat with commitAt := none, commitOff := false } ∧ s.m.cycles + 10000 ≤ m.cycles ∧
      m.f DV_STATUS_state = 0 ∧ (∀ b, b < 4 → b ∈ m.stopped) ∧
      (off = false → m.engines = []) ∧ (off = true → ∀ e, e < 64 → (m.eng e).state = 7) ∧
      (∀ k, blockOf k ∈ [0x04, 0x05, 0x06, 0x07, 0x0A, 0x0B, 0x0E] → (off = true → ∀ c, c < 16 → k ≠ EN_CL_CLAMP c) →
        m.r k = regReset k ∧ m.st k = regReset k) ∧
      (∀ k, blockOf k ∈ [0x02, 0x03, 0x08, 0x09, 0x0D, 0x12] → m.r k = s.m.r k) ∧
      m.f GL_RESET_CAUSE_kind = 3 ∧ m.f GL_RESET_CAUSE_source = master.toNat)) ∧
  (∀ (s : State) (c : Instr), c ∈ [Instr.perstAssert, .flr, .pcieLinkDown] →
    Ends c s (fun m => m.pcie = { head := s.m.pcie.head, bmeAt := (if s.m.pcie.bme then s.m.cycles else s.m.pcie.bmeAt) } ∧
      m.mxAcc = [] ∧ m.mxHeld = [] ∧ m.mxEpisode = false ∧ (∀ v, v < 2048 → m.f (MX_VCTRL_mask v) = 1) ∧
      (∀ i, i < 32 → m.n (MX_PBA i) = 0) ∧ m.f GL_RESET_CAUSE_kind = 5 ∧
      (∀ q, q ∈ m.reqs → (∀ k, q.kind ≠ .cwp k) ∧ (∀ t, q.kind = .hostRead t → q.orphan ≠ none)) ∧
      (∀ q, q ∈ s.m.reqs → (∀ k, q.kind ≠ .cwp k) → (∀ t, q.kind ≠ .hostRead t) → (∀ x, x ∈ s.m.reqs → x.bseq = q.bseq → x = q) → q ∈ m.reqs) ∧
      (∀ k, blockOf k ∉ [0x05, 0x07] → k ≠ GL_RESET_CAUSE → m.r k = s.m.r k) ∧
      ((∀ q, q ∈ s.m.reqs → ∀ k, q.kind ≠ .cwp k) → ∀ k, k ≠ GL_RESET_CAUSE → (∀ v, v < 2048 → k ≠ MX_VCTRL v) →
        (∀ i, i < 32 → k ≠ MX_PBA i) → m.r k = s.m.r k) ∧
      Only [.regs, .pcie, .mxAcc, .mxHeld, .mxEpisode, .reqs, .freeCtr, .noc, .ring] s.m m))

/-- Starting and stopping the beats, the beat edges, the step of fabric time, the pulses and the H-die copy of fabric time. A start is
refused when it leaves no lead and 10 µs, or while beats run; a stop makes the coming strike the last; the final edge ends the run. A step
is refused while beats run or are enabled. The copy on the H-die stays within 5 ns, and after a time without correction is slewed by 1 ns
in 10 µs at most; a word whose two samples differ changes nothing. Rests on R33 to R36, R48 to R51, R186, R604, of which it states the
part said here. -/
def Obligations.BeatAndTimeResults : Prop :=
  (∀ s : State,
    let a := s.m
    let due := a.n BT_BEAT_START < a.now + lead a + 10000 ∨ a.b BT_STATUS_beat_run = true
    (a.b BT_CTRL_beat_en = true → Leaves .beatStart s a) ∧
    (a.b BT_CTRL_beat_en = false → due → Ends .beatStart s (fun m => m.f BT_EVENT_start_refused = 1 ∧ OnlyRegs [BT_EVENT] a m ∧
      Only [.regs, .work] a m)) ∧
    (a.b BT_CTRL_beat_en = false → ¬ due → Ends .beatStart s (fun m => m.f BT_CTRL_beat_en = 1 ∧ m.f BT_STATUS_beat_run = 1 ∧
      m.n BT_STRIKE_TIME = a.n BT_BEAT_START ∧ m.beat.starting = true ∧ m.beat.first = a.f BT_BEAT_FIRST_beat ∧ m.beat.final = false ∧
      m.beat.launched = none ∧ m.beat.content = none ∧ m.beat.done = [] ∧ m.beat.fired = [] ∧
      m.strike = { a.strike with yes := [], nay := [], decided := none } ∧ OnlyRegs [BT_CTRL, BT_STATUS, BT_STRIKE_TIME] a m ∧
      Only [.regs, .beat, .strike] a m)) ∧
    (a.b BT_CTRL_beat_en = false → Leaves .beatStop s a) ∧
    (a.b BT_CTRL_beat_en = true → (∀ g, a.mig = some g → g.phase ≠ 0) → Ends .beatStop s (fun m => m.f BT_CTRL_beat_en = 0 ∧
      m.beat = { a.beat with final := true } ∧ OnlyRegs [BT_CTRL] a m ∧ Only [.regs, .beat] a m)) ∧
    (∀ g, a.b BT_CTRL_beat_en = true → a.mig = some g → g.phase = 0 → Leaves .beatStop s
      (migrateCheck { a.setF BT_CTRL_beat_en 0 with beat := { a.beat with final := true }, mig := some { g with phase := 1, at_ := a.cycles } })) ∧
    (a.b BT_STATUS_beat_run = true ∨ a.b BT_CTRL_beat_en = true → Ends .timeStep s (fun m => m.f BT_EVENT_step_refused = 1 ∧
      OnlyRegs [BT_EVENT] a m ∧ Only [.regs, .work] a m)) ∧
    (a.b BT_STATUS_beat_run = false → a.b BT_CTRL_beat_en = false → Ends .timeStep s (fun m => m.now = a.n BT_TIME_SET ∧ m.sub = 0 ∧
      m.f BT_STATUS_time_valid = 1 ∧ m.f BT_EVENT_step_done = 1 ∧ (a.b BT_STATUS_hdie_time_free = true → m.hTime = a.hTime) ∧
      (a.b BT_STATUS_hdie_time_free = false → m.hSkew = a.hSkew) ∧ OnlyRegs [BT_STATUS, BT_EVENT] a m ∧
      Only [.regs, .now, .sub, .hSkew, .work] a m)) ∧
    (let t := strikeNow (a.upTo (a.n BT_STRIKE_TIME))
     let u := stagingPoint t t.beatNum
     let edge := unitEdge (imageStrike (u.setN BT_STRIKE_TIME (a.n BT_STRIKE_TIME + period u)))
     t.n BT_BEAT_NUM = nextBeat a % 2 ^ 64 ∧ t.beat.strike = t.now ∧ a.n BT_STRIKE_TIME ≤ t.now ∧ t.beat.starting = false ∧ t.beat.done = [] ∧
     t.beat.fired = [] ∧
     (a.b BT_STATUS_beat_run = true → a.beat.final = false → Leaves .beatEdge s edge) ∧
     (a.b BT_STATUS_beat_run = true → a.beat.final = true → Ends .finalEdge s (fun m => m.f BT_STATUS_beat_run = 0 ∧ m.beat.final = false ∧
       m.beat.launched = none ∧ m.beat.content = none ∧ m.beat.starting = false ∧
       (a.beat.launched = some (nextBeat a) → OnlyRegs [BT_STATUS] edge m ∧ Only [.regs, .beat] edge m) ∧
       (a.beat.launched ≠ some (nextBeat a) →
         let v := stagingPoint (a.upTo (a.n BT_STRIKE_TIME)) a.beatNum
         OnlyRegs [BT_STATUS] v m ∧ Only [.regs, .beat] v m)))) ∧
    (a.b BT_STATUS_beat_run = false → Leaves .beatEdge s a ∧ Leaves .finalEdge s a)) ∧
  (∀ s : State,
    let a := s.m
    (a.b BT_PPS_OUT_enable = true → a.beat.ppsLine = false → Ends .ppsPulseStart s (fun m => m.beat = { a.beat with ppsLine := true, ppsStart := m.now } ∧
      m.now % 1000000000 = 0 ∧ a.now ≤ m.now ∧ m.now < a.now + 1000000000 ∧ Only [.now, .sub, .cycles, .hSkew, .beat] a m)) ∧
    (∀ w, a.beat.ppsLine = true → w = (if a.f BT_PPS_OUT_width_us = 0 then 100 else a.f BT_PPS_OUT_width_us) →
      Ends .ppsPulseEnd s (fun m => m.beat = { a.beat with ppsLine := false } ∧ a.beat.ppsStart + w * 1000 ≤ m.now ∧
        Only [.now, .sub, .cycles, .hSkew, .beat] a m)) ∧
    (∀ t, a.beat.mirrorEnd = some t → Ends .strikeMirrorPulseEnd s (fun m => m.beat = { a.beat with mirrorEnd := none } ∧ t ≤ m.now ∧
      Only [.now, .sub, .cycles, .hSkew, .beat] a m)) ∧
    (a.f DV_STATUS_state ≠ 2 → ∀ agree, Leaves (.hdieTimeSample agree) s a) ∧ Leaves (.hdieTimeSample false) s a ∧
    (a.f DV_STATUS_state = 2 → a.b BT_STATUS_hdie_time_free = false → Ends (.hdieTimeSample true) s (fun m => m.hSkew.natAbs ≤ 5 ∧
      Only [.hSkew, .freeCtr] a m)) ∧
    (a.f DV_STATUS_state = 2 → a.b BT_STATUS_hdie_time_free = true → 5 < a.hSkew.natAbs → a.beat.hAt + 10000 ≤ a.cycles →
      Ends (.hdieTimeSample true) s (fun m => m.hSkew.natAbs + 1 = a.hSkew.natAbs ∧ m.beat = { a.beat with hAt := a.cycles } ∧ Only [.hSkew, .beat] a m)) ∧
    (a.f DV_STATUS_state = 2 → a.b BT_STATUS_hdie_time_free = true → 5 < a.hSkew.natAbs → a.cycles < a.beat.hAt + 10000 →
      Leaves (.hdieTimeSample true) s a) ∧
    (a.f DV_STATUS_state = 2 → a.b BT_STATUS_hdie_time_free = true → a.hSkew.natAbs ≤ 5 →
      Ends (.hdieTimeSample true) s (fun m => m.f BT_STATUS_hdie_time_free = 0 ∧ OnlyRegs [BT_STATUS] a m ∧ Only [.regs] a m)))

/-- The phases of a beat. The content of the coming downbeat is fixed 1 µs before its launch: its beat, the lead, and the commit bitmap of
the decision made for that beat, in the bit order of Table 02-7, or zeros. The launch sends it on every ring and is the last act of a
takeover. A downbeat that returns is compared with the last measured loop, and one with no measured loop or with an invalid launch time
changes counters alone. At input-complete the beat's pairs are judged, the input bank is closed and the inbound mirrors are read; at the
output deadline the image of every running station is sent, the output bank's record is completed and the outbound mirrors are written,
and a primary mirrors the beat; at the decision deadline every group is decided and the vote window closes. A standby passes the phases
and does none of this. Clauses on the first beat number and on a suspended loop measurement state the model's choice (log entries 73 and
78). Rests on R54, R56, R60, R71, R157, R175, R533 to R536, R580, of which it states the part said here. -/
def Obligations.PhaseResults : Prop :=
  (∀ s : State,
    let a := s.m
    (willLaunch a = true → a.beat.content = none → Ends .downbeatContentFix s (fun m => ∃ bits,
      m.beat = { a.beat with content := some (nextBeat a, lead a, bits) } ∧ bits.length = 32 ∧ a.n BT_STRIKE_TIME - lead a - 1000 ≤ m.now ∧
      (a.b SK_STATUS_decided = true → a.beat.starting = false → a.n SK_COMMIT_BEAT = nextBeat a →
        ∀ g, g < 256 → bitAt (bits.getD (g / 8) 0).toNat (7 - g % 8) = (a.f ⟨SK_COMMIT (g / 64), g % 64, 1⟩ == 1)) ∧
      (a.b SK_STATUS_decided = false ∨ a.beat.starting = true ∨ a.n SK_COMMIT_BEAT ≠ nextBeat a → bits = List.replicate 32 0) ∧
      Only [.now, .sub, .cycles, .hSkew, .beat] a m)) ∧
    (willLaunch a = false ∨ a.beat.content ≠ none → Leaves .downbeatContentFix s a) ∧
    (willLaunch a = true →
      let nom := a.n BT_STRIKE_TIME - lead a
      let c := a.beat.content.getD (nextBeat a, lead a, nextBitmap a)
      let u := a.upTo nom
      let v := { u with beat := { u.beat with content := some c } }
      let w := (keysFrom 0 4).foldl (launchRing nom c) v
      let x := { w with beat := { w.beat with launched := some c.1, content := none } }
      nom ≤ v.now ∧ (x.twin.progress = false → Leaves .downbeatLaunch s x) ∧
      (x.twin.progress = true → Leaves .downbeatLaunch s (serveHold { x with twin := { x.twin with progress := false } }))) ∧
    (willLaunch a = false → Leaves .downbeatLaunch s a)) ∧
  (∀ (s : State) (p : Fin 8) (f : Frame),
    let a := s.m
    let x := rxGood a p f
    let n := p.val / 2
    (a.portUp p = false ∨ f.type ≠ 0x1 ∨ f.isCal = true → Leaves (.downbeatLoopReturn p f) s a) ∧
    (a.portUp p = true → f.type = 0x1 → f.isCal = false →
      (frameOk f = false → Ends (.downbeatLoopReturn p f) s (fun m => m.n (RG_CNT p 12) = (a.n (RG_CNT p 12) + 1) % 2 ^ 64 ∧
        OnlyRegs [RG_CNT p (4 + f.cls % 4), RG_CNT p 9, RG_CNT p 12] a m ∧ Only [.regs, .ring] a m)) ∧
      (frameOk f = true → fenceCheck x f = false → transitHop a = false →
        ((a.rst n).loop = none ∨ expandLaunch x f.launch = none → Ends (.downbeatLoopReturn p f) s (fun m =>
          (m.rport p).lastRx = a.now ∧ m.n (RG_CNT p 9) = (a.n (RG_CNT p 9) + f.bytes) % 2 ^ 64 ∧
          OnlyRegs [RG_CNT p (4 + f.cls % 4), RG_CNT p 9] a m ∧ Only [.regs, .ring] a m)) ∧
        (∀ c l t, (a.rst n).loop = some (c, l) → expandLaunch x f.launch = some t →
          let trip := a.now - (t - f.aux)
          let v := trip - resolveAcc f.acc trip (halfSum x n (ringN x n))
          let was := if p.val % 2 = 1 then c else l
          (absDiff v was ≤ 5 → Ends (.downbeatLoopReturn p f) s (fun m => OnlyRegs [RG_CNT p (4 + f.cls % 4), RG_CNT p 9] a m ∧
            Only [.regs, .ring] a m)) ∧
          (5 < absDiff v was → Ends (.downbeatLoopReturn p f) s (fun m => m.f BT_EVENT_loop_changed = 1 ∧
            OnlyRegs [RG_CNT p (4 + f.cls % 4), RG_CNT p 9, BT_EVENT] a m ∧ Only [.regs, .ring, .work] a m)))))) ∧
  (∀ s : State,
    let a := s.m
    let at_ (ph : Nat) : Mach := phaseAt a ph
    (∀ ph, (at_ ph).beat.done = a.beat.done ++ [ph] ∧ a.beat.strike + phaseOff a ph ≤ (at_ ph).now ∧ a.now ≤ (at_ ph).now) ∧
    (phaseDue a 1 = true → transitHop a = true → Leaves .phaseInputComplete s (at_ 1)) ∧
    (phaseDue a 1 = false → Leaves .phaseInputComplete s a) ∧
    (phaseDue a 1 = true → transitHop a = false → a.img.outCopy ≠ some ((a.beatNum + 1) % 2 ^ 32) →
      let j := (keysFrom 0 4).foldl judgePairs (at_ 1)
      let b := closeBank { j with ring := { j.ring with pairs := [] } }
      Leaves .phaseInputComplete s ((mirrorsDue b 0).foldl mirrorIn b)) ∧
    (phaseDue a 1 = true → transitHop a = false → a.img.outCopy = some ((a.beatNum + 1) % 2 ^ 32) →
      let l := ((at_ 1).raise JN_EVENT_carry_late).logC 0x0E04 ((a.beatNum + 1) % 2 ^ 32)
      let j := (keysFrom 0 4).foldl judgePairs l
      let b := closeBank { j with ring := { j.ring with pairs := [] } }
      Leaves .phaseInputComplete s ((mirrorsDue b 0).foldl mirrorIn b)) ∧
    (phaseDue a 3 = false → Leaves .phaseOutputDeadline s a) ∧
    (phaseDue a 3 = true → transitHop a = true → Leaves .phaseOutputDeadline s (at_ 3)) ∧
    (phaseDue a 3 = true → transitHop a = false →
      let l := (at_ 3).stations.filter (fun k => a.f (ST_W1_state k) == 3 && decide (0 < a.f (ST_W5_out_size k)))
      let r := l.foldl imageOutStation (at_ 3, [], [])
      let k := outBank (r.1.beatNum + 1)
      (imgReach r.1 (bankRec r.1 k) = false → Leaves .phaseOutputDeadline s (twinMirror ((mirrorsDue r.1 1).foldl mirrorOut r.1))) ∧
      (imgReach r.1 (bankRec r.1 k) = true →
        let v := setRecBits r.1 k r.2.2
        let v := setRecFlags v k (Nat.lor (recFlags v k) 1)
        let b := (r.1.beatNum + 2) % 2 ^ 32
        let v := setRecStrike (setRec v (outBank b) b 0) (outBank b) (v.beat.strike + 2 * period v)
        let v := { v with img := { v.img with outCopy := some b } }
        Leaves .phaseOutputDeadline s (twinMirror ((mirrorsDue v 1).foldl mirrorOut v))))) ∧
  (∀ s : State,
    let a := s.m
    let t := a.upTo (a.beat.strike + phaseOff a 4)
    (a.b BT_STATUS_beat_run = false ∨ a.beat.starting = true ∨ a.strike.decided = some a.beatNum → Leaves .decisionDeadline s a) ∧
    (a.b BT_STATUS_beat_run = true → a.beat.starting = false → a.strike.decided ≠ some a.beatNum →
      (transitHop a = true → Ends .decisionDeadline s (fun m => m.strike = { a.strike with yes := [], nay := [], decided := some a.beatNum } ∧
        a.beat.strike + phaseOff a 4 ≤ m.now ∧ Only [.strike, .now, .sub, .cycles, .hSkew] a m)) ∧
      (transitHop a = false → a.b BT_CTRL_beat_en = false → Ends .decisionDeadline s (fun m =>
        m.strike = { a.strike with yes := [], nay := [], decided := some a.beatNum } ∧ (∀ i, m.r (SK_COMMIT i) = a.r (SK_COMMIT i)) ∧
        Only [.strike, .ring, .regs, .now, .sub, .cycles, .hSkew] a m)) ∧
      (transitHop a = false → a.b BT_CTRL_beat_en = true →
        let d := decideNow (dropOver t)
        d.strike.yes = [] ∧ d.strike.nay = [] ∧ d.strike.decided = some a.beatNum ∧ d.f SK_STATUS_decided = 1 ∧
        Leaves .decisionDeadline s (if d.f SK_MIRROR_mode = 3 then mirrorPulse d else d)))) ∧
  (∀ s : State,
    let a := s.m
    (a.img.inCopy = none → Leaves (.imageCopyComplete false) s a) ∧ (a.img.outCopy = none → Leaves (.imageCopyComplete true) s a) ∧
    (∀ b, a.img.inCopy = some b → imgReach a (bankRec a (inBank b)) = false → Leaves (.imageCopyComplete false) s a) ∧
    (∀ b, a.img.outCopy = some b → imgReach a (bankRec a (outBank b)) = false → Leaves (.imageCopyComplete true) s a) ∧
    (∀ b, a.img.inCopy = some b → imgReach a (bankRec a (inBank b)) = true →
      let l := (markedIn a (inBank b)).filter (fun j => !a.img.changed.contains j && imgServed a j)
      let t := copyTime a 1 (l.foldl (fun n j => n + a.f (ST_W5_in_size j)) 0) (b == a.beatNum)
      let u := l.foldl (fun t j => imgCopy t (stIn t j (b + 1)) (stIn t j b) (t.f (ST_W5_in_size j))) t
      let v := setRecFlags u (inBank b) (Nat.lor (recFlags u (inBank b)) 2)
      Leaves (.imageCopyComplete false) s { v with img := { v.img with inCopy := none } }) ∧
    (∀ b, a.img.outCopy = some b → imgReach a (bankRec a (outBank b)) = true →
      let l := a.stations.filter (fun j => !a.img.changed.contains j && imgServed a j)
      let t := copyTime a 3 (l.foldl (fun n j => n + a.f (ST_W5_out_size j)) 0) ((a.beatNum + 2) % 2 ^ 32 == b)
      let u := l.foldl (fun t j => imgCopy t (stOut t j (b + 1)) (stOut t j b) (t.f (ST_W5_out_size j))) t
      let v := setRecFlags u (outBank b) 2
      Leaves (.imageCopyComplete true) s { v with img := { v.img with outCopy := none } }))

/-- What a decision sees of a group. In vote mode a forced group is held; one accepted nay of a station that votes, is held or is lost
holds it, a lost member holds it where the group says so, a missing vote holds it; with every member's yes and no nay it commits. In free
mode it commits unless it is forced; in mode off it has no decision. Its bit of the commit bitmap and its hold run follow. That the events
of a decision are raised once for it is the model's choice (log entry 78). Rests on R164 to R166, R175, R180, R181, of which it states the
part said here. -/
def Obligations.GroupDecision : Prop :=
  ∀ (s : Mach) (l : List Nat) (g : Nat), g < 256 →
    let mine := l.filter (fun k => s.f (ST_W0_group k) == g)
    let mem := mine.filter (fun k => s.f (ST_W1_state k) == 3)
    let lost := mine.filter (fun k => s.f (ST_W1_state k) == 0 || s.f (ST_W1_state k) == 5)
    let nay := mine.filter (fun k => (s.f (ST_W1_state k) == 0 || s.f (ST_W1_state k) == 3 || s.f (ST_W1_state k) == 4) && s.strike.nay.contains k)
    let c := (groupSees s l g).cause
    (s.f (SK_GROUP_CFG_mode g) = 1 →
      (forced s g = true → c = 3) ∧
      (forced s g = false → nay ≠ [] → c = 2 ∧ (groupSees s l g).first = lowest nay) ∧
      (forced s g = false → nay = [] → s.b (SK_GROUP_CFG_lost_holds g) = true → lost ≠ [] → c = 5 ∧ (groupSees s l g).first = lowest lost) ∧
      (forced s g = false → nay = [] → (s.b (SK_GROUP_CFG_lost_holds g) = false ∨ lost = []) → (∃ k ∈ mem, k ∉ s.strike.yes) → c = 1) ∧
      (forced s g = false → nay = [] → (s.b (SK_GROUP_CFG_lost_holds g) = false ∨ lost = []) → (∀ k ∈ mem, k ∈ s.strike.yes) → c = 0)) ∧
    (s.f (SK_GROUP_CFG_mode g) = 2 → c = if forced s g then 3 else 0) ∧
    (s.f (SK_GROUP_CFG_mode g) = 0 → c = 4) ∧
    (groupSees s l g).members = mem.length ∧
    (let m := decideGroup l s g
     (m.f ⟨SK_COMMIT (g / 64), g % 64, 1⟩ = 1 ↔ c = 0) ∧ m.f (SK_GINFO_cause g) = c ∧
     m.f (SK_GINFO_hold_run g) = (if c = 0 ∨ c = 4 then 0 else if s.f (SK_GINFO_hold_run g) < 65535 then s.f (SK_GINFO_hold_run g) + 1 else 65535) ∧
     (c ≠ 0 → c ≠ 4 → s.f (SK_GROUP_CFG_mode g) = 1 → m.f ⟨SK_HELD (g / 64), g % 64, 1⟩ = 1))

/-- The time sources. A source that loses a condition is disqualified: its run begins again, the status shows it and it is no longer
selected. The latest samples of a run decide whether it is good: 8 round trips less than 100 ns apart, 16 offsets at most 1 µs apart, four
edges with the 10 MHz input good. The selected source's samples steer the servo: the offset register shows them; in ACQUIRE fabric time
steps while beats do not run and the offset reaches the threshold, and 16 offsets below 100 ns in a row lead to LOCKED; four above 1 µs in
a row leave it; the frequency word stays within 200 ppm and its part in proportion to the offset within slew_ppm. A sample for a source
that is off, of another domain or transport, or of the other edge, changes nothing; a second without a time of day steers the frequency
alone. Clauses on the frequency word and on what a lock sets state the model's choice (log entries 11 and 66). Rests on R37 to R46, of
which it states the part said here. -/
def Obligations.TimeSourceResults : Prop :=
  (∀ s : State,
    let a := s.m
    let lost (c : Nat) (m : Mach) : Prop := m.src c = { a.src c with good := 0, bad := 0, since := none, hist := [], flag := (m.src c).flag } ∧
      (∀ j, j ≠ c → m.src j = a.src j) ∧ bitAt (m.f BT_STATUS_src_qual) (c - 1) = false ∧ m.f BT_STATUS_src_sel ≠ c
    (srcOn a 1 = true → Ends .ptmRequest s (fun m => m.beat = { a.beat with ptmOut := true, ptmAt := m.now + a.f BT_PTM_CFG_interval * 1000000 } ∧
      a.beat.ptmAt ≤ m.now ∧ a.now ≤ m.now ∧ Only [.now, .sub, .cycles, .hSkew, .beat] a m)) ∧
    (srcOn a 1 = false → Leaves .ptmRequest s a) ∧
    Ends .ptmL0AbsenceTimeout s (fun m => lost 1 m ∧ m.pcie = { a.pcie with l0 := false } ∧ Only [.regs, .beat, .work, .pcie] a m) ∧
    Ends .ptpSyncMissing s (fun m => lost 2 m ∧ Only [.regs, .beat, .work] a m) ∧
    Ends .ptpAnnounceTimeout s (fun m => lost 2 m ∧ (m.src 2).flag = false ∧ Only [.regs, .beat, .work] a m) ∧
    Ends .ppsMissing s (fun m => lost 3 m ∧ (srcQual a 3 = true → m.f BT_EVENT_pps_lost = 1) ∧ Only [.regs, .beat, .work] a m) ∧
    Ends .ref10Loss s (fun m => lost 3 m ∧ (m.src 3).flag = false ∧ Only [.regs, .beat, .work] a m) ∧
    (∀ c t, a.beat.wtr = some (c, t) → c ∈ srcCands a → Ends .waitToRestoreExpire s (fun m => m.f BT_STATUS_src_sel = c ∧ m.beat.wtr = none ∧ t ≤ m.now ∧
      (a.f BT_STATUS_src_sel ≠ c → m.f BT_STATUS_servo_state = 1 ∧ m.f BT_EVENT_src_switch = 1))) ∧
    (∀ c t, a.beat.wtr = some (c, t) → c ∉ srcCands a → Ends .waitToRestoreExpire s (fun m => m.beat = { a.beat with wtr := none } ∧
      Only [.beat] a m)) ∧
    (a.beat.wtr = none → Leaves .waitToRestoreExpire s a) ∧
    (a.f TW_STATUS_role ≠ 0 → a.b CT_CLAMP_tenon = false → Ends .tenonLinkUp s (fun m => m.f TW_STATUS_tenon_up = 1 ∧ OnlyRegs [TW_STATUS] a m ∧
      Only [.regs] a m)) ∧
    (a.f TW_STATUS_role = 0 ∨ a.b CT_CLAMP_tenon = true → Leaves .tenonLinkUp s a)) ∧
  (∀ (q : SrcQ) (n : Nat) (d : Int), runWithin q n d = true ↔ n ≤ q.good ∧ n ≤ q.hist.length ∧ ∀ x ∈ q.hist.take n, ∀ y ∈ q.hist.take n, x - y ≤ d) ∧
  (∀ (s : State) (ok : Bool) (rtt : Nat) (host : Int),
    let a := { s.m with beat := { s.m.beat with ptmOut := false } }
    let q := { a.src 1 with good := (a.src 1).good + 1, bad := 0, hist := Int.ofNat rtt :: (a.src 1).hist.take 15 }
    let b := reselect ((a.setSrc 1 q).setSrc 1 { q with since := some a.now })
    let off := host + Int.ofNat (rtt / 2) + signed 64 (s.m.f BT_PTM_OFFSET_offset_ns) - Int.ofNat s.m.now
    (s.m.beat.ptmOut = false → Leaves (.ptmDialogComplete ok rtt host) s s.m) ∧
    (s.m.beat.ptmOut = true → srcOn s.m 1 = false → Leaves (.ptmDialogComplete ok rtt host) s a) ∧
    (s.m.beat.ptmOut = true → srcOn s.m 1 = true →
      (ok = true → runWithin q 8 99 = false → srcQual s.m 1 = false → Leaves (.ptmDialogComplete ok rtt host) s (a.setSrc 1 q)) ∧
      (ok = true → srcQual s.m 1 = true → Leaves (.ptmDialogComplete ok rtt host) s (servoSample (a.setSrc 1 q) 1 off)) ∧
      (ok = true → runWithin q 8 99 = true → q.since = none → srcQual b 1 = true ∧ Leaves (.ptmDialogComplete ok rtt host) s (servoSample b 1 off)) ∧
      (ok = false → (a.src 1).bad < 2 → Leaves (.ptmDialogComplete ok rtt host) s
        (a.setSrc 1 { a.src 1 with good := 0, bad := (a.src 1).bad + 1, hist := [] })) ∧
      (ok = false → 2 ≤ (a.src 1).bad → Ends (.ptmDialogComplete ok rtt host) s (fun m => srcQual m 1 = false ∧ (m.src 1).good = 0 ∧
        m.f BT_STATUS_src_sel ≠ 1)))) ∧
  (∀ (s : State) (domain t1 t3 t4 : Nat) (l2 : Bool),
    let a := s.m
    let off := ((Int.ofNat t1 - Int.ofNat (a.now / 8 * 8)) + (Int.ofNat t4 - Int.ofNat (t3 / 8 * 8))) / 2
    let q := { a.src 2 with good := (a.src 2).good + 1, bad := 0, hist := off :: (a.src 2).hist.take 15 }
    let b := reselect ((a.setSrc 2 q).setSrc 2 { q with since := some a.now })
    let mine := srcOn a 2 = true ∧ domain ≤ 127 ∧ domain = a.f BT_PTP_CFG_domain ∧ l2 = a.b BT_PTP_CFG_transport
    (¬ mine → Leaves (.ptpSyncReceive domain l2 t1 t3 t4) s a ∧ Leaves (.ptpAnnounceReceive domain l2) s a) ∧
    (mine →
      (q.flag = false ∨ runWithin q 16 1000 = false → srcQual a 2 = false → Leaves (.ptpSyncReceive domain l2 t1 t3 t4) s (a.setSrc 2 q)) ∧
      (srcQual a 2 = true → Leaves (.ptpSyncReceive domain l2 t1 t3 t4) s (servoSample (a.setSrc 2 q) 2 off)) ∧
      (q.flag = true → runWithin q 16 1000 = true → q.since = none → srcQual b 2 = true ∧
        Leaves (.ptpSyncReceive domain l2 t1 t3 t4) s (servoSample b 2 off)) ∧
      (let f := { a.src 2 with flag := true }
       (runWithin f 16 1000 = false ∨ f.since ≠ none → Leaves (.ptpAnnounceReceive domain l2) s (a.setSrc 2 f)) ∧
       (runWithin f 16 1000 = true → f.since = none → Leaves (.ptpAnnounceReceive domain l2) s
         (reselect ((a.setSrc 2 f).setSrc 2 { f with since := some a.now })))))) ∧
  (∀ (s : State) (t : Nat) (falling ref : Bool),
    let a := s.m
    let u := a.upTo t
    let q := a.src 3
    let gap := u.now - q.last
    (falling ≠ a.b BT_PPS_CFG_falling → Leaves (.ppsEdge t falling ref) s a) ∧
    (falling = a.b BT_PPS_CFG_falling → a.beat.tod = none →
      let v := { u with beat := { u.beat with todNow := a.beat.todNow.map (· + 1) } }
      (srcOn a 3 = false → Leaves (.ppsEdge t falling ref) s v) ∧
      (srcOn a 3 = true → absDiff gap 1000000000 ≤ 100 →
        (q.since = none → ref = false → Leaves (.ppsEdge t falling ref) s (v.setSrc 3 { q with good := 0, flag := false, last := u.now })) ∧
        (q.since = none → ref = true → 1 ≤ q.good → q.good < 3 →
          Leaves (.ppsEdge t falling ref) s (v.setSrc 3 { q with good := q.good + 1, flag := true, last := u.now })) ∧
        (q.since = none → ref = true → 3 ≤ q.good → Ends (.ppsEdge t falling ref) s (fun m => srcQual m 3 = true ∧ (m.src 3).good = q.good + 1)) ∧
        (q.since ≠ none → 1 ≤ q.good →
          let w := v.setSrc 3 { q with good := q.good + 1, flag := ref, last := u.now }
          (∀ sec, a.beat.todNow = some sec → Leaves (.ppsEdge t falling ref) s
            (servoSample w 3 (Int.ofNat ((sec + 1) * 1000000000) - (Int.ofNat u.now - signed 16 (a.f BT_PPS_CFG_cable_ns))))) ∧
          (a.beat.todNow = none → Leaves (.ppsEdge t falling ref) s (servoFreq w 3 (Int.ofNat gap - 1000000000))))) ∧
      (srcOn a 3 = true → q.good ≠ 0 → 2500000000 ≤ gap → q.since ≠ none → ref = false → Ends (.ppsEdge t falling ref) s (fun m =>
        srcQual m 3 = false ∧ m.f BT_EVENT_pps_lost = 1 ∧ m.f BT_STATUS_src_sel ≠ 3)))) ∧
  (∀ (s : Mach) (c : Nat) (off : Int), s.f BT_STATUS_src_sel = c → off.natAbs < 2147483648 →
    let m := servoSample s c off
    signed 32 (m.f BT_OFFSET_offset_ns) = off ∧
    (1000000000 < off.natAbs → s.b BT_STATUS_beat_run = true → m.f BT_EVENT_offset_large = 1) ∧
    (s.f BT_STATUS_servo_state = 1 → s.b BT_STATUS_beat_run = false → stepThreshold s ≤ off.natAbs → m.now = (Int.ofNat s.now + off).toNat ∧ m.sub = 0 ∧
      m.f BT_STATUS_servo_state = 1 ∧ m.f BT_STATUS_time_valid = 1 ∧ m.beat.lockRun = 0) ∧
    (s.f BT_STATUS_servo_state = 1 → (s.b BT_STATUS_beat_run = true ∨ off.natAbs < stepThreshold s) → m.now = s.now ∧
      (off.natAbs < 100 → s.beat.lockRun < 15 → m.f BT_STATUS_servo_state = 1 ∧ m.beat.lockRun = s.beat.lockRun + 1) ∧
      (off.natAbs < 100 → 15 ≤ s.beat.lockRun → m.f BT_STATUS_servo_state = 2 ∧ m.f BT_STATUS_time_valid = 1 ∧ m.beat.lockedAt = some s.now) ∧
      (100 ≤ off.natAbs → m.f BT_STATUS_servo_state = 1 ∧ m.beat.lockRun = 0)) ∧
    (s.f BT_STATUS_servo_state = 2 → m.now = s.now ∧
      (1000 < off.natAbs → s.beat.offRun < 3 → m.f BT_STATUS_servo_state = 2 ∧ m.beat.offRun = s.beat.offRun + 1) ∧
      (off.natAbs ≤ 1000 → m.f BT_STATUS_servo_state = 2 ∧ m.beat.offRun = 0) ∧
      (1000 < off.natAbs → s.beat.offRun = 3 → m.f BT_STATUS_servo_state = 1 ∧ m.beat.lockedAt = none) ∧
      ((1000 < off.natAbs → s.beat.offRun < 3) → (freqWord m).natAbs ≤ 219902325 ∧
        (freqWord m - m.beat.integ).natAbs ≤ slewPpm s * 2 ^ 40 / 1000000)))

/-- SFP modules, bring-up, link frames, retransmission and received bursts of a ring port. A module inserted, removed, faulty or dark
moves the port's state; a port that searches shows the RS-FEC setting of its attempt; the lock held for 1 ms leads to training, and 8 good
link frames with an echo to up. A link frame carries the acknowledgement, the NAK, the skip number and the echo. A retransmission sends
every held frame again, in order, with its retry count. A burst is judged by its CRC, fragments are put together in order, and a lost
frame asks for a NAK. Clauses on the first numbers of a link and on the code 0b11 of RG_PORT_CFG.fec state the model's choice (log entry
74). Rests on R78 to R82, R87, R88, R97 to R99, R107 to R112, R675, R684, of which it states the part said here. -/
def Obligations.RingPortResults : Prop :=
  (∀ (s : State) (p : Fin 8),
    let a := s.m
    let st := a.f (RG_PORT_STATUS_state p)
    let down : Nat := if st = psTraining then psDown else st
    (∀ code, code < 256 → a.b (RG_PORT_CFG_enable p) = true → bitAt (a.f CT_CLAMP_ring_port) p = false → recalOn a p = false → 5 ∉ a.pw.held →
      Ends (.sfpInsert p code) s (fun m => m.f (RG_PORT_STATUS_state p) = (if st = psDisabled then psDown else st) ∧ m.f (RG_SFP_STATUS_present p) = 1 ∧
        m.f (RG_SFP_STATUS_tx_fault p) = 0 ∧ m.f (RG_SFP_STATUS_ext_code p) = code ∧ m.f (RG_SFP_STATUS_compliant p) = b2n (sfpCodes.contains code) ∧
        m.f (RG_SFP_STATUS_tx_disable p) = 0 ∧ m.f (RG_PORT_EVENT_sfp_inserted p) = 1 ∧
        OnlyRegs [RG_PORT_STATUS p, RG_SFP_STATUS p, RG_PORT_EVENT p] a m ∧ Only [.regs, .ring, .work] a m)) ∧
    (∀ code, st ≠ psUp → a.b (RG_PORT_CFG_enable p) = false → Ends (.sfpInsert p code) s (fun m => m.f (RG_PORT_STATUS_state p) = psDisabled ∧
        m.f (RG_SFP_STATUS_present p) = 1 ∧ m.f (RG_SFP_STATUS_tx_disable p) = 1 ∧ Only [.regs, .ring, .work] a m)) ∧
    (st ≠ psUp → Ends (.sfpRemove p) s (fun m => m.f (RG_PORT_STATUS_state p) = down ∧
        m.f (RG_SFP_STATUS_present p) = 0 ∧ m.f (RG_SFP_STATUS_compliant p) = 0 ∧ m.f (RG_SFP_STATUS_temp p) = 0 ∧
        m.f (RG_PORT_STATUS_block_lock p) = 0 ∧ m.f (RG_PORT_EVENT_sfp_removed p) = 1 ∧ (m.rport p).lockAt = none ∧
        OnlyRegs [RG_PORT_STATUS p, RG_SFP_STATUS p, RG_PORT_EVENT p] a m ∧ Only [.regs, .ring, .work] a m)) ∧
    (st ≠ psUp → a.b (RG_SFP_STATUS_present p) = true → Ends (.sfpTxFault p) s (fun m =>
        m.f (RG_PORT_STATUS_state p) = down ∧ m.f (RG_SFP_STATUS_tx_fault p) = 1 ∧
        m.f (RG_PORT_EVENT_sfp_fault p) = 1 ∧ m.f (RG_PORT_STATUS_block_lock p) = 0 ∧
        OnlyRegs [RG_PORT_STATUS p, RG_SFP_STATUS p, RG_PORT_EVENT p] a m ∧ Only [.regs, .ring, .work] a m)) ∧
    (a.b (RG_SFP_STATUS_present p) = false → Leaves (.sfpTxFault p) s a ∧ ∀ t, Leaves (.sfpTempPoll p t) s a) ∧
    (st ≠ psUp → Ends (.sfpLosAssert p) s (fun m => m.f (RG_PORT_STATUS_state p) = down ∧
        m.f (RG_SFP_STATUS_los p) = 1 ∧ m.f (RG_PORT_STATUS_block_lock p) = 0 ∧ OnlyRegs [RG_PORT_STATUS p, RG_SFP_STATUS p] a m ∧
        Only [.regs, .ring] a m)) ∧
    (∀ b, st ≠ psUp → Ends (.pcsLockLoss p b) s (fun m => m.f (RG_PORT_STATUS_state p) = down ∧
        m.f (RG_PORT_STATUS_hi_ber p) = b2n b ∧ m.f (RG_PORT_STATUS_block_lock p) = 0 ∧ OnlyRegs [RG_PORT_STATUS p] a m ∧
        Only [.regs, .ring] a m)) ∧
    (st ≠ psUp → Leaves (.portSilenceTimeout p) s a) ∧
    (st = psUp →
      Leaves (.sfpLosAssert p) s (portDown (noLock (a.setF (RG_SFP_STATUS_los p) 1) p) p 1) ∧
      (∀ b, Leaves (.pcsLockLoss p b) s (portDown ((noLock a p).setF (RG_PORT_STATUS_hi_ber p) (b2n b)) p 2)) ∧
      Leaves (.portSilenceTimeout p) s (portDown (noLock (a.upTo ((a.rport p).lastRx + 10000)) p) p 3)) ∧
    Ends (.sfpLosDeassert p) s (fun m => m.f (RG_SFP_STATUS_los p) = 0 ∧ m.f (RG_PORT_STATUS_state p) = st ∧
        (searching m p = true → (a.rport p).lockAt = none → m.f (RG_PORT_STATUS_fec_active p) = fecSetting a p ∧ (m.rport p).tryAt = a.now) ∧
        OnlyRegs [RG_SFP_STATUS p, RG_PORT_STATUS p] a m ∧ Only [.regs, .ring] a m) ∧
    (∀ t, a.b (RG_SFP_STATUS_present p) = true → Ends (.sfpTempPoll p t) s (fun m => m.f (RG_SFP_STATUS_temp p) = t.toNat ∧
        OnlyRegs [RG_SFP_STATUS p] a m ∧ Only [.regs] a m)) ∧
    (searching a p = true → (a.rport p).lockAt = none → Ends (.pcsBlockLock p) s (fun m => m.f (RG_PORT_STATUS_block_lock p) = 1 ∧
        m.f (RG_PORT_STATUS_fec_active p) = fecSetting a p ∧ m.f (RG_PORT_STATUS_fec_lock p) = fecSetting a p ∧ m.f (RG_PORT_STATUS_hi_ber p) = 0 ∧
        m.rport p = { a.rport p with lockAt := some a.now } ∧ OnlyRegs [RG_PORT_STATUS p] a m ∧ Only [.regs, .ring] a m)) ∧
    (searching a p = false ∨ (a.rport p).lockAt ≠ none → Leaves (.pcsBlockLock p) s a ∧ Leaves (.fecAutoAttemptExpire p) s a) ∧
    (searching a p = true → 2 ≤ a.f (RG_PORT_CFG_fec p) → (a.rport p).lockAt = none → Ends (.fecAutoAttemptExpire p) s (fun m =>
        m.f (RG_PORT_STATUS_fec_active p) = 1 - ((a.rport p).fecTry + 1) % 2 ∧ (m.rport p).fecTry = (a.rport p).fecTry + 1 ∧ (m.rport p).tryAt = m.now ∧
        (a.rport p).tryAt + 100000000 ≤ m.now ∧ OnlyRegs [RG_PORT_STATUS p] a m ∧ Only [.regs, .ring, .now, .sub, .cycles, .hSkew] a m)) ∧
    (a.f (RG_PORT_CFG_fec p) < 2 → fecSetting a p = a.f (RG_PORT_CFG_fec p) ∧ Leaves (.fecAutoAttemptExpire p) s a) ∧
    (∀ t, (a.rport p).lockAt = some t → st = psDown → a.b (RG_PORT_STATUS_hi_ber p) = false → Ends (.portLockHoldExpire p) s (fun m =>
        m.f (RG_PORT_STATUS_state p) = psTraining ∧ t + 1000000 ≤ m.now ∧ (m.rport p).trainAt = m.now ∧ (m.rport p).good = 0 ∧ (m.rport p).stamps = [] ∧
        OnlyRegs [RG_PORT_STATUS p] a m ∧ Only [.regs, .ring, .now, .sub, .cycles, .hSkew] a m)) ∧
    ((a.rport p).lockAt = none ∨ st ≠ psDown ∨ a.b (RG_PORT_STATUS_hi_ber p) = true → Leaves (.portLockHoldExpire p) s a) ∧
    (st = psTraining → Ends (.portTrainingTimeout p) s (fun m => m.f (RG_PORT_STATUS_state p) = psDown ∧
        (a.rport p).trainAt + 1000000 ≤ m.now ∧ m.f (RG_PORT_STATUS_block_lock p) = 0 ∧ OnlyRegs [RG_PORT_STATUS p] a m ∧
        Only [.regs, .ring, .now, .sub, .cycles, .hSkew] a m)) ∧
    (st ≠ psTraining → Leaves (.portTrainingTimeout p) s a)) ∧
  (∀ (s : State) (p : Fin 8) (n : Nat),
    let a := s.m
    let st := a.f (RG_PORT_STATUS_state p)
    let x := a.rport p
    let quiet := ∀ t ∈ x.tx, t.f.cls ≠ 0
    (st = psTraining ∨ st = psUp →
      Ends (.linkFrameSend p) s (fun m => ∃ (f : Frame) (l : List Out), m.out = a.out ++ l ++ [.burst p (wholeBurst f)] ∧ f.type = 0xF ∧
        f.seq = (x.rxNext + 65535) % 65536 ∧ bitAt f.flags 0 = x.nakDue ∧ bitAt f.flags 1 = x.skip.isSome ∧ f.acc = x.skip.getD 0 ∧
        f.launch = a.now % 2 ^ 32 ∧ f.retry = 0xFF ∧ f.word = (x.peer.map (fun q => q.1)).getD 0 ∧
        f.aux = (x.peer.map (fun q => (a.now - q.2) % 2 ^ 32)).getD 0 ∧
        (m.rport p).nakDue = false ∧ (m.rport p).ackDue = 0 ∧ (m.rport p).skip = none ∧ (m.rport p).stamps.head? = some f.launch ∧
        (quiet → l = [] ∧ OnlyRegs [RG_CNT p 8, RG_CNT p 18] a m ∧ Only [.regs, .ring, .out] a m))) ∧
    (st ≠ psTraining → st ≠ psUp → Leaves (.linkFrameSend p) s a ∧ (∀ f, Leaves (.linkFrameReceive p f n) s a) ∧
      (∀ l6 l7 bs, Leaves (.badFrameReceive p l6 l7 bs n) s a)) ∧
    (∀ f : Frame, f.type ≠ 0xF → Leaves (.linkFrameReceive p f n) s a) ∧
    (∀ f : Frame, f.type = 0xF → st = psTraining ∨ st = psUp → frameOk f = false → Ends (.linkFrameReceive p f n) s (fun m =>
        (m.rport p).good = 0 ∧ (m.rport p).rxNext = x.rxNext ∧ m.n (RG_CNT p 12) = (a.n (RG_CNT p 12) + 1) % 2 ^ 64 ∧
        m.n (RG_CNT p 25) = (a.n (RG_CNT p 25) + n) % 2 ^ 64 ∧ Only [.regs, .ring] a m)) ∧
    (∀ f : Frame, f.type = 0xF → frameOk f = true → fenceCheck a f = false →
      let t := (((a.add (RG_CNT p 25) n).inc (RG_CNT p 19)).add (RG_CNT p 9) 32).setF (RG_PORT_STATUS_peer p) f.src
      let v := linkEcho (t.setRport p { x with lastRx := a.now }) p f
      v.n (RG_LINK_RTT p) = (if f.word ∈ x.stamps then (a.now % 2 ^ 32 + 2 ^ 33 - f.word - f.aux) % 2 ^ 32 else a.n (RG_LINK_RTT p)) ∧
      (st = psTraining →
        let y := { x with lastRx := a.now, good := x.good + 1, echoed := x.echoed || x.stamps.contains f.word, peer := some (f.launch, a.now) }
        (x.good < 7 ∨ y.echoed = false → Leaves (.linkFrameReceive p f n) s (v.setRport p y)) ∧
        (7 ≤ x.good → y.echoed = true → Leaves (.linkFrameReceive p f n) s (portUpNow (v.setRport p y) p))) ∧
      (st = psUp →
        let y := { x with lastRx := a.now, peer := some (f.launch, a.now) }
        let u := if bitAt f.flags 1 then (v.setRport p y).setRport p { y with rxNext := f.acc % 65536 } else v.setRport p y
        let r := resolveAcked (linkAck u p f.seq).1 (linkAck u p f.seq).2
        (linkAck u p f.seq).2 = ((ackSplit x.replay f.seq).1).map (fun r => r.t) ∧
        ((linkAck u p f.seq).1.rport p).replay = (ackSplit x.replay f.seq).2 ∧
        Leaves (.linkFrameReceive p f n) s (if bitAt f.flags 0 then resendAll r p else r))) ∧
    (∀ r l, x.replay = r :: l → st = psUp →
      ((∀ y ∈ x.replay, y.retry < 3) → x.dropRun < 3 → x.cut = none → quiet → Ends (.replayTimeout p) s (fun m =>
        (m.rport p).replay = x.replay.map (fun y => { y with retry := y.retry + 1, sentAt := m.now }) ∧
        r.sentAt + a.n (RG_LINK_RTT p) + 10000 ≤ m.now ∧ m.f (RG_PORT_STATUS_replay p) = 1 ∧
        m.out = a.out ++ x.replay.map (fun y => .burst p (wholeBurst { y.t.f with lseq := y.lseq, retry := y.retry + 1 })) ∧
        Only [.regs, .ring, .out, .now, .sub, .cycles, .hSkew] a m)) ∧
      (x.cut ≠ none → x.dropRun < 3 → Ends (.replayTimeout p) s (fun m => m.rport p = { x with resendDue := true } ∧
        Only [.ring, .now, .sub, .cycles, .hSkew] a m))) ∧
    (x.replay = [] ∨ st ≠ psUp → Leaves (.replayTimeout p) s a) ∧
    (∀ (l6 l7 : BitVec 8) (bs : List Byte), st = psTraining ∨ st = psUp →
      let u := a.add (RG_CNT p 26) n
      let whole (t : Mach) (b : List Byte) : Prop :=
        (crcJudge b = .bad → Ends (.badFrameReceive p l6 l7 bs n) s (fun m => m.rport p = { t.rport p with nakDue := true, good := 0 } ∧
          m.n (RG_CNT p 10) = (a.n (RG_CNT p 10) + 1) % 2 ^ 64 ∧ OnlyRegs [RG_CNT p 10] t m ∧ Only [.regs, .ring] t m)) ∧
        (crcJudge b = .stomped → Ends (.badFrameReceive p l6 l7 bs n) s (fun m => m.rport p = { t.rport p with nakDue := true, good := 0 } ∧
          m.n (RG_CNT p 11) = (a.n (RG_CNT p 11) + 1) % 2 ^ 64 ∧ OnlyRegs [RG_CNT p 11] t m ∧ Only [.regs, .ring] t m)) ∧
        (crcJudge b = .good →
          let f := parseFrame b
          (frameOk f = true → b.length = f.bytes → Leaves (.badFrameReceive p l6 l7 bs n) s t) ∧
          (frameOk f = false ∨ b.length ≠ f.bytes → Ends (.badFrameReceive p l6 l7 bs n) s (fun m =>
            m.rport p = { t.rport p with good := 0, rxNext := if f.sequenced && f.lseq == x.rxNext then (x.rxNext + 1) % 65536 else x.rxNext } ∧
            m.n (RG_CNT p 12) = (a.n (RG_CNT p 12) + 1) % 2 ^ 64 ∧
            OnlyRegs [RG_CNT p (4 + f.cls % 4), RG_CNT p 9, RG_CNT p 12] t m ∧ Only [.regs, .ring] t m)))
      let broken : Prop := Ends (.badFrameReceive p l6 l7 bs n) s (fun m => m.rport p = { x with rxOpen := none, nakDue := true, good := 0 } ∧
        m.n (RG_CNT p 13) = (a.n (RG_CNT p 13) + 1) % 2 ^ 64 ∧ m.f (RG_PORT_EVENT_frag_error p) = 1 ∧
        OnlyRegs [RG_CNT p 26, RG_CNT p 13, RG_PORT_EVENT p] a m ∧ Only [.regs, .ring, .work] a m)
      (l6 = 0xD5 → x.rxOpen = none → whole u bs) ∧
      (l6 = 0xB3 → x.rxOpen = none → Leaves (.badFrameReceive p l6 l7 bs n) s (u.setRport p { x with rxOpen := some (bs, 0) })) ∧
      (l6 = 0xB3 → x.rxOpen ≠ none → Ends (.badFrameReceive p l6 l7 bs n) s (fun m => (m.rport p).rxOpen = some (bs, 0) ∧ (m.rport p).nakDue = true ∧
        m.n (RG_CNT p 13) = (a.n (RG_CNT p 13) + 1) % 2 ^ 64 ∧ Only [.regs, .ring, .work] a m)) ∧
      (l6 = 0x61 ∨ l6 = 0x7E → x.rxOpen = none → broken) ∧
      (∀ b k, x.rxOpen = some (b, k) →
        (l6 = 0x61 ∨ l6 = 0x7E → l7.toNat ≠ k + 1 → broken) ∧
        (l6 = 0x61 → l7.toNat = k + 1 → Leaves (.badFrameReceive p l6 l7 bs n) s (u.setRport p { x with rxOpen := some (b ++ bs, k + 1) })) ∧
        (l6 = 0x7E → l7.toNat = k + 1 → whole (u.setRport p { x with rxOpen := none }) (b ++ bs))) ∧
      (l6 ≠ 0xD5 → l6 ≠ 0xB3 → l6 ≠ 0x61 → l6 ≠ 0x7E → Leaves (.badFrameReceive p l6 l7 bs n) s u)))

/-- Sending and receiving frames. A port starts the first frame that may start, or its first bytes up to a cut, and the rest of a cut
frame follows; what arrives at a port that is not up, or fails a check, goes no further; a frame out of sequence is discarded and asks for
a NAK; the rest goes to the handler of its type. A standby passes frames on, and counts a copy of each vote. Clauses on the first numbers
of a link, on late-frame counts and on frames sent again state the model's choice (log entries 28, 73 and 74). Rests on R85 to R88, R98,
R103, R107, R109, R171, R185, R532, R573, of which it states the part said here. -/
def Obligations.FrameResults : Prop :=
  (∀ (s : State) (p : Fin 8) (t : TxFrame) (rest : List TxFrame),
    let a := s.m
    let x := a.rport p
    let f := { t.f with lseq := x.txNext, retry := 0 }
    a.portUp p = true → x.cut = none → x.resendDue = false → linkDue x = false → nextFrame a p = some (t, rest) → t.own = none → t.nominal = none →
    t.timed = none → t.ingress = none → t.f.type ≠ 0xA → t.f.sequenced = true → a.twin.origin2 = false → t.f.cls = 1 →
    (∀ cut, (∀ k, cut = some k → 64 * k = 0 ∨ t.f.bytes ≤ 64 * k) → Ends (.frameTransmit p cut) s (fun m =>
      m.out = a.out ++ [.burst p (wholeBurst f)] ∧ (m.rport p).tx = rest ∧ (m.rport p).txNext = (x.txNext + 1) % 65536 ∧
      (m.rport p).replay = x.replay ++ [⟨x.txNext, 0, a.now, { t with f := f }⟩] ∧
      OnlyRegs [RG_CNT p 1, RG_CNT p 8] a m ∧ Only [.regs, .ring, .out] a m)) ∧
    (∀ k, 1 ≤ k → 64 * k < t.f.bytes → (∀ u ∈ rest, u.f.cls ≠ 0) → Ends (.frameTransmit p (some k)) s (fun m =>
      m.out = a.out ++ [.burst p (fragment f 0 (64 * k) 0)] ∧ (m.rport p).tx = rest ∧ (m.rport p).cut = some (f, 64 * k, 1) ∧
      (m.rport p).txNext = (x.txNext + 1) % 65536 ∧ (m.rport p).replay = x.replay ++ [⟨x.txNext, 0, a.now, { t with f := f }⟩] ∧
      m.f (RG_PORT_STATUS_cut_open p) = 1 ∧ OnlyRegs [RG_CNT p 1, RG_CNT p 8, RG_CNT p 14, RG_PORT_STATUS p] a m ∧ Only [.regs, .ring, .out] a m))) ∧
  (∀ (s : State) (p : Fin 8) (f : Frame) (sent frag : Nat),
    let a := s.m
    let x := a.rport p
    (a.portUp p = false → x.resendDue = false → ∀ cut, Leaves (.frameTransmit p cut) s a) ∧
    (a.portUp p = true → x.cut = some (f, sent, frag) → x.resendDue = false → linkDue x = false → (∀ t ∈ x.tx, t.f.cls ≠ 0) →
      Ends (.frameTransmit p none) s (fun m => m.out = a.out ++ [.burst p (fragment f sent f.bytes frag)] ∧ m.rport p = { x with cut := none } ∧
        m.f (RG_PORT_STATUS_cut_open p) = 0 ∧ OnlyRegs [RG_PORT_STATUS p] a m ∧ Only [.regs, .ring, .out] a m) ∧
      (∀ k, sent < 64 * k → 64 * k < f.bytes → f.cls ≠ 0 → frag ≤ 15 → Ends (.frameTransmit p (some k)) s (fun m =>
        m.out = a.out ++ [.burst p (fragment f sent (64 * k) frag)] ∧ m.rport p = { x with cut := some (f, 64 * k, frag + 1) } ∧
        Only [.ring, .out] a m)))) ∧
  (∀ (a : Mach) (p : Nat) (f : Frame),
    (a.portUp p = false → rxFrame a p f = (false, a)) ∧
    (a.portUp p = true → frameOk f = false → (rxFrame a p f).1 = false ∧ (rxFrame a p f).2.n (RG_CNT p 12) = (a.n (RG_CNT p 12) + 1) % 2 ^ 64) ∧
    (a.portUp p = true → frameOk f = true → f.sequenced = true → f.lseq ≠ (a.rport p).rxNext → (rxFrame a p f).1 = false ∧
      ((rxFrame a p f).2.rport p).nakSent = true ∧ ((rxFrame a p f).2.rport p).rxNext = (a.rport p).rxNext ∧
      ((a.rport p).nakSent = false → ((rxFrame a p f).2.rport p).nakDue = true)) ∧
    (a.portUp p = true → frameOk f = true → transitHop a = true → (rxFrame a p f).1 = false)) ∧
  (∀ (s : State) (p : Fin 8) (f : Frame) (t : Mach),
    (rxFrame s.m p f = (false, t) → Leaves (.readResponseReceive p f) s t ∧ Leaves (.writeAckReceive p f) s t ∧ Leaves (.eventFrameTc2 p f) s t ∧
      (s.m.standby = false → Leaves (.imageInReceive p f) s t ∧ Leaves (.voteReceive p f) s t) ∧
      (s.m.standby = true → linkTakes s.m p f = true → (f.type = 0x9 → Leaves (.voteReceive p f) s (transitCopy t p f)) ∧
        (f.type = 0x2 → Leaves (.imageInReceive p f) s (transitCopy t p f)))) ∧
    (rxFrame s.m p f = (true, t) →
      (f.type = 0x2 →
        let v := if bitAt f.flags 0 then takeVote t f.src ((f.aux + 1) % 2 ^ 32) true else t
        (imageInOk v f = false → Leaves (.imageInReceive p f) s (v.inc (JN_CNT 3))) ∧
        (imageInOk v f = true → Leaves (.imageInReceive p f) s (imageInWrite v f))) ∧
      (f.type = 0x9 → votingMember t f.src = false → Leaves (.voteReceive p f) s (t.inc (SK_CNT 7))) ∧
      (f.type = 0x9 → votingMember t f.src = true → t.b BT_STATUS_beat_run = true → f.word = (voteBeat t + 1) % 2 ^ 32 →
        Ends (.voteReceive p f) s (fun m =>
          (bitAt f.flags 0 = true → f.src ∈ m.strike.yes ∧ m.strike.nay = t.strike.nay ∧ OnlyRegs [SK_CNT 3] t m) ∧
          (bitAt f.flags 0 = false → f.src ∈ m.strike.nay ∧ m.strike.yes = t.strike.yes ∧ m.f SK_EVENT_nay = 1 ∧
            OnlyRegs [SK_CNT 4, SK_EVENT] t m) ∧
          Only [.regs, .strike, .work] t m)) ∧
      (f.type = 0x9 → votingMember t f.src = true → t.b BT_STATUS_beat_run = true → f.word = voteBeat t →
        f.word ≠ (voteBeat t + 1) % 2 ^ 32 → Ends (.voteReceive p f) s (fun m => m.strike = t.strike ∧ m.f SK_EVENT_late_vote = 1 ∧
          OnlyRegs [SK_CNT 5, SK_EVENT] t m ∧ Only [.regs, .work] t m)) ∧
      (f.type = 0x9 → votingMember t f.src = true → (t.b BT_STATUS_beat_run = false ∨ (f.word ≠ voteBeat t ∧ f.word ≠ (voteBeat t + 1) % 2 ^ 32)) →
        Ends (.voteReceive p f) s (fun m => m.strike = t.strike ∧ m.f SK_EVENT_stale_vote = 1 ∧
          OnlyRegs [SK_CNT 6, SK_EVENT] t m ∧ Only [.regs, .work] t m)) ∧
      (f.type = 0x5 → findPiece t false f.src f.cls (f.aux % 65536) = none → Leaves (.readResponseReceive p f) s t) ∧
      (∀ b i, f.type = 0x5 → findPiece t false f.src f.cls (f.aux % 65536) = some (b, i) →
        let len := ((t.req b).bind (fun q => q.pieces[i]?)).map (fun z => z.len)
        (bitAt f.flags 1 = true → Leaves (.readResponseReceive p f) s (pieceEnd t b i (f.aux / 2 ^ 24 % 256) [] false)) ∧
        (bitAt f.flags 1 = false → len ≠ some f.len → Leaves (.readResponseReceive p f) s (pieceEnd t b i 0x05 [] false)) ∧
        (bitAt f.flags 1 = false → len = some f.len → t.diesJoined = false → Leaves (.readResponseReceive p f) s (lateResponse t b i f.payload)) ∧
        (bitAt f.flags 1 = false → len = some f.len → t.diesJoined = true → Leaves (.readResponseReceive p f) s (pieceEnd t b i 0 f.payload false))) ∧
      (∀ b i, f.type = 0x7 → findPiece t true f.src f.cls (f.aux % 65536) = some (b, i) →
        Leaves (.writeAckReceive p f) s (pieceEnd t b i (f.aux / 2 ^ 24 % 256) [] false)) ∧
      (f.type = 0x8 → f.cls = 2 → reservedId (f.word / 65536 % 65536) = false → f.word / 65536 % 65536 ∉ [0xFFE0, 0xFFF2, 0xFFF3] →
        Leaves (.eventFrameTc2 p f) s (postFenced t
          { ev := { id := f.word / 65536 % 65536, cond := f.word % 65536, source := f.src, time := t.now, payload := f.payload },
            src := f.src, at_ := t.now, beat := t.beatNum, tc2 := some f.seq, tc1 := some (f.aux / 65536 % 65536), tc3 := some (f.aux % 65536) })))) ∧
  (∀ (s : State) (p : Fin 8) (f : Frame) (t u : Mach), rxFront s.m p f = (true, t) → rxDiscard t p f = (true, u) → f.type = 0x8 → f.cls = 0 →
    reservedId (f.word / 65536 % 65536) = false → f.word / 65536 % 65536 ∉ [0xFFF0, 0xFFF1] →
    let c := tc0OnPort (tc0Wide u) p
    (c.2.twin.progress = false → c.1 = false → Leaves (.eventFrameTc0 p f none) s (tocsinServe c.2 (reflexOf c.2 (some p.val) f) 0 false)) ∧
    (c.2.twin.progress = false → c.1 = true → Leaves (.eventFrameTc0 p f none) s (queueBe c.2 p f)) ∧
    (c.2.twin.progress = true → c.2.tocsin.hold.length < 1024 → Ends (.eventFrameTc0 p f none) s (fun m =>
      m.tocsin = { c.2.tocsin with hold := c.2.tocsin.hold ++ [reflexOf c.2 (some p.val) f] } ∧ Only [.tocsin] c.2 m))) ∧
  (∀ (s : State) (p : Fin 8) (f : Frame) (t : Mach), rxFront s.m p f = (false, t) → Leaves (.eventFrameTc0 p f none) s t) ∧
  (∀ (s : State) (p : Fin 8) (f : Frame),
    (transitHop s.m = true → s.m.standby = false → f.type ≠ 0xF → f.type ≠ 0x1 → Leaves (.transitFrameForward p f) s (rxFrame s.m p f).2) ∧
    (transitHop s.m = true → s.m.standby = true → linkTakes s.m p f = true → f.type = 0x9 ∨ f.type = 0x2 →
      Leaves (.transitFrameForward p f) s (transitCopy (rxFrame s.m p f).2 p f)) ∧
    (transitHop s.m = false → Leaves (.transitFrameForward p f) s s.m)) ∧
  (∀ (s : State) (p : Fin 8) (f : Frame), f.isCal = true → s.m.portUp p = true → frameOk f = true → fenceCheck s.m f = false → transitHop s.m = false →
    let n := p.val / 2
    let g := rxGood s.m p f
    let x := g.rst n
    let v := (g.now - x.calSent) - resolveAcc f.acc (g.now - x.calSent) (halfSum g n (ringN g n))
    (x.calStage = 0 ∨ x.calStage = 3 → Leaves (.calDownbeatReceive p f) s g) ∧
    (x.calStage = 1 → p.val % 2 = 1 → Leaves (.calDownbeatReceive p f) s
      (sendCal (g.setRst n { x with calStage := 2, calC := v, calSent := g.now }) n true)) ∧
    (x.calStage = 2 → p.val % 2 = 0 → Leaves (.calDownbeatReceive p f) s
      (finishCal (((g.setF (BT_LOOP_cw n) (16 * x.calC)).setF (BT_LOOP_ccw n) (16 * v)).setRst n { x with loop := some (x.calC, v) }) n)))

/-- Enumeration, measurement and adoption. A run starts with a probe out of the first module port that is up; an answer's hops and round
trip give its position, and that its number; a delay-answer gives the round trip of its segment; what is not answered is repeated, at most
three times in all, and then given up. A probe that comes back at the other module port closes the run. A started calibration measures
every station, then the loop. Clauses on the coupler word, tier-2 rings, clamped entries and range_full state the model's choice (log
entries 62, 64 and 78). Rests on R126 to R133, R136, R139, R59, R685, of which it states the part said here. -/
def Obligations.EnumerationResults : Prop :=
  (∀ (s : State) (r : Fin 4),
    let a := s.m.setF ST_ENUM_CTRL_ring r.val
    let west := !s.m.portUp (2 * r.val)
    let p := 2 * r.val + b2n west
    (mayEnum s.m r = true → (s.m.rst r).run.want = 0 → Ends (.enumStart r) s (fun m => (m.rst r).run.want = 1 ∧
      (m.rst r).run.west = west ∧ (m.rst r).run.sentAt = s.m.now ∧ m.f (RG_RING_STATUS_enumerating r) = 1 ∧ m.f ST_ENUM_CTRL_busy = 1 ∧
      (s.m.portUp p = true → s.m.mute = false → ∃ t, (m.rport p).tx = (s.m.rport p).tx ++ [t] ∧ t.f.type = 0xA ∧ t.f.cls = 2 ∧ t.f.dest = 0x3FFF ∧ t.f.word = 1) ∧
      (s.m.portUp p = false → (m.rport p).tx = (s.m.rport p).tx) ∧
      OnlyRegs [RG_RING_STATUS r, RG_RING_CNT r 4, ST_ENUM_CTRL] s.m m ∧ Only [.regs, .ring] s.m m)) ∧
    (mayEnum s.m r = true → (s.m.rst r).run.want ≠ 0 → Leaves (.enumStart r) s (a.setRst r { a.rst r with again := true })) ∧
    (mayEnum s.m r = false → Leaves (.enumStart r) s a) ∧
    ((s.m.rst r).run.want ≠ 1 → Leaves (.enumProbeTimeout r) s s.m) ∧
    (∀ t, t = s.m.upTo ((s.m.rst r).run.sentAt + 5000000) → (s.m.rst r).run.want = 1 →
      ((s.m.rst r).run.tier2 = none → (s.m.rst r).run.west = false → t.portUp (2 * r.val + 1) = true →
        Leaves (.enumProbeTimeout r) s (sendProbe t r true)) ∧
      ((s.m.rst r).run.tier2 = none → ((s.m.rst r).run.west = true ∨ t.portUp (2 * r.val + 1) = false) →
        Leaves (.enumProbeTimeout r) s (enumEnd t r)) ∧
      (∀ c i, (s.m.rst r).run.tier2 = some (c, i) → Leaves (.enumProbeTimeout r) s (tier2Select (enumEnd t r) c (i + 1))))) ∧
  (∀ (s : State) (p : Fin 8) (f : Frame) (ok : Bool) (t : Mach), rxFrame s.m p f = (ok, t) →
    let n := p.val / 2
    let r := (t.rst n).run
    (ok = false ∨ f.type ≠ 0xA ∨ f.word % 256 ≠ 2 ∨ r.want ≠ 1 ∨ (r.tier2 = none ∧ p.val % 2 ≠ b2n r.west) → Leaves (.enumAnswerReceive p f) s t) ∧
    (ok = true → f.type = 0xA → f.word % 256 = 2 → r.want = 1 → r.tier2 ≠ none → Leaves (.enumAnswerReceive p f) s (enumAnswer t p f)) ∧
    (∀ pos, ok = true → f.type = 0xA → f.word % 256 = 2 → r.want = 1 → r.tier2 = none → p.val % 2 = b2n r.west → r.west = true → nRef t n = 0 →
      resolvePos t n f.hops (t.now - r.sentAt - f.acc) true = some pos → Leaves (.enumAnswerReceive p f) s (enumEnd t n)) ∧
    (ok = true → f.type = 0xA → f.word % 256 = 2 → r.want = 1 → r.tier2 = none → p.val % 2 = b2n r.west → (r.west = true → nRef t n ≠ 0) →
      let l := t.now - r.sentAt - f.acc
      (resolvePos t n f.hops l r.west = none → Leaves (.enumAnswerReceive p f) s (enumEnd (t.logE { cause := 0x0302, detail := Config.packDetail [n, f.hops, l] }) n)) ∧
      (∀ pos, resolvePos t n f.hops l r.west = some pos → (chooseNumber t n pos (ansOf f)).2 = none →
        Leaves (.enumAnswerReceive p f) s (enumEnd (chooseNumber t n pos (ansOf f)).1 n)) ∧
      (∀ pos k, resolvePos t n f.hops l r.west = some pos → (chooseNumber t n pos (ansOf f)).2 = some k →
        Ends (.enumAnswerReceive p f) s (fun m => (m.rst n).run.want = 2 ∧ (m.rst n).run.num = k ∧ (m.rst n).run.port = p.val ∧
          (m.rst n).run.tries = 1 ∧ (m.rst n).run.tier2 = none ∧ (m.rst n).run.west = r.west))) ∧
    (ok = false ∨ f.type ≠ 0xA ∨ f.word % 256 ≠ 5 → Leaves (.delayAnswerReceive p f) s t) ∧
    (ok = true → f.type = 0xA → f.word % 256 = 5 →
      let key := keyOf t f.src
      let west := p.val % 2 == 1 && decide (key < 4)
      let pos := t.f (ST_W0_position f.src)
      let l := answerL t key pos f west (parentPart t key (p.val % 2 == 1))
      let u := recordHop t key pos l.1 west
      let v := u.setRst key { u.rst key with resid := mapIns (u.rst key).resid (pos * 2 + b2n west) l.2 }
      let open_ (a : Adopt) : Bool := a.sent && exchangeWith a f.src && (a.step != 8 && a.step != 11 || p.val % 2 == 1) &&
        (a.step != 2 || a.idx == 0 || decide (4 ≤ key) || a.chunk == p.val % 2)
      (r.want = 2 → r.num = f.src → ∀ z, z = (if adoptFree v f.src then adoptFarHop (putAdopt v { stn := f.src, step := 2 }) f.src key west else v) →
        (r.tier2 = none → Leaves (.delayAnswerReceive p f) s (sendProbe z n r.west)) ∧
        (∀ c i, r.tier2 = some (c, i) → Leaves (.delayAnswerReceive p f) s (tier2Probe z n c i))) ∧
      (r.want ≠ 2 ∨ r.num ≠ f.src →
        (t.ring.adopts.find? open_ = none → Leaves (.delayAnswerReceive p f) s t) ∧
        (∀ a, t.ring.adopts.find? open_ = some a →
          (a.step = 8 → Leaves (.delayAnswerReceive p f) s (startCal (delAdopt v a) n 1)) ∧
          (a.step = 9 ∨ a.step = 11 → Leaves (.delayAnswerReceive p f) s (calAfterHops (delAdopt v a) n)) ∧
          (a.step = 2 → a.idx = 0 → Leaves (.delayAnswerReceive p f) s (adoptFarHop v a.stn key west)) ∧
          (a.step = 2 → a.idx ≠ 0 → Leaves (.delayAnswerReceive p f) s (adoptAfterHop v a.stn)))))) ∧
  (∀ (s : State) (p : Fin 8) (f : Frame),
    let c := closeOpen s.m p f.cls
    let q := rxSequence (rxGood c p f) p f
    let v := fenceStep q.2 p f
    let n := p.val / 2
    let w := closeRun v n f.hops
    (s.m.portUp p = false ∨ f.type ≠ 0xA ∨ f.word % 256 ≠ 1 ∨ f.src ≠ 0 → Leaves (.enumProbeReturn p f) s s.m) ∧
    (s.m.portUp p = true → f.type = 0xA → f.word % 256 = 1 → f.src = 0 →
      (frameOk f = false → Leaves (.enumProbeReturn p f) s (badFrame c p f)) ∧
      (frameOk f = true → q.1 = false → Leaves (.enumProbeReturn p f) s q.2) ∧
      (frameOk f = true → q.1 = true → transitHop v = true → Leaves (.enumProbeReturn p f) s (forward v p f)) ∧
      (frameOk f = true → q.1 = true → transitHop v = false →
        ((v.rst n).run.want ≠ 1 ∨ (v.rst n).run.tier2 ≠ none ∨ p.val % 2 ≠ b2n (!(v.rst n).run.west) → Leaves (.enumProbeReturn p f) s v) ∧
        ((v.rst n).run.want = 1 → (v.rst n).run.tier2 = none → p.val % 2 = b2n (!(v.rst n).run.west) →
          (w.b BT_STATUS_beat_run = true ∨ (failedNow w n).isEmpty = false ∨ w.f (RG_RING_STATUS_state n) = 1 → Leaves (.enumProbeReturn p f) s w) ∧
          (w.b BT_STATUS_beat_run = false → (failedNow w n).isEmpty = true → w.f (RG_RING_STATUS_state n) ≠ 1 → Leaves (.enumProbeReturn p f) s (ringClose w n)))))) ∧
  (∀ (s : State) (k : BitVec 14),
    let n := s.m.stRing k.toNat
    let r := (s.m.rst n).run
    let t := s.m.upTo (r.sentAt + 5000000)
    let e : LogEntry := { cause := 0x0303, station := k.toNat, detail := k.toNat }
    (r.want = 2 → r.num = k.toNat → r.tries < 3 → Leaves (.delayRequestTimeout k) s
      (sendDelayReq (t.setRst n { t.rst n with run := { r with tries := r.tries + 1, sentAt := t.now } }) k.toNat n r.port)) ∧
    (r.want = 2 → r.num = k.toNat → 3 ≤ r.tries → r.tier2 = none → Leaves (.delayRequestTimeout k) s (enumEnd (t.logE e) n)) ∧
    (∀ c i, r.want = 2 → r.num = k.toNat → 3 ≤ r.tries → r.tier2 = some (c, i) →
      Leaves (.delayRequestTimeout k) s (tier2Select (enumEnd (t.logE e) n) c (i + 1))) ∧
    (r.want ≠ 2 ∨ r.num ≠ k.toNat →
      (s.m.ring.adopts.find? (fun a => a.sent && exchangeWith a k.toNat) = none → Leaves (.delayRequestTimeout k) s s.m) ∧
      (∀ a, s.m.ring.adopts.find? (fun a => a.sent && exchangeWith a k.toNat) = some a →
        let u := s.m.upTo (a.sentAt + 5000000)
        let g := (delAdopt u a).logE e
        (a.tries < 2 → Leaves (.delayRequestTimeout k) s (adoptSend (delAdopt u a) { a with tries := a.tries + 1, sent := false })) ∧
        (2 ≤ a.tries → a.step = 8 → Leaves (.delayRequestTimeout k) s (startCal g n 1)) ∧
        (2 ≤ a.tries → a.step = 9 ∨ a.step = 11 → Leaves (.delayRequestTimeout k) s (calAfterHops g n)) ∧
        (2 ≤ a.tries → a.step = 2 → a.idx = 0 → Leaves (.delayRequestTimeout k) s g) ∧
        (2 ≤ a.tries → a.step = 2 → a.idx ≠ 0 → Leaves (.delayRequestTimeout k) s (adoptAfterHop g a.stn)))) ∧
    (overdueWrite s.m k.toNat = none → Leaves (.adoptionStepTimeout k) s s.m) ∧
    (∀ a : Adopt, overdueWrite s.m k.toNat = some a →
      let g := (delAdopt s.m a).logE { cause := 0x0301, station := a.stn, detail := Config.packDetail [if a.step = 4 then 4 else 5, 0xFF] }
      (a.tries < 2 → Leaves (.adoptionStepTimeout k) s
        (adoptSend (delAdopt s.m a) { a with tries := a.tries + 1, chunk := 0, sent := false, status := 0xFF })) ∧
      (2 ≤ a.tries → a.step = 4 ∨ a.step = 5 → Leaves (.adoptionStepTimeout k) s
        (((dropAdopt g a.stn).inc (RG_RING_CNT (g.stRing a.stn) 7)).raiseStn ST_EVENT_replay_fail a.stn)) ∧
      (2 ≤ a.tries → a.step = 6 → Leaves (.adoptionStepTimeout k) s g) ∧
      (2 ≤ a.tries → a.step = 7 → Leaves (.adoptionStepTimeout k) s (tier2Select (delAdopt s.m a) a.stn (a.idx + 1))))) ∧
  (∀ (s : State) (r : Fin 4),
    let a := s.m.setF BT_CAL_CTRL_ring r.val
    let here := (a.ringStations r).filter (fun k => a.f (ST_W1_state k) != 0 && a.f (ST_W1_state k) != 5)
    let b := (a.setRst r { a.rst r with calStage := 4, calMode := 1 }).setF BT_CAL_CTRL_busy 1
    Leaves (.calibrateRing r) s (calAfterHops (lastSegment (here.foldl (fun t k => adoptSend t { stn := k, step := 9 }) b) r) r) ∧
    (s.m.ringStations r = [] → s.m.ring.adopts = [] → s.m.portUp (2 * r.val) = true → s.m.portUp (2 * r.val + 1) = true →
      Ends (.calibrateRing r) s (fun m => (m.rst r).calStage = 1 ∧ (m.rst r).calMode = 1 ∧ (m.rst r).calSent = s.m.now ∧ m.f BT_CAL_CTRL_busy = 1 ∧
        m.f BT_CAL_CTRL_ring = r.val ∧ OnlyRegs [BT_CAL_CTRL] s.m m ∧ Only [.regs, .ring] s.m m)))

/-- Station states, reroutes and forced holds. A station of which no frame came between four strikes becomes absent; a clamp takes effect
at once, discards the station's votes and withdraws its frames, and is released to discovered; while beats are off a break is rerouted 2
µs after its detection; a changed route opens after its wait. Clauses on timeouts counted in beats and on held stations state the model's
choice (log entries 63 and 78). Rests on R16, R134, R135, R150, R151, R153, R165, of which it states the part said here. -/
def Obligations.StationResults : Prop :=
  (∀ (s : State) (k : BitVec 14),
    let st := s.m.f (ST_W1_state k.toNat)
    let g := stnAbsent s.m k.toNat
    let u := if st = 0 then rxForget s.m k.toNat else s.m
    let v : Mach := { u with strike := { u.strike with yes := u.strike.yes.filter (fun j => j != k.toNat), nay := u.strike.nay.filter (fun j => j != k.toNat) } }
    (s.m.stValid k.toNat = false → Leaves (.stationAbsentTimeout k) s s.m ∧ Leaves (.stClampSet k) s s.m ∧ Leaves (.stClampClr k) s s.m) ∧
    (s.m.stValid k.toNat = true →
      (1 ≤ st → st ≤ 4 → 4 ≤ silentFor s.m k.toNat → transitHop s.m = false → Leaves (.stationAbsentTimeout k) s g ∧ g.f (ST_W1_state k.toNat) = 0 ∧
        g.f (ST_W1_type_mismatch k.toNat) = 0 ∧ g.f ST_EVENT_absent = 1 ∧ g.f ST_EVENT_STN_station = k.toNat) ∧
      (st = 0 ∨ 5 ≤ st ∨ silentFor s.m k.toNat < 4 ∨ transitHop s.m = true → Leaves (.stationAbsentTimeout k) s s.m) ∧
      (st ≠ 5 → Leaves (.stClampSet k) s (withdrawEnd (setStn (dropAdopt v k.toNat) k.toNat 5) k.toNat)) ∧
      (st ≠ 5 → s.m.reqs = [] → Ends (.stClampSet k) s (fun m => m.f (ST_W1_state k.toNat) = 5 ∧ m.f (ST_W1_clamped k.toNat) = 1 ∧
        k.toNat ∉ m.strike.yes ∧ k.toNat ∉ m.strike.nay ∧ (∀ a ∈ m.ring.adopts, a.stn ≠ k.toNat) ∧
        (∀ p, p < 8 → ∀ t ∈ (m.rport p).tx, barredFrame m k.toNat t = false))) ∧
      (st = 5 → Leaves (.stClampSet k) s s.m) ∧
      (st ≠ 5 → Leaves (.stClampClr k) s s.m) ∧
      (st = 5 → Leaves (.stClampClr k) s (readopt (setStn s.m k.toNat 1) k.toNat)) ∧
      (st = 5 → k.toNat ∈ s.m.ring.stopped → Ends (.stClampClr k) s (fun m => m.f (ST_W1_state k.toNat) = 1 ∧
        m.f (ST_W1_clamped k.toNat) = 0 ∧ (∀ x ∈ m.ring.rx, x.1 / 8 ≠ k.toNat))))) ∧
  (∀ (s : State) (r : Fin 4),
    ((s.m.rst r).detect = [] → Leaves (.rerouteTimerExpire r) s s.m) ∧
    (∀ d l, (s.m.rst r).detect = d :: l →
      let t := s.m.upTo (d.2 + 2000)
      (s.m.b BT_STATUS_beat_run = true → Leaves (.rerouteTimerExpire r) s s.m) ∧
      (s.m.b BT_STATUS_beat_run = false → Leaves (.rerouteTimerExpire r) s (calResume (adoptPump (reroute t r (rerouteDue t r))) r)) ∧
      (s.m.b BT_STATUS_beat_run = false → s.m.reqs = [] → (s.m.rst r).held = [] → (s.m.rst r).own = [] → s.m.ring.adopts = [] → (s.m.rst r).calStage = 0 →
        (∀ n, n < 4 → (s.m.rst n).doneDue = false) → Ends (.rerouteTimerExpire r) s (fun m => d.2 + 2000 ≤ m.now ∧
          (∀ x ∈ (m.rst r).detect, m.now < x.2 + 2000) ∧ (∀ j, j ∈ (m.rst r).avoid ↔ j ∈ (s.m.rst r).avoid ∨ ∃ x ∈ (s.m.rst r).detect, x.1 = j ∧ x.2 + 2000 ≤ m.now) ∧
          m.f (RG_RING_EVENT_reroute r) = 1 ∧ OnlyRegs [RG_RING_CNT r 3, RG_RING_EVENT r] s.m m ∧
          Only [.regs, .ring, .work, .now, .sub, .cycles, .hSkew] s.m m)))) ∧
  (∀ (s : State) (k : BitVec 14),
    (s.m.ring.wait.find? (fun w => w.1 == k.toNat) = none → Leaves (.routeChangeWaitExpire k) s s.m) ∧
    (∀ w : Nat × Nat, s.m.ring.wait.find? (fun w => w.1 == k.toNat) = some w →
      let t := s.m.upTo w.2
      Leaves (.routeChangeWaitExpire k) s (pushWaiting { t with ring := { t.ring with wait := t.ring.wait.filter (fun w => w.1 != k.toNat) } }) ∧
      (s.m.reqs = [] → Ends (.routeChangeWaitExpire k) s (fun m => w.2 ≤ m.now ∧ m.ring.wait = s.m.ring.wait.filter (fun w => w.1 != k.toNat) ∧
        Only [.ring, .now, .sub, .cycles, .hSkew] s.m m)))) ∧
  (∀ (s : State) (k : Fin 4) (v : U64), Ends (.skForceHoldWrite k v) s (fun m => m.r (SK_FORCE_HOLD k.val) = v ∧
    OnlyRegs [SK_FORCE_HOLD k.val] s.m m ∧ Only [.regs] s.m m))

/-- Starting, stopping, clamping and migrating engines, writing their instruction SRAM, their bindings and the exceptions no instruction
raises. An engine starts in init at supervisor level at its start address; a budget that runs out is reported once for its activation; a
phase binding fires once in each beat that suits it and is dispatched to an idle engine with its number, beat and time. Clauses on what a
start or a dispatch changes state the model's choice (log entries 3 and 40). Rests on R197 to R209, R211, R216 to R222, of which it states
the part said here. -/
def Obligations.EngineControlResults : Prop :=
  (∀ (s : State) (e : Fin 64),
    let x := s.m.eng e
    let others (m : Mach) : Prop := ∀ k, k ≠ e.val → m.eng k = s.m.eng k
    let y : Engine := { x with state := 1, level := 1, caps := 0, budget := 0, stopReq := false, wait := .none, arch := { x.arch with pc := s.m.f (EN_START_PC_word e) * 4 } }
    (x.state = 0 ∨ x.state = 5 ∨ x.state = 6 → Leaves (.engineStart e) s (asyncCheck (s.m.setEng e y) e)) ∧
    (x.state = 0 ∨ x.state = 5 ∨ x.state = 6 → NoneDue x → Ends (.engineStart e) s (fun m => m.eng e = y ∧ others m ∧ Only [.engines] s.m m)) ∧
    (x.state ≠ 0 ∧ x.state ≠ 5 ∧ x.state ≠ 6 → Leaves (.engineStart e) s s.m) ∧
    (1 ≤ x.state → x.state ≤ 6 → Leaves (.engineStop e) s ((haltIssue s.m e).updEng e (fun x => { x with stopReq := true, binds := [] }))) ∧
    (x.state = 0 ∨ 7 ≤ x.state → Leaves (.engineStop e) s s.m) ∧
    (x.stopReq = true → x.sb = [] → s.m.mig = none → Ends (.engineStopComplete e) s (fun m => (m.eng e).state = 0 ∧ (m.eng e).stopReq = false ∧
      (m.eng e).active = none ∧ (m.eng e).arch = x.arch ∧ others m ∧ OnlyRegs [EN_CNT e 3] s.m m ∧ Only [.regs, .engines] s.m m)) ∧
    (x.stopReq = true → x.sb = [] → Leaves (.engineStopComplete e) s
      (migrateCheck ((leaveAct s.m e).updEng e (fun x => { x with state := 0, stopReq := false, active := none, overrunDue := false, restAt := s.m.cycles })))) ∧
    (x.stopReq = false ∨ x.sb ≠ [] → Leaves (.engineStopComplete e) s s.m) ∧
    ((x.state ≠ 3 ∧ x.state ≠ 4) ∨ x.budget = 0 → Leaves (.budgetExpire e) s s.m) ∧
    (x.state = 3 ∨ x.state = 4 → x.budget ≠ 0 →
      (x.overran = true → Ends (.budgetExpire e) s (fun m => (m.eng e).budget = 0 ∧ others m ∧ s.m.cycles + x.budgetLeft s.m.cycles ≤ m.cycles ∧
        Only [.engines, .now, .sub, .cycles, .hSkew] s.m m)) ∧
      (x.overran = false → ∀ t, t = s.m.upToC (s.m.cycles + x.budgetLeft s.m.cycles) → Leaves (.budgetExpire e) s
        (asyncCheck (((t.inc (EN_CNT e 7)).raiseEng EN_EVENT_budget e).updEng e
          (fun x => { x with budget := 0, budgetAt := t.cycles, overrunDue := true, overran := true })) e)) ∧
      (x.overran = false → x.ie = 1 → x.fabErrDue = false → x.mcDue = false → x.rob = [] → x.wait = .none → Ends (.budgetExpire e) s (fun m =>
        (m.eng e).budget = 0 ∧ (m.eng e).overran = true ∧ (m.eng e).overrunDue = false ∧ (m.eng e).ecause = 0x2D + 64 * x.bindNo ∧ (m.eng e).epc = x.arch.pc ∧
        (m.eng e).arch.pc = (x.vbase + 0x1A0) % 0x10000 ∧ (m.eng e).level = 1 ∧ (m.eng e).ie = 0 ∧ m.f EN_EVENT_budget = 1 ∧
        m.n (EN_CNT e 7) = (s.m.n (EN_CNT e 7) + 1) % 2 ^ 64 ∧ s.m.cycles + x.budgetLeft s.m.cycles ≤ m.cycles ∧ others m)) ∧
      (x.overran = false → x.ie ≠ 1 → x.mcDue = false → Ends (.budgetExpire e) s (fun m => (m.eng e).budget = 0 ∧ (m.eng e).overrunDue = true ∧
        (m.eng e).overran = true ∧ (m.eng e).arch = x.arch ∧ m.f EN_EVENT_budget = 1 ∧ m.n (EN_CNT e 7) = (s.m.n (EN_CNT e 7) + 1) % 2 ^ 64 ∧
        s.m.cycles + x.budgetLeft s.m.cycles ≤ m.cycles ∧ others m))) ∧
    Leaves (.machineCheck e) s (asyncCheck (s.m.updEng e (fun x => { x with mcDue := true })) e) ∧
    (x.state = 1 ∨ x.state = 3 ∨ x.state = 4 → x.rob = [] → x.wait = .none →
      (x.inExc ≠ 1 → Ends (.machineCheck e) s (fun m => (m.eng e).ecause = 33 + 64 * x.bindNo ∧ (m.eng e).arch.pc = (x.vbase + 0x20) % 0x10000 ∧
        (m.eng e).epc = x.arch.pc ∧ (m.eng e).level = 1 ∧ (m.eng e).ie = 0 ∧ (m.eng e).inExc = 1 ∧ m.f EN_EVENT_machine_check = 1 ∧ others m)) ∧
      (x.inExc = 1 → Ends (.machineCheck e) s (fun m => (m.eng e).state = 6 ∧ m.f EN_EVENT_double_fault = 1 ∧ others m))) ∧
    (x.state ≠ 1 → x.state ≠ 3 → x.state ≠ 4 → Ends (.machineCheck e) s (fun m => m.eng e = { x with mcDue := true } ∧ others m ∧ Only [.engines] s.m m))) ∧
  (∀ (s : State) (c : Fin 16) (b : Bool),
    (s.m.b (EN_CL_CLAMP_clamp c) = b → Leaves (.clusterClamp c b) s s.m) ∧
    (s.m.b (EN_CL_CLAMP_clamp c) = false → Leaves (.clusterClamp c true) s (clusterClamp s.m c)) ∧
    (s.m.b (EN_CL_CLAMP_clamp c) = true → Ends (.clusterClamp c false) s (fun m => m.b (EN_CL_CLAMP_clamp c) = false ∧
      ∀ e, e / 4 = c.val → (m.eng e).state = 0))) ∧
  (∀ (s : State) (e : Fin 64) (a : BitVec 16) (d : List Byte),
    let st := (s.m.eng e).state
    let o := 0x2000000 + e.val * 0x10000 + a.toNat
    let good : Prop := a.toNat % 4 = 0 ∧ d.length % 4 = 0 ∧ 0 < d.length ∧ d.length ≤ 512 ∧ a.toNat % 4096 + d.length ≤ 4096
    (barsOpen s.m = false → Leaves (.isramWrite e a d) s s.m) ∧
    (barsOpen s.m = true → ¬ good → Leaves (.isramWrite e a d) s (badBar0Write s.m 0x40 o)) ∧
    (barsOpen s.m = true → good → mpuCheck s.m 0x40 true needW (0x40000000 + o) d.length = (s.m, none) →
      let r := s.m.clRouter (e / 4)
      (s.m.port r = 2 → Leaves (.isramWrite e a d) s (nocAbsorb s.m r 0x40 none)) ∧
      (s.m.port r ≠ 0 → s.m.port r ≠ 2 → Leaves (.isramWrite e a d) s
        (let w : Mach := { s.m with noc := { s.m.noc with waiting := s.m.noc.waiting ++ [⟨r, 0x40, o, d.length, leNat d, true, none⟩] } }
         wakeRelease ((w.satF (NC_PORT_STATUS_waiting r)).setF (NC_PORT_STATUS_wake_req r) 1) (e / 4))) ∧
      (s.m.port r = 0 → st = 0 ∨ 5 ≤ st → Leaves (.isramWrite e a d) s { s.m with isram := mapSetRange memReset s.m.isram (isrKey e a.toNat) d }) ∧
      (s.m.port r = 0 → 1 ≤ st → st ≤ 4 → Ends (.isramWrite e a d) s (fun m => m.isram = s.m.isram ∧ m.f EN_EVENT_isram_refused = 1 ∧
        m.f EN_EVENT_ENG_engine = e.val)))) ∧
  (∀ (s : State) (src : Fin 16),
    let a := s.m.setF EN_MIGRATE_source src.val
    (migrateRefusal a src ≠ 0 → Ends (.migrateRequest src) s (fun m => m.f EN_MIGRATE_result = migrateRefusal a src ∧ m.mig = s.m.mig ∧
      m.f EN_EVENT_migrate_refused = 1)) ∧
    (migrateRefusal a src = 0 → s.m.b BT_CTRL_beat_en = true → Ends (.migrateRequest src) s (fun m => m.f EN_MIGRATE_busy = 1 ∧
      m.mig = some { src := src.val, spare := s.m.f EN_SPARE_cluster, test := false } ∧ OnlyRegs [EN_MIGRATE] s.m m ∧ Only [.regs, .mig] s.m m)) ∧
    (migrateRefusal a src = 0 → s.m.b BT_CTRL_beat_en = false → Leaves (.migrateRequest src) s
      (migrateStart { a.setF EN_MIGRATE_busy 1 with mig := some { src := src.val, spare := a.f EN_SPARE_cluster, test := false } }))) ∧
  (∀ (s : State),
    ((∀ g, s.m.mig = some g → g.phase ≠ 1) → Leaves .migrationGraceExpire s s.m) ∧
    ((∀ g, s.m.mig = some g → g.phase ≠ 2) → Leaves .migrationCopyDone s s.m) ∧
    (∀ g r, s.m.mig = some g → g.phase = 1 → s.m.test.run = some r → g.test = true → r.moving = true →
      Leaves .migrationGraceExpire s (testNext (testCode (migrateAbandon s.m) 0xA))) ∧
    (∀ g, s.m.mig = some g → g.phase = 1 → (∀ r, s.m.test.run = some r → g.test = false ∨ r.moving = false) → Ends .migrationGraceExpire s (fun m => m.mig = none ∧
      m.f EN_MIGRATE_result = 5 ∧ m.f EN_MIGRATE_busy = 0 ∧ m.f EN_EVENT_migrate_refused = 1 ∧ g.at_ + graceNs s.m ≤ m.cycles)) ∧
    (∀ g, s.m.mig = some g → g.phase = 2 → g.src < 16 → g.spare < 16 → g.src ≠ g.spare → Ends .migrationCopyDone s (fun m => m.mig = none ∧
      m.f EN_MIGRATE_result = 1 ∧ m.f EN_MIGRATE_busy = 0 ∧ m.f EN_EVENT_migrate_done = 1 ∧ m.phys g.src = s.m.phys g.spare ∧
      m.phys g.spare = s.m.phys g.src ∧ m.b (EN_CL_CLAMP_clamp g.spare) = true ∧ g.at_ + 57344 ≤ m.cycles))) ∧
  (∀ (s : State) (e : Fin 64) (k : Fin 16),
    let a := s.m
    let x := a.eng e
    let key := (e.val * 16 + k.val, a.beatNum)
    let others (m : Mach) : Prop := ∀ j, j ≠ e.val → m.eng j = a.eng j
    let due : Prop := a.b (EN_BIND_A_valid e k) = true ∧ a.b (EN_BIND_A_kind e k) = false ∧ a.b BT_CTRL_beat_en = true ∧ a.b BT_STATUS_beat_run = true ∧
      a.beat.starting = false ∧ bindingsHeld a = false ∧ (x.state = 2 ∨ x.state = 3 ∨ x.state = 4 ∨ x.state = 6) ∧ x.stopReq = false ∧
      a.f (EN_BIND_A_phase e k) ≤ 5 ∧ bindingBeat a e k a.beatNum = true ∧ key ∉ a.beat.fired
    let again : Prop := x.state = 6 ∨ (∃ q, x.active = some q ∧ q.b = k.val ∧ q.event = false) ∨ ∃ q ∈ x.binds, q.b = k.val
    (¬ due → Leaves (.bindingFire e k) s a) ∧
    (due → ¬ again → Ends (.bindingFire e k) s (fun m => (m.eng e).binds = x.binds ++ [{ b := k.val, time := bindingTime a e k, beat := a.beatNum }] ∧
      key ∈ m.beat.fired ∧ (Int.ofNat (bindingTime a e k) - a.hSkew).toNat ≤ m.now ∧ others m ∧ Only [.engines, .beat, .now, .sub, .cycles, .hSkew] a m)) ∧
    (due → again → Ends (.bindingFire e k) s (fun m => m.engines = a.engines ∧ key ∈ m.beat.fired ∧ m.f EN_EVENT_overrun = 1 ∧
      m.n (EN_CNT e 1) = (a.n (EN_CNT e 1) + 1) % 2 ^ 64)) ∧
    (let ready : Prop := x.state = 2 ∧ x.stopReq = false ∧ migrating a e = false ∧ bindingsHeld a = false ∧ (a.clPower (e / 4)).1 = 0
     (¬ ready → Leaves (.bindingDispatch e) s a) ∧
     (ready → x.evq = [] → pickBinding a e = none → Leaves (.bindingDispatch e) s a) ∧
     (∀ w, ready → x.evq = [w] → x.binds = [] → (∀ j, j < 16 → bindingMatches a e w.1 j = false) → Ends (.bindingDispatch e) s (fun m =>
       (m.eng e).evq = [] ∧ (m.eng e).state = 2 ∧ m.n (EN_CNT e 6) = (a.n (EN_CNT e 6) + 1) % 2 ^ 64 ∧ m.f EN_EVENT_unmatched = 1)) ∧
     (ready → x.fabErrDue = false → x.mcDue = false →
      (∀ q, x.evq = [] → pickBinding a e = some k.val → a.b (EN_BIND_A_kind e k) = false → x.binds.find? (fun p => p.b == k.val) = some q →
        Ends (.bindingDispatch e) s (fun m => (m.eng e).state = 3 ∧ (m.eng e).arch.pc = a.f (EN_BIND_A_entry e k) * 4 ∧
          (m.eng e).level = a.f (EN_BIND_A_level e k) ∧ (m.eng e).caps = a.f (EN_BIND_A_caps e k) ∧
          (m.eng e).budget = a.f (EN_BIND_B_budget_cycles e k) ∧ (m.eng e).get 1 = BitVec.ofNat 64 k.val ∧
          (m.eng e).get 2 = BitVec.ofNat 64 q.beat ∧ (m.eng e).get 3 = BitVec.ofNat 64 q.time ∧ (m.eng e).active = some q ∧
          (m.eng e).binds = x.binds.filter (fun p => p.b != k.val) ∧ others m ∧ OnlyRegs [EN_CNT e 0] a m ∧ Only [.regs, .engines, .freeCtr] a m)) ∧
      (∀ w t rest, x.evq = (w, t) :: rest → bindingMatches a e w k = true → pickBinding a e = some k.val →
        Ends (.bindingDispatch e) s (fun m => (m.eng e).state = 3 ∧ (m.eng e).arch.pc = a.f (EN_BIND_A_entry e k) * 4 ∧ (m.eng e).evq = rest ∧
          (m.eng e).get 1 = BitVec.ofNat 64 k.val ∧ (m.eng e).get 2 = BitVec.ofNat 64 w ∧ (m.eng e).get 3 = BitVec.ofNat 64 t ∧
          others m ∧ OnlyRegs [EN_CNT e 0] a m ∧ Only [.regs, .engines, .freeCtr] a m)))))

/-- The host's windows. A request that Table 10-6 refuses ends with its status and leaves its reason; an accepted one becomes a request of
the bridge, a write that may be appended to the frame before it joins it; BAR4 reads and writes module DRAM, and the SRAM windows the
cluster and instruction SRAMs; while the function answers no BAR, reads end with UR and writes are dropped. Rests on R356 to R380, R386,
R396, of which it states the part said here. -/
def Obligations.HostWindowResults : Prop :=
  (∀ (s : State) (tag rid : Nat) (off : BitVec 36) (be : List Bool) (data : List Byte),
    let o := off.toNat
    let i := o / mib
    let u := 2 ^ s.m.f (AT_E0_swap i)
    let a0 := o % mib
    (be = [] ∨ 4096 < o % 4096 + be.length → Leaves (.hostBar2Read tag rid off be) s s.m ∧ Leaves (.hostBar2Write rid off be data) s s.m) ∧
    (postedRoom s.m = false ∨ barsOpen s.m = false → Leaves (.hostBar2Write rid off be data) s s.m) ∧
    (be ≠ [] → o % 4096 + be.length ≤ 4096 → barsOpen s.m = false → Ends (.hostBar2Read tag rid off be) s (fun m =>
      m.out = s.m.out ++ [.completion tag 1 [] false] ∧ OnlyRegs [AT_CNT 5] s.m m ∧ Only [.regs, .out] s.m m)) ∧
    (be ≠ [] → o % 4096 + be.length ≤ 4096 → barsOpen s.m = true →
      let dr := hostDeny s.m o u needR be
      let dw := hostDeny s.m o u needW be
      (∀ c, c ∈ [2, 3, 4, 5] →
        (attCheck s.m o be false = c → Ends (.hostBar2Read tag rid off be) s (fun m =>
          m.out = s.m.out ++ [.completion tag (if c = 4 ∨ c = 5 then 4 else 1) [] false] ∧ m.f AT_FAULT_reason = c ∧ m.f AT_FAULT_offset = o ∧
          m.f AT_FAULT_requester = rid % 2 ^ 16 ∧ m.f AT_FAULT_write = 0 ∧ Only [.regs, .out, .work] s.m m)) ∧
        (attCheck s.m o be true = c → postedRoom s.m = true → Ends (.hostBar2Write rid off be data) s (fun m => m.f AT_FAULT_reason = c ∧
          m.f AT_FAULT_offset = o ∧ m.f AT_FAULT_write = 1 ∧ m.n (BR_PERR_CNT 0x40) = (s.m.n (BR_PERR_CNT 0x40) + 1) % 2 ^ 64 ∧
          m.n (AT_CNT 7) = (s.m.n (AT_CNT 7) + 1) % 2 ^ 64 ∧ Only [.regs, .work] s.m m))) ∧
      (attCheck s.m o be false = 6 → Leaves (.hostBar2Read tag rid off be) s (completeBad (attRefuse (reportDeny s.m o u needR dr) rid o 6 false) tag 1)) ∧
      (attCheck s.m o be true = 6 → postedRoom s.m = true → Leaves (.hostBar2Write rid off be data) s (dropWrite (attRefuse (reportDeny s.m o u needW dw) rid o 6 true))) ∧
      (attCheck s.m o be false = 0 →
        let b := reportDeny (countHit s.m o 0) o u needR dr
        let ok := allowed be dr
        let w := accUnit (b.f (AT_E0_acc_w i))
        let plain := hostCuts u w a0 ok
        let wide := if b.b (AT_E0_mtype i) && b.b (AT_E0_pf i) then wideCuts u w a0 ok else plain
        let t := if wide = plain then b else b.inc (AT_CNT 4)
        let fa := attFa t o
        let q := hostReq t o (.hostRead tag) false false false be dr (hostPieces (decide (faSpace fa = 2)) (fa - fa % mib) u a0 wide [])
        (q.pieces = [] → Leaves (.hostBar2Read tag rid off be) s (finishZero (takeBseq t q))) ∧
        (q.pieces ≠ [] → Leaves (.hostBar2Read tag rid off be) s (accept t q)) ∧
        (q.pieces ≠ [] → s.m.diesJoined = false → s.m.port 5 ≠ 2 → Ends (.hostBar2Read tag rid off be) s (fun m =>
          m.reqs = s.m.reqs ++ [{ q with bseq := s.m.n BR_SEQ, tAcc := s.m.now, held := true }] ∧ m.n BR_SEQ = (s.m.n BR_SEQ + 1) % 2 ^ 64 ∧
          m.out = s.m.out))) ∧
      (attCheck s.m o be true = 0 → postedRoom s.m = true →
        (enabled be = 0 → Leaves (.hostBar2Write rid off be data) s (countHit s.m o 1)) ∧
        (enabled be ≠ 0 →
          let b := reportDeny (countHit s.m o 1) o u needW dw
          let t := if 0 < enabled dw then b.inc (BR_PERR_CNT 0x40) else b
          let fa := attFa t o
          let ps := hostPieces (decide (faSpace fa = 2)) (fa - fa % mib) u a0 (hostCuts u (accUnit (t.f (AT_E0_acc_w i))) a0 (allowed be dw)) data
          (ps.length ≠ 1 ∨ (∃ p, ps = [p] ∧ mergeTarget t o p = none) → Leaves (.hostBar2Write rid off be data) s
            (accept t (hostReq t o .hostWrite true true (t.b (AT_E0_ack i)) [] [] ps))) ∧
          (∀ p q k z, ps = [p] → mergeTarget t o p = some (q, k, z) → Leaves (.hostBar2Write rid off be data) s
            ((appendPiece (t.inc BR_SEQ) q.bseq k p.data).inc (AT_CNT 3))))))) ∧
  (∀ (s : State) (tag rid : Nat) (bar : Fin 3) (off : BitVec 36),
    (bar.val ≠ 1 ∨ barsOpen s.m = false → Ends (.hostAtomicop tag rid bar off) s (fun m => m.out = s.m.out ++ [.completion tag 1 [] false] ∧
      m.n (AT_CNT 5) = (s.m.n (AT_CNT 5) + 1) % 2 ^ 64 ∧ OnlyRegs [AT_CNT 5] s.m m ∧ Only [.regs, .out] s.m m)) ∧
    (bar.val = 1 → barsOpen s.m = true → Ends (.hostAtomicop tag rid bar off) s (fun m => m.out = s.m.out ++ [.completion tag 1 [] false] ∧
      m.f AT_FAULT_reason = 1 ∧ m.f AT_EVENT_atomic = 1 ∧ Only [.regs, .out, .work] s.m m))) ∧
  (∀ (s : State) (tag rid : Nat) (off : BitVec 34) (n : Nat) (be : List Bool) (data : List Byte),
    let o := off.toNat
    let ur (m : Mach) : Prop := m.out = s.m.out ++ [.completion tag 1 [] false] ∧ OnlyRegs [AT_CNT 5] s.m m ∧ Only [.regs, .out] s.m m
    (n = 0 ∨ 4096 < o % 4096 + n → Leaves (.hostBar4Read tag rid off n) s s.m) ∧
    (0 < n → o % 4096 + n ≤ 4096 → barsOpen s.m = false → Ends (.hostBar4Read tag rid off n) s ur) ∧
    (0 < n → o % 4096 + n ≤ 4096 → barsOpen s.m = true → bar4Deny s.m o needR n = List.replicate n false → mpuCheck s.m 0x40 true needR (0x400000000 + o) n = (s.m, none) →
      (s.m.dramOk = false → Ends (.hostBar4Read tag rid off n) s ur) ∧
      (s.m.dramOk = true → chansReach s.m o n = false → Ends (.hostBar4Read tag rid off n) s (fun m => m.out = s.m.out ++ [.completion tag 4 [] false] ∧
        m.f BR_EVENT_nonposted_err = 1 ∧ Only [.regs, .out, .work] s.m m)) ∧
      (s.m.dramOk = true → chansReach s.m o n = true → o % 64 + n ≤ 64 →
        (s.m.dramPoison o n = false → Leaves (.hostBar4Read tag rid off n) s (s.m.emit (.completion tag 0 (s.m.dramRead o n) false))) ∧
        (s.m.dramPoison o n = true → Ends (.hostBar4Read tag rid off n) s (fun m => m.out = s.m.out ++ [.completion tag 0 (s.m.dramRead o n) true] ∧
          m.f AT_FAULT_reason = 8 ∧ m.f AT_EVENT_poisoned = 1 ∧ m.f JN_EVENT_ecc_uncorr = 1 ∧ Only [.regs, .out, .work] s.m m)))) ∧
    (be = [] ∨ 4096 < o % 4096 + be.length ∨ barsOpen s.m = false → Leaves (.hostBar4Write off be data) s s.m) ∧
    (be ≠ [] → o % 4096 + be.length ≤ 4096 → barsOpen s.m = true → data.length = be.length → bar4Deny s.m o needW be.length = List.replicate be.length false →
      (chansReach s.m o be.length = true → Ends (.hostBar4Write off be data) s (fun m =>
        (∀ i, i < be.length → m.dramRead (o + i) 1 = if be.getD i false then [data.getD i 0] else s.m.dramRead (o + i) 1) ∧
        (∀ a, a < o ∨ o + be.length ≤ a → m.dramRead a 1 = s.m.dramRead a 1) ∧ Only [.dram, .dramBad, .engines] s.m m)) ∧
      (o % 256 + be.length ≤ 256 → s.m.dramReach (o / 256 * 256) = false → enabled be ≠ 0 →
        Leaves (.hostBar4Write off be data) s (nocAbsorb s.m (dramRouter (o / 256 * 256)) 0x40 none)))) ∧
  (∀ (s : State) (tag n : Nat) (off : BitVec 26) (d : List Byte) (w : Bool × Nat × Nat),
    let o := off.toNat
    let r := s.m.clRouter (windowCluster w)
    let good : Prop := o % 4 = 0 ∧ n % 4 = 0 ∧ 0 < n ∧ n ≤ 512 ∧ o % 4096 + n ≤ 4096
    let waits (v : Nat) (wr : Bool) : Mach :=
      let x : Mach := { s.m with noc := { s.m.noc with waiting := s.m.noc.waiting ++ [⟨r, 0x40, o, n, v, wr, none⟩] } }
      wakeRelease ((x.satF (NC_PORT_STATUS_waiting r)).setF (NC_PORT_STATUS_wake_req r) 1) (windowCluster w)
    (windowOf o = none → Leaves (.sramWindowAccess tag off n none) s s.m ∧ Leaves (.sramWindowAccess tag off n (some d)) s s.m) ∧
    (windowOf o = some w →
      (barsOpen s.m = false → Leaves (.sramWindowAccess tag off n (some d)) s s.m) ∧
      (barsOpen s.m = false ∨ ¬ good → Leaves (.sramWindowAccess tag off n none) s (completeBad s.m tag 1)) ∧
      (barsOpen s.m = true → ¬ good ∨ d.length ≠ n → Leaves (.sramWindowAccess tag off n (some d)) s (badBar0Write s.m 0x40 o)) ∧
      (barsOpen s.m = true → good →
        (mpuCheck s.m 0x40 true needR (0x40000000 + o) n = (s.m, none) → mpuAllDenied s.m 0x40 true needR (0x40000000 + o) n = false →
          (s.m.port r = 0 → o % 64 + n ≤ 64 → Leaves (.sramWindowAccess tag off n none) s
            (s.m.emit (.completion tag 0 (mpuMask s.m 0x40 true needR (0x40000000 + o) (windowRead s.m w n)) false))) ∧
          (s.m.port r = 2 → Ends (.sramWindowAccess tag off n none) s (fun m => m.out = s.m.out ++ [.completion tag 4 [] false] ∧
            m.f BR_EVENT_nonposted_err = 1 ∧ Only [.regs, .out, .work] s.m m)) ∧
          (s.m.port r ≠ 0 → s.m.port r ≠ 2 → Leaves (.sramWindowAccess tag off n none) s (waits tag false))) ∧
        (mpuCheck s.m 0x40 true needW (0x40000000 + o) n = (s.m, none) → d.length = n →
          (s.m.port r = 0 → w.1 = true → Ends (.sramWindowAccess tag off n (some d)) s (fun m =>
            m.csram = mapSetRange memReset s.m.csram (clsKey w.2.1 w.2.2) d ∧ Only [.csram, .engines] s.m m)) ∧
          (s.m.port r = 0 → w.1 = false → Leaves (.sramWindowAccess tag off n (some d)) s (isramWrite s.m 0x40 w.2.1 w.2.2 d)) ∧
          (s.m.port r = 2 → Leaves (.sramWindowAccess tag off n (some d)) s (nocAbsorb s.m r 0x40 none)) ∧
          (s.m.port r ≠ 0 → s.m.port r ≠ 2 → Leaves (.sramWindowAccess tag off n (some d)) s (waits (leNat d) true)))))) ∧
  (∀ (s : State) (tag : Nat),
    let lim := s.m.f BR_HRD_TO_limit_us
    (lim = 0 ∨ s.m.reqs.find? (fun q => decide (q.kind = .hostRead tag) && q.orphan.isNone) = none → Leaves (.hostReadAbandon tag) s s.m) ∧
    (∀ q : Req, s.m.reqs.find? (fun q => decide (q.kind = .hostRead tag) && q.orphan.isNone) = some q → lim ≠ 0 →
      Ends (.hostReadAbandon tag) s (fun m => q.tAcc + lim * 1000 ≤ m.now ∧ m.f BR_EVENT_host_abandon = 1 ∧
        m.reqs = (if q.pieces.isEmpty then s.m.reqs.filter (fun x => x.bseq != q.bseq)
                  else mapWhere (fun x => x.bseq == q.bseq) (fun x => { x with orphan := some 1 }) s.m.reqs) ∧
        m.n (BR_CNT 1) = (s.m.n (BR_CNT 1) + 1) % 2 ^ 64 ∧ m.out = s.m.out ∧ OnlyRegs [BR_CNT 1, BR_EVENT, BR_STATUS] s.m m ∧
        Only [.regs, .reqs, .work, .now, .sub, .cycles, .hSkew] s.m m)))

/-- Timeouts of station requests, the confirmed write port, the orphan capture, the fences of events and the power state of the PCI
Express function. A request whose time is over ends with code 0x10; a refused go leaves its code; an event goes once nothing of its fence
is left, or is lost with a flag. Rests on R357, R358, R393, R395, R396, R400, R405 to R410, of which it states the part said here. -/
def Obligations.BridgeResults : Prop :=
  (∀ (s : State) (b : Nat),
    (s.m.req b = none → Leaves (.stationTimeout b) s s.m) ∧
    (∀ q : Req, s.m.req b = some q →
      let at_ := (firstSent q).getD q.tAcc + tStn s.m
      let t := s.m.upTo at_
      (faSpace q.faddr = 2 ∨ q.cls < 2 ∨ (q.posted = true ∧ q.ack = false) ∨ q.pieces = [] → Leaves (.stationTimeout b) s s.m) ∧
      (faSpace q.faddr ≠ 2 → 2 ≤ q.cls → q.posted = false ∨ q.ack = true → q.pieces ≠ [] →
        Leaves (.stationTimeout b) s (reqFail (if overHostLimit t q then abandonRead t q else t) b 0x10 true) ∧
        (∀ tag, q.posted = false → q.write = false → q.kind = .hostRead tag → q.orphan = none →
          (overHostLimit t q = false → Ends (.stationTimeout b) s (fun m => at_ ≤ m.now ∧ m.reqs = s.m.reqs.filter (fun x => x.bseq != b) ∧
            m.out = s.m.out ++ [.completion tag 4 [] false] ∧ m.f BR_EVENT_nonposted_err = 1 ∧
            m.n (BR_CNT 0) = (s.m.n (BR_CNT 0) + 1) % 2 ^ 64 ∧ Only [.regs, .reqs, .out, .work, .now, .sub, .cycles, .hSkew] s.m m)) ∧
          (overHostLimit t q = true → Ends (.stationTimeout b) s (fun m => at_ ≤ m.now ∧ m.reqs = s.m.reqs.filter (fun x => x.bseq != b) ∧
            m.out = s.m.out ∧ m.f BR_EVENT_host_abandon = 1 ∧
            m.n (BR_CNT 1) = (s.m.n (BR_CNT 1) + 1) % 2 ^ 64 ∧ Only [.regs, .reqs, .work, .now, .sub, .cycles, .hSkew] s.m m)))))) ∧
  (∀ (s : State) (k : Fin 8),
    let off := s.m.f (BR_CWP_ADDR_offset k)
    let n := 2 ^ s.m.f (BR_CWP_CTRL_size k)
    let be := List.replicate n true
    let i := off / mib
    let u := 2 ^ s.m.f (AT_E0_swap i)
    let d := hostDeny s.m off u needW be
    let g := reportDeny s.m off u needW d
    let fa := attFa g off
    let refused (c : Nat) (m : Mach) : Prop := m.f (BR_CWP_STATUS_code k) = c ∧ m.f (BR_CWP_PEEK_code k) = c ∧ m.f BR_EVENT_cwp_refused = 1 ∧
      OnlyRegs [BR_CWP_STATUS k, BR_CWP_PEEK k, BR_EVENT] s.m m ∧ Only [.regs, .work] s.m m
    (s.m.b (BR_CWP_PEEK_busy k) = true → Ends (.cwpGo k) s (refused 0x82)) ∧
    (s.m.b (BR_CWP_PEEK_busy k) = false → off % n ≠ 0 → Ends (.cwpGo k) s (refused 0x81)) ∧
    (s.m.b (BR_CWP_PEEK_busy k) = false → off % n = 0 →
      (∀ c, c ∈ [2, 3, 4] → attCheck s.m off be true = c → Ends (.cwpGo k) s (refused 0x80)) ∧
      (attCheck s.m off be true = 6 → Leaves (.cwpGo k) s (cwpRefuse g k 0x80)) ∧
      (attCheck s.m off be true = 0 →
        (let b := ((countHit g off 1).setF (BR_CWP_PEEK_busy k) 1).inc (BR_CNT 4)
         Leaves (.cwpGo k) s (accept b (hostReq b off (.cwp k) true false true [] []
           (hostPieces (decide (faSpace fa = 2)) (fa - fa % mib) u (off % mib)
             (hostCuts u (accUnit (g.f (AT_E0_acc_w i))) (off % mib) (allowed be d)) (leBytes n (g.f (BR_CWP_DATA_data k))))))))) ∧
    (∀ m : BitVec 7, (s.m.b (BR_CWP_PEEK_busy k) = true → Leaves (.cwpStatusRead m k) s s.m) ∧
      (s.m.b (BR_CWP_PEEK_busy k) = false → Leaves (.cwpStatusRead m k) s (s.m.emit (.regRead m.toNat (BR_CWP_STATUS k) (s.m.n (BR_CWP_STATUS k))))))) ∧
  (∀ s : State, Leaves .orphanPop s { s.m with orphans := s.m.orphans.drop 1 }) ∧
  (∀ (s : State) (i : Nat),
    (s.m.fenced[i]? = none → Leaves (.eventFenceSatisfied i) s s.m ∧ Leaves (.fenceTimeout i) s s.m) ∧
    (∀ x : Fenced, s.m.fenced[i]? = some x →
      let y := fenceLeft s.m x
      let gone := !s.m.stValid x.src || s.m.f (ST_W1_state x.src) == 0
      let ev : EvRec := { x.ev with flags := x.ev.flags + 1 }
      let lost (m : Mach) : Prop := m.fenced = s.m.fenced.eraseIdx i ∧ m.f BR_EVENT_fence_lost = 1 ∧ Work.event ev ∈ m.work ∧ OnlyRegs [BR_CNT 6, BR_EVENT] s.m m
      (y.open = true → reservedId x.ev.id = false → Ends (.eventFenceSatisfied i) s (fun m =>
        m.fenced = s.m.fenced.eraseIdx i ∧ m.work = s.m.work ++ [.event x.ev] ∧ Only [.fenced, .work] s.m m)) ∧
      (y.open = false → Leaves (.eventFenceSatisfied i) s s.m) ∧
      (∀ v, y.tc2 = some v → y.tc1 = none → y.tc3 = none → y.ux = none → reservedId x.ev.id = false → bitAt x.ev.flags 0 = false → gone = false →
        Ends (.fenceTimeout i) s (fun m => x.at_ + 2000000 ≤ m.now ∧ lost m ∧ Only [.regs, .fenced, .work, .now, .sub, .cycles, .hSkew] s.m m)) ∧
      (∀ v, y.tc2 = some v → y.tc1 = none → y.tc3 = none → y.ux = none → reservedId x.ev.id = false → bitAt x.ev.flags 0 = false → gone = true →
        Ends (.fenceTimeout i) s (fun m => lost m ∧ Only [.regs, .fenced, .work] s.m m)) ∧
      (∀ v, y.tc1 = some v → y.tc2 = none → y.tc3 = none → y.ux = none → reservedId x.ev.id = false → bitAt x.ev.flags 0 = false →
        gone = true ∨ fencePastInput s.m x = true → Ends (.fenceTimeout i) s (fun m => lost m ∧ Only [.regs, .fenced, .work] s.m m)) ∧
      (∀ v, y.tc1 = some v → gone = false → fencePastInput s.m x = false → s.m.now < x.at_ + 2000000 → Leaves (.fenceTimeout i) s { s.m with fenced := s.m.fenced.set i y }))) ∧
  (∀ s : State, Leaves .pcieD3hotEnter s { s.m with pcie := { s.m.pcie with d3hot := true } } ∧
    (s.m.pcie.bme = true → Leaves .pcieBusMasterDisable s { s.m with pcie := { s.m.pcie with bme := false, bmeAt := s.m.cycles } }) ∧
    (s.m.pcie.bme = false → Leaves .pcieBusMasterDisable s s.m) ∧
    Leaves .pcieD0Return s (releaseVectors { s.m with pcie := { s.m.pcie with d3hot := false } }) ∧
    Leaves .pcieBusMasterEnable s (releaseVectors { s.m with pcie := { s.m.pcie with bme := true } }) ∧
    (s.m.mxAcc = [] → Leaves .pcieD0Return s { s.m with pcie := { s.m.pcie with d3hot := false } } ∧
      Leaves .pcieBusMasterEnable s { s.m with pcie := { s.m.pcie with bme := true } }))

/-- The module's own cycles on an Uhlux port. The front request starts once the bus is the module's, an acknowledge that is due before it;
a cycle that is acknowledged is followed by the next of its request; an error, a timeout or a hogged bus ends the request with code 0x12,
an open read with code 0x13; an acknowledge gives its vector's event or is counted as spurious; an absent slot is counted and marked; a
rack reset ends everything for 1 ms. Rests on R423 to R430, R434, R444 to R448, of which it states the part said here. -/
def Obligations.UhluxOutboundResults : Prop :=
  ∀ (s : State) (p : Fin 2),
    let x := s.m.uxp p
    let free : Prop := x.cur = none ∧ x.iack = none ∧ x.bbsy = false ∧ x.bgOut = false
    let idle : Prop := s.m.f (UX_STATUS_irq p) = 0
    (uxLive s.m p = false ∨ ¬ free → Leaves (.uhluxOutboundStart p) s s.m) ∧
    (irqLevel s.m p ≠ 0 → uxLive s.m p = true → free → Ends (.uhluxOutboundStart p) s (fun m =>
      m.uxp p = { x with iack := some (irqLevel s.m p, s.m.now) } ∧ m.out = s.m.out ++ [.uxIack p (irqLevel s.m p)] ∧ Only [.ux, .out] s.m m)) ∧
    (irqLevel s.m p = 0 → uxLive s.m p = true → free →
      (x.queue = [] → Leaves (.uhluxOutboundStart p) s s.m) ∧
      (∀ b l, x.queue = b :: l →
        (s.m.req b = none → Leaves (.uhluxOutboundStart p) s (uxDrop s.m p b)) ∧
        (∀ q, s.m.req b = some q →
          (∀ z, uxRefused s.m q.faddr = false → q.pieces[0]? = some z → Ends (.uhluxOutboundStart p) s (fun m => m.uxp p = { x with cur := some (b, 0, s.m.now) } ∧
            m.out = s.m.out ++ [cycleOut p q.write z] ∧ OnlyRegs [AT_CNT 2] s.m m ∧ Only [.regs, .ux, .reqs, .out] s.m m)) ∧
          (uxRefused s.m q.faddr = true → Leaves (.uhluxOutboundStart p) s
            (reqFail (uxLog (uxDrop s.m p b) q 0x0D05 (faCard q.faddr)) b 0x12 true))))) ∧
    (x.iack = none → x.cur = none → (∀ d, Leaves (.uhluxAck p d) s s.m) ∧ Leaves (.uhluxBerr p) s s.m ∧ Leaves (.uhluxCycleTimeout p) s s.m) ∧
    (∀ b i t, x.iack = none → x.cur = some (b, i, t) →
      (∀ d, (s.m.req b).bind (fun q => q.pieces[i]?) = none → Leaves (.uhluxAck p d) s (uxDrop s.m p b)) ∧
      (∀ q z, s.m.req b = some q → q.pieces[i]? = some z →
        let slot := slotOf (faCard z.fa)
        let u := s.m.upTo (t + 10000)
        (∀ d, let a := setMiss (uxCount s.m p 0) p slot 0
          (∀ y, q.pieces[i + 1]? = some y → y.done = false → Leaves (.uhluxAck p d) s
            (pieceEnd (uxCycle a p b (i + 1)) b i 0 (if q.write then [] else cycleBytes z d) false)) ∧
          (q.pieces[i + 1]? = none ∨ (∃ y, q.pieces[i + 1]? = some y ∧ y.done = true) → Leaves (.uhluxAck p d) s
            (pieceEnd (uxDrop a p b) b i 0 (if q.write then [] else cycleBytes z d) false))) ∧
        Leaves (.uhluxBerr p) s (uxFail ((uxCount (setMiss s.m p slot 0) p 3).raise (UX_EVENT_berr p)) p b 0x12 0x0D02 (uxWhere s.m (b, i, t))) ∧
        Leaves (.uhluxCycleTimeout p) s (uxFail ((uxCount (setMiss u p slot (missOf u p slot + 1)) p 4).raise (UX_EVENT_timeout p)) p b 0x12 0x0D01 (uxWhere u (b, i, t))) ∧
        t + 10000 ≤ u.now)) ∧
    (∀ l t, x.iack = some (l, t) →
      let spurious (m : Mach) : Prop := (idle → (m.uxp p).iack = none) ∧ m.f (UX_LAST_IACK_spurious p) = 1 ∧ m.f (UX_LAST_IACK_level p) = l % 8 ∧
        m.f (UX_EVENT_spurious p) = 1 ∧ mapGet (fun _ => 0) (m.uxp p).spur l = mapGet (fun _ => 0) x.spur l + 1
      (∀ d : BitVec 16, Ends (.uhluxAck p d) s (fun m => (idle → (m.uxp p).iack = none) ∧ m.f (UX_LAST_IACK_spurious p) = 0 ∧
        m.f (UX_LAST_IACK_vector p) = d.toNat % 256 ∧ m.f (UX_LAST_IACK_level p) = l % 8 ∧ mapGet (fun _ => 0) (m.uxp p).spur l = 0 ∧
        (let id := Nat.lor (Nat.lor (s.m.f (UX_IRQ_CFG_ev_base p) / 0x200 * 0x200) (p.val * 0x100)) (d.toNat % 256)
         x.lastIn = none → reservedId id = false → Work.event { id := id, cond := l, source := 0x405C + p, time := s.m.now } ∈ m.work) ∧
        (idle → Only [.regs, .ux, .work, .fenced] s.m m))) ∧
      Ends (.uhluxBerr p) s (fun m => spurious m ∧ (idle → Only [.regs, .ux, .work] s.m m)) ∧
      Ends (.uhluxCycleTimeout p) s (fun m => t + 10000 ≤ m.now ∧ spurious m ∧ (idle → Only [.regs, .ux, .work, .now, .sub, .cycles, .hSkew] s.m m))) ∧
    (∀ slot : Fin 16,
      let lim := if s.m.f (UX_CFG_absent_after p) = 0 then 1 else s.m.f (UX_CFG_absent_after p)
      let a := ((setMiss s.m p slot 0).setF ⟨UX_SLOT p, 16 + slot.val, 1⟩ 1).raise (UX_EVENT_absent p)
      (missOf s.m p slot < lim → Leaves (.uhluxSlotAbsent p slot) s s.m) ∧
      (lim ≤ missOf s.m p slot → Leaves (.uhluxSlotAbsent p slot) s (uxSweep a p)) ∧
      (lim ≤ missOf s.m p slot → x.queue = [] → Ends (.uhluxSlotAbsent p slot) s (fun m => m.f ⟨UX_SLOT p, 16 + slot.val, 1⟩ = 1 ∧
        m.f (UX_EVENT_absent p) = 1 ∧ missOf m p slot = 0 ∧ OnlyRegs [UX_SLOT p, UX_EVENT p] s.m m ∧ Only [.regs, .ux, .work] s.m m))) ∧
    (∀ b, (s.m.req b = none → Leaves (.uhluxReadTimeout b) s s.m) ∧
      (∀ q, s.m.req b = some q →
        (faSpace q.faddr ≠ 2 ∨ q.write = true → Leaves (.uhluxReadTimeout b) s s.m) ∧
        (faSpace q.faddr = 2 → q.write = false → Leaves (.uhluxReadTimeout b) s
          (reqFail (uxDrop (s.m.upTo (q.tAcc + 100000)) (faPort q.faddr) b) b 0x13 true)))) ∧
    (x.queue = [] ∨ x.cur ≠ none ∨ (x.bbsy = false ∧ x.bgOut = false) → Leaves (.uhluxBusHogTimeout p) s s.m) ∧
    (∀ b l, x.queue = b :: l → x.cur = none → x.bbsy = true ∨ x.bgOut = true →
      let u := (s.m.upTo (x.waitSince + 10000)).raise (UX_EVENT_bus_hog p)
      Leaves (.uhluxBusHogTimeout p) s (uxFail u p b 0x12 0x0D03 0) ∧ u.f (UX_EVENT_bus_hog p) = 1) ∧
    (let u := s.m.setUxp p { x with sysreset := some (s.m.now + 1000000) }
     Leaves (.uhluxSysreset p) s (uxStop u p (0x0D00 + Config.openCause 7 % 256)) ∧
     (x.queue = [] → Ends (.uhluxSysreset p) s (fun m =>
      m.uxp p = { x with cur := none, iack := none, bgOut := false, sysreset := some (s.m.now + 1000000) } ∧ Only [.ux] s.m m))) ∧
    (x.sysreset = none → Leaves (.uhluxSysresetEnd p) s s.m) ∧
    (∀ t, x.sysreset = some t → Ends (.uhluxSysresetEnd p) s (fun m => t ≤ m.now ∧ (m.uxp p).sysreset = none ∧ (m.uxp p).waitSince = m.now ∧
      (idle → m.uxp p = { x with sysreset := none, waitSince := m.now } ∧ Only [.ux, .now, .sub, .cycles, .hSkew] s.m m))) ∧
    (∀ mask : BitVec 16, Ends (.uxSlotReadmit p mask) s (fun m =>
      (∀ k, k < 16 → m.f ⟨UX_SLOT p, 16 + k, 1⟩ = if bitAt mask.toNat k then 0 else s.m.f ⟨UX_SLOT p, 16 + k, 1⟩) ∧
      (∀ k, k < 16 → missOf m p k = if bitAt mask.toNat k then 0 else missOf s.m p k) ∧ OnlyRegs [UX_SLOT p] s.m m ∧ Only [.regs, .ux] s.m m))

/-- Arbitration, the cycles of card masters and the vectored interrupts of an Uhlux port. A request for the bus is granted once the module
has nothing due; a card's cycle is refused with BERR_N or told to retry, or its write waits in the port and its read is answered with
DRAM's bytes; the highest enabled level that is asserted and may be sampled is acknowledged; a third spurious acknowledge disables its
level. Rests on R432, R433, R435 to R446, of which it states the part said here. -/
def Obligations.UhluxInboundResults : Prop :=
  (∀ (s : State) (p : Fin 2),
    let x := s.m.uxp p
    let grant := uxLive s.m p && s.m.b (UX_CFG_arb_en p) && !uxDue s.m p && !x.bbsy && !x.bgOut
    Ends (.uhluxBusRequest p) s (fun m => m.uxp p = { x with br := true, bgOut := grant || x.bgOut } ∧ Only [.ux] s.m m) ∧
    Ends (.uhluxBbsy p true) s (fun m => m.uxp p = { x with bgOut := false, bbsy := true, br := false } ∧ Only [.ux] s.m m) ∧
    (irqLevel s.m p = 0 ∨ uxLive s.m p = false ∨ x.cur ≠ none ∨ x.iack ≠ none ∨ x.bgOut = true → Ends (.uhluxBbsy p false) s (fun m =>
      m.uxp p = { x with bbsy := false } ∧ Only [.ux] s.m m)) ∧
    (irqLevel s.m p ≠ 0 → uxLive s.m p = true → x.cur = none → x.iack = none → x.bgOut = false → Ends (.uhluxBbsy p false) s (fun m =>
      m.uxp p = { x with bbsy := false, iack := some (irqLevel s.m p, s.m.now) } ∧ m.out = s.m.out ++ [.uxIack p (irqLevel s.m p)] ∧ Only [.ux, .out] s.m m))) ∧
  (∀ (s : State) (p : Fin 2) (a : BitVec 24) (word lock : Bool) (data : Option (BitVec 16)),
    let x := s.m.uxp p
    let c := if word then a.toNat / 2 * 2 else a.toNat
    let n := if word then 2 else 1
    let berr (ev : RF) (m : Mach) : Prop := m.out = s.m.out ++ [.card p.val 1 0] ∧ m.f ev = 1 ∧ Only [.regs, .out, .work] s.m m
    let retry : Prop := Ends (.uhluxInboundCycle p a word lock data) s (fun m => m.out = s.m.out ++ [.card p.val 2 0] ∧
      OnlyRegs [UX_CNT p 2] s.m m ∧ Only [.regs, .out] s.m m)
    (uxEnabled s.m p = false ∨ c < 0x800000 → Leaves (.uhluxInboundCycle p a word lock data) s s.m) ∧
    (uxEnabled s.m p = true → 0x800000 ≤ c →
      (lock = true → Ends (.uhluxInboundCycle p a word lock data) s (berr (UX_EVENT_lock_rejected p))) ∧
      (lock = false → uxBclr s.m p = true → retry) ∧
      (lock = false → uxBclr s.m p = false → (s.m.b (UX_CFG_inbound_en p) = false ∨ windowAt s.m p c = none) →
        Ends (.uhluxInboundCycle p a word lock data) s (berr (UX_EVENT_inbound_denied p))) ∧
      (∀ w, lock = false → uxBclr s.m p = false → s.m.b (UX_CFG_inbound_en p) = true → windowAt s.m p c = some w →
        let d0 := windowDram s.m p w c
        let d1 := windowDram s.m p w (c + 1)
        let lo := if word = true ∧ d1 < d0 then d1 else d0
        ((data.isSome = true ∧ s.m.b (UX_IWIN_w p w) = false) ∨ (data = none ∧ s.m.b (UX_IWIN_r p w) = false) →
          Ends (.uhluxInboundCycle p a word lock data) s (berr (UX_EVENT_inbound_denied p))) ∧
        (∀ v, data = some v → s.m.b (UX_IWIN_w p w) = true →
          ((mpuCheck s.m (0x5C + p.val) true needW (0x400000000 + lo) n).2.isSome = true → Ends (.uhluxInboundCycle p a word lock data) s (berr (UX_EVENT_inbound_denied p))) ∧
          ((mpuCheck s.m (0x5C + p.val) true needW (0x400000000 + lo) n).2 = none → 64 ≤ x.inq.length → retry) ∧
          ((mpuCheck s.m (0x5C + p.val) true needW (0x400000000 + lo) n).2 = none → x.inq.length < 64 →
            let bs := if word then (if d0 = lo then beBytes 2 v.toNat else (beBytes 2 v.toNat).reverse)
              else if c % 2 = 0 then (beBytes 2 v.toNat).take 1 else (beBytes 2 v.toNat).drop 1
            Ends (.uhluxInboundCycle p a word lock data) s (fun m => m.out = s.m.out ++ [.card p.val 0 0] ∧
              m.uxp p = { x with inq := x.inq ++ [(s.m.n BR_SEQ, lo, bs)], lastIn := some (s.m.n BR_SEQ) } ∧ m.n BR_SEQ = (s.m.n BR_SEQ + 1) % 2 ^ 64 ∧
              OnlyRegs [BR_SEQ, UX_STATUS p, UX_CNT p 1] s.m m ∧ Only [.regs, .ux, .out] s.m m))) ∧
        (data = none → s.m.b (UX_IWIN_r p w) = true →
          ((mpuCheck s.m (0x5C + p.val) true needR (0x400000000 + lo) n).2.isSome = true → Ends (.uhluxInboundCycle p a word lock data) s (berr (UX_EVENT_inbound_denied p))) ∧
          ((mpuCheck s.m (0x5C + p.val) true needR (0x400000000 + lo) n).2 = none →
            (x.inq ≠ [] ∨ s.m.dramReach lo = false → retry) ∧
            (x.inq = [] → s.m.dramReach lo = true → s.m.dramPoison lo n = true → Ends (.uhluxInboundCycle p a word lock data) s (fun m =>
              m.out = s.m.out ++ [.card p.val 2 0] ∧ m.f JN_EVENT_ecc_uncorr = 1 ∧ Only [.regs, .out, .work] s.m m)) ∧
            (x.inq = [] → s.m.dramReach lo = true → s.m.dramPoison lo n = false →
              let b0 := mapGet memReset s.m.dram d0
              let d := if word then beNat [b0, mapGet memReset s.m.dram d1] else if c % 2 = 0 then b0.toNat * 256 else b0.toNat
              Ends (.uhluxInboundCycle p a word lock data) s (fun m =>
                m.out = s.m.out ++ [.card p.val 0 d] ∧ OnlyRegs [UX_CNT p 1] s.m m ∧ Only [.regs, .out] s.m m))))))) ∧
  (∀ (s : State) (p : Fin 2),
    let x := s.m.uxp p
    (∀ b o bs t, x.inq = (b, o, bs) :: t →
      (s.m.dramReach o = true → Ends (.uhluxInboundWritePerform p) s (fun m => (m.uxp p).inq = t ∧
        m.f (UX_STATUS_inq p) = t.length % 128 ∧ m.dramRead o bs.length = bs ∧
        (∀ k, k < o ∨ o + bs.length ≤ k → m.dramRead k 1 = s.m.dramRead k 1) ∧ OnlyRegs [UX_STATUS p] s.m m ∧
        Only [.regs, .ux, .dram, .dramBad, .engines] s.m m)) ∧
      (s.m.dramReach o = false → Leaves (.uhluxInboundWritePerform p) s
        (nocAbsorb (uxInq (s.m.setUxp p { x with inq := t }) p) (dramRouter o) (0x5C + p.val) (some b)))) ∧
    (x.inq = [] → Leaves (.uhluxInboundWritePerform p) s s.m) ∧
    (uxEnabled s.m p = true → Ends (.uhluxSlaveAckTimeout p) s (fun m => m.out = s.m.out ++ [.card p.val 2 0] ∧ OnlyRegs [UX_CNT p 2] s.m m ∧
      Only [.regs, .out] s.m m)) ∧
    (uxEnabled s.m p = false → Leaves (.uhluxSlaveAckTimeout p) s s.m) ∧
    (∀ a : BitVec 24, (uxEnabled s.m p = true → Ends (.uhluxBusTimer p a) s (fun m => m.out = s.m.out ++ [.card p.val 1 0] ∧
      m.f (UX_EVENT_timeout p) = 1 ∧ OnlyRegs [UX_CNT p 4, UX_EVENT p] s.m m ∧ Only [.regs, .out, .work] s.m m)) ∧
      (uxEnabled s.m p = false → Leaves (.uhluxBusTimer p a) s s.m))) ∧
  (∀ (s : State) (p : Fin 2) (levels : BitVec 7),
    let a := s.m.setF (UX_STATUS_irq p) levels.toNat
    let x := s.m.uxp p
    let free : Prop := x.cur = none ∧ x.iack = none ∧ x.bbsy = false ∧ x.bgOut = false
    (irqLevel a p ≠ 0 → uxLive a p = true → free →
      Ends (.uhluxIrq p levels) s (fun m => m.uxp p = { x with iack := some (irqLevel a p, s.m.now) } ∧ m.out = s.m.out ++ [.uxIack p (irqLevel a p)] ∧
        m.f (UX_STATUS_irq p) = levels.toNat ∧ OnlyRegs [UX_STATUS p] s.m m ∧ Only [.regs, .ux, .out] s.m m)) ∧
    (irqLevel a p = 0 ∨ uxLive a p = false ∨ ¬ free → Leaves (.uhluxIrq p levels) s a) ∧
    (irqLevel a p ≠ 0 → ∃ l, irqLevel a p = l ∧ 1 ≤ l ∧ l ≤ 7 ∧ levels.getLsbD (l - 1) = true ∧ bitAt (s.m.f (UX_IRQ_CFG_en p)) (l - 1) = true ∧
      ∀ j, l < j → j ≤ 7 → levels.getLsbD (j - 1) = false ∨ bitAt (s.m.f (UX_IRQ_CFG_en p)) (j - 1) = false ∨
        s.m.now < mapGet (fun _ => 0) x.blocked j)) ∧
  (∀ (s : State) (p : Fin 2) (l : Fin 8),
    let x := s.m.uxp p
    let t := mapGet (fun _ => 0) x.blocked l.val
    (t = 0 → Leaves (.uhluxIrqResample p l) s s.m) ∧
    (t ≠ 0 → Ends (.uhluxIrqResample p l) s (fun m => t ≤ m.now ∧ mapGet (fun _ => 0) (m.uxp p).blocked l.val = 0 ∧
      Only [.ux, .out, .now, .sub, .cycles, .hSkew] s.m m)) ∧
    (l.val ≠ 0 → 3 ≤ mapGet (fun _ => 0) x.spur l.val → Ends (.uhluxIrqAutoDisable p l) s (fun m => m.f ⟨UX_IRQ_CFG p, l.val, 1⟩ = 0 ∧
      m.f (UX_EVENT_irq_disabled p) = 1 ∧ mapGet (fun _ => 0) (m.uxp p).spur l.val = 0 ∧
      OnlyRegs [UX_IRQ_CFG p, UX_EVENT p] s.m m ∧ Only [.regs, .ux, .work] s.m m)) ∧
    (l.val = 0 ∨ mapGet (fun _ => 0) x.spur l.val < 3 → Leaves (.uhluxIrqAutoDisable p l) s s.m))

/-- The event table's timers, held deliveries, masked and held MSI-X messages, the reflex tables' comparison and the interlock inputs. A
holdoff that ends with occurrences pending sends one message, or leaves it pending while its vector is masked; a vector that is unmasked
and a link that is back in L0 let go what waited; a word in which the copies differ is reported; an interlock input that changes is an
event of its own, answered like a TC0 frame. Rests on R462 to R467, R469, R473, R474, R670, of which it states the part said here. -/
def Obligations.EventUnitResults : Prop :=
  (∀ (s : State) (id : BitVec 16),
    let x := s.m.evSlot id.toNat
    let v := s.m.f (EV_E0_vector id.toNat)
    let h := s.m.f (EV_E0_holdoff_us id.toNat)
    let pend := s.m.f (EV_E1_pending id.toNat)
    (x.timer = none → Leaves (.holdoffTimerEnd id) s s.m) ∧
    (∀ t, x.timer = some t →
      let again (m : Mach) : Prop := t ≤ m.now ∧ m.evSlot id.toNat = { x with timer := if h = 0 then none else some (m.now + h * 1000) }
      (pend = 0 → Ends (.holdoffTimerEnd id) s (fun m => t ≤ m.now ∧ m.evSlot id.toNat = { x with timer := none } ∧
        Only [.evSlots, .now, .sub, .cycles, .hSkew] s.m m)) ∧
      (pend ≠ 0 → x.latest = none → Ends (.holdoffTimerEnd id) s (fun m => again m ∧ Only [.evSlots, .now, .sub, .cycles, .hSkew] s.m m)) ∧
      (∀ r, pend ≠ 0 → x.latest = some r →
        (s.m.vectorMasked v = false → s.m.pcie.l0 = true → Ends (.holdoffTimerEnd id) s (fun m => again m ∧
          m.out = s.m.out ++ [.msix (s.m.n (MX_ADDR v)) (s.m.n (MX_DATA v))] ∧ m.f (EV_E1_pending id.toNat) = 0 ∧
          (∀ k, k < 4 → m.n (MX_VREC v k) = (vrecWords { r with count := pend }).getD k 0 % 2 ^ 64) ∧
          Only [.regs, .out, .evSlots, .now, .sub, .cycles, .hSkew] s.m m)) ∧
        (s.m.vectorMasked v = false → s.m.pcie.l0 = false → Ends (.holdoffTimerEnd id) s (fun m => again m ∧
          m.out = s.m.out ∧ m.mxHeld = s.m.mxHeld ++ [v] ∧ m.f (EV_E1_pending id.toNat) = 0 ∧
          (s.m.mxEpisode = false → m.f MX_EVENT_held = 1) ∧ m.mxEpisode = true)) ∧
        (s.m.vectorMasked v = true → Ends (.holdoffTimerEnd id) s (fun m => again m ∧ m.out = s.m.out ∧ m.f (EV_E1_pending id.toNat) = 0 ∧
          mapGet (fun _ => 0) m.mxAcc v = mapGet (fun _ => 0) s.m.mxAcc v + pend ∧ m.f ⟨MX_PBA (v / 64), v % 64, 1⟩ = 1))))) ∧
  (∀ (s : State) (e : Fin 64),
    (64 ≤ (s.m.eng e).evq.length ∨ takeFirst (fun h => h.engine == e.val) s.m.evHeld = none → Leaves (.eventHeldDeliver e) s s.m) ∧
    (∀ h rest, (s.m.eng e).evq.length < 64 → takeFirst (fun h => h.engine == e.val) s.m.evHeld = some (h, rest) →
      Leaves (.eventHeldDeliver e) s (engineDeliver { s.m with evHeld := rest } h.id e h.last) ∧
      ((s.m.eng e).state ≠ 7 → s.m.port (s.m.clRouter (e / 4)) = 0 → (s.m.eng e).wait = .none → (∀ g ∈ rest, g.id ≠ h.id ∨ g.engine ≠ e.val) →
        Ends (.eventHeldDeliver e) s (fun m => m.evHeld = rest ∧
          m.eng e = { s.m.eng e with evq := (s.m.eng e).evq ++ [(eventWord h.last, h.last.time)] } ∧
          (∀ k, k ≠ e.val → m.eng k = s.m.eng k) ∧ Only [.evHeld, .engines] s.m m)))) ∧
  (∀ (s : State) (v : BitVec 11) (n : Nat),
    let v' := v.toNat
    Leaves (.msixUnmask (some v)) s (releaseUnmasked (s.m.setF (MX_VCTRL_mask v') 0)) ∧
    Leaves (.msixUnmask none) s (releaseUnmasked { s.m with pcie := { s.m.pcie with funcMask := false } }) ∧
    Leaves .pcieLinkL0Return s (releaseVectors (s.m.mxHeld.foldl (fun t v =>
      if t.vectorMasked v then setPba { t with mxAcc := mapSet (fun _ => 0) t.mxAcc v (mapGet (fun _ => 0) t.mxAcc v + 1) } v 1 else issueMsix t v)
      { s.m with pcie := { s.m.pcie with l0 := true }, mxHeld := [], mxEpisode := false })) ∧
    (s.m.mxAcc = [] → Ends (.msixUnmask (some v)) s (fun m => m.f (MX_VCTRL_mask v') = 0 ∧ m.out = s.m.out ∧ OnlyRegs [MX_VCTRL v'] s.m m ∧
        Only [.regs] s.m m) ∧ Ends (.msixUnmask none) s (fun m => m.pcie = { s.m.pcie with funcMask := false } ∧ Only [.pcie] s.m m) ∧
      (s.m.mxHeld = [] → Ends .pcieLinkL0Return s (fun m => m.pcie = { s.m.pcie with l0 := true } ∧ m.mxEpisode = false ∧
        Only [.pcie, .mxEpisode] s.m m))) ∧
    (s.m.mxAcc = [(v', n)] → s.m.pcie.bme = true → s.m.pcie.d3hot = false → s.m.pcie.l0 = true →
      (s.m.pcie.funcMask = false → Ends (.msixUnmask (some v)) s (fun m =>
        m.out = s.m.out ++ [.msix (s.m.n (MX_ADDR v')) (s.m.n (MX_DATA v'))] ∧ m.f ⟨MX_PBA (v' / 64), v' % 64, 1⟩ = 0 ∧
        mapGet (fun _ => 0) m.mxAcc v' = 0 ∧ m.n (MX_CNT 2) = (s.m.n (MX_CNT 2) + 1) % 2 ^ 64 ∧ Only [.regs, .out, .mxAcc] s.m m)) ∧
      (s.m.f (MX_VCTRL_mask v') = 0 → Ends (.msixUnmask none) s (fun m =>
        m.out = s.m.out ++ [.msix (s.m.n (MX_ADDR v')) (s.m.n (MX_DATA v'))] ∧ m.f ⟨MX_PBA (v' / 64), v' % 64, 1⟩ = 0 ∧
        Only [.regs, .out, .mxAcc, .pcie] s.m m))) ∧
    (s.m.mxHeld = [v'] → s.m.mxAcc = [] → s.m.vectorMasked v' = false → Ends .pcieLinkL0Return s (fun m => m.mxHeld = [] ∧
      m.out = s.m.out ++ [.msix (s.m.n (MX_ADDR v')) (s.m.n (MX_DATA v'))] ∧ m.pcie.l0 = true ∧
      Only [.regs, .out, .pcie, .mxHeld, .mxEpisode] s.m m))) ∧
  (∀ (s : State) (i : Fin 4096) (u : Option (Fin 2 × Fin 4096 × Fin 10 × U64)),
    let t := reflexUpset s.m u
    ((∀ w, w < 10 → copyBits t 0 i w = copyBits t 1 i w) → Leaves (.reflexTableCompare i u) s t) ∧
    (∀ w, w < 10 → copyBits t 0 i w ≠ copyBits t 1 i w → Ends (.reflexTableCompare i u) s (fun m => m.tocsin = t.tocsin ∧ m.f TX_EVENT_table_mismatch = 1 ∧
      m.n (TX_CNT 7) = (s.m.n (TX_CNT 7) + 1) % 2 ^ 64 ∧ OnlyRegs [TX_CNT 7, TX_EVENT] s.m m ∧ Only [.regs, .tocsin, .work] s.m m))) ∧
  (∀ (s : State) (k : Fin 6) (level : Bool),
    let x : RF := ⟨PW_DIO, k.val + 2, 1⟩
    let t := s.m.setF x (b2n level)
    let r := reflexOf t none { type := 0x8, cls := 0, src := 0, word := (0xFFE8 + k.val) * 65536 + b2n level, len := 0 }
    (s.m.b x = level → Leaves (.interlockInputChange k level) s s.m) ∧
    (s.m.b x ≠ level →
      Leaves (.interlockInputChange k level) s (tocsinServe t r 0 false) ∧
      (s.m.tocsin.copies = [] → reflexFind t 0 (0xFFE8 + k.val) (b2n level) = none → Ends (.interlockInputChange k level) s (fun m =>
        m.f x = b2n level ∧ m.n (TX_CNT 1) = (s.m.n (TX_CNT 1) + 1) % 2 ^ 64 ∧
        m.work = s.m.work ++ [.event { id := 0xFFE8 + k.val, cond := b2n level, source := 0, time := s.m.now, flags := 0, payload := [], urgent := true }] ∧
        OnlyRegs [PW_DIO, TX_CNT 1] s.m m ∧ Only [.regs, .work] s.m m)) ∧
      (∀ i, s.m.tocsin.copies = [] → reflexFind t 0 (0xFFE8 + k.val) (b2n level) = some i → transitHop s.m = true →
        Ends (.interlockInputChange k level) s (fun m => m.f x = b2n level ∧
          m.n (TX_CNT 0) = (s.m.n (TX_CNT 0) + 1) % 2 ^ 64 ∧ OnlyRegs [PW_DIO, TX_CNT 0] s.m m ∧ Only [.regs, .work] s.m m)) ∧
      (r.same = false → Ends (.interlockInputChange k level) s (fun m => m.f x = b2n level ∧ m.f TX_EVENT_disagree = 1 ∧
        m.f TX_DIS_match_a = b2n r.a.isSome ∧ m.f TX_DIS_match_b = b2n r.b.isSome ∧ m.n (TX_CNT 3) = (s.m.n (TX_CNT 3) + 1) % 2 ^ 64 ∧
        Only [.regs, .tocsin, .work, .freeCtr] s.m m))))

/-- Packets of the on-die network, port isolation and release, and the power-down and wake of clusters. A packet enters the mesh once its
bucket or its urgent limit lets it, and waits at its port till then; its path goes along the row first, then along the column; at its
destination it is delivered, waits or is absorbed by the port's state; an unfinished one counts towards its target's isolation; an idle
cluster powers down and is woken. Clauses on the region and master shown, the urgent limit, isolated ports and the order of service state
the model's choice (log entries 69, 70, 72 and 75). Rests on R482 to R506, R510, R525, of which it states the part said here. -/
def Obligations.NetworkResults : Prop :=
  (∀ (s : State) (src dst : Fin 24) (sp dp : Fin 4) (m : BitVec 7) (cls : Fin 4) (op : BitVec 4) (tag : BitVec 10) (ad : BitVec 48) (bs : U64) (code : Byte) (data : List Byte),
    let c : Instr := .nocPacketInject src dst sp dp m cls op tag ad bs code data
    let k : NocPacket := { src := src.val, dst := dst.val, sport := sp.val, dport := dp.val, master := m.toNat, cls := cls.val,
                           op := op.toNat, tag := tag.toNat, addr := ad.toNat, bseq := bs.toNat, code := code.toNat, data := data }
    let a := nocAdmit s.m
    let b : Mach := { a with noc := { a.noc with serial := a.noc.serial + 1 } }
    let j : NocPacket := { k with id := a.noc.serial + 1, urgent := cls.val == 0 }
    let z : NocPacket := { j with injected := s.m.cycles }
    let rate := (nocReg s.m src cls).1
    let fl := k.flits
    (nocVn k.op = none ∨ 1024 < data.length → Leaves c s a) ∧
    (nocVn k.op ≠ none → data.length ≤ 1024 →
      (nocVn k.op ≠ some 1 → tileMaster a src m.toNat = false → Leaves c s (nocMismatch a k)) ∧
      (nocVn k.op ≠ some 1 → tileMaster a src m.toNat = false → s.m.noc.queue = [] → Ends c s (fun t =>
        t.f PT_EVENT_id_mismatch = 1 ∧ t.noc = s.m.noc ∧ t.f (⟨PT_FAULT, 45, 4⟩ : RF) = 6 ∧
        t.n (PT_DENY_CNT m.toNat) = (s.m.n (PT_DENY_CNT m.toNat) + 1) % 2 ^ 64 ∧
        (nocVn k.op = some 0 → t.out = s.m.out ++ [.answer k.master 0x15 []]))) ∧
      (nocVn k.op = some 1 ∨ tileMaster a src m.toNat = true →
        (src.val ≠ 5 → Leaves c s (nocArrive b j)) ∧
        (src.val = 5 → Leaves c s (let p := nocDemote b j
                                   let w := { p.2 with link := p.2.flits, injected := b.cycles }
                                   dvQueue { p.1 with noc := { p.1.noc with coming := p.1.noc.coming ++ [w] } } 1 w)) ∧
        (src.val ≠ 5 → s.m.noc.queue = [] →
          (cls.val ≠ 0 ∨ fl ≤ 2 →
            (∀ t0, nocReady s.m z = some t0 → t0 ≤ s.m.cycles → Ends c s (fun t =>
              t.noc.packets = s.m.noc.packets ++ [{ z with place := z.flits :: List.replicate z.path.length 0 }] ∧ t.noc.queue = [] ∧
              t.n (NC_ST_CNT k.master 0) = (s.m.n (NC_ST_CNT k.master 0) + 1) % 2 ^ 64 ∧ Only [.regs, .noc] s.m t)) ∧
            ((∀ t0, nocReady s.m z = some t0 → s.m.cycles < t0) → Ends c s (fun t => t.noc.packets = s.m.noc.packets ∧ t.noc.queue = [z] ∧ Only [.noc] s.m t))) ∧
          (cls.val ≠ 0 → nocVn k.op ≠ some 1 → rate ≠ 0 →
            (fl * 1000 ≤ nocTokens s.m src cls → Ends c s (fun t =>
              t.noc.bucket = mapIns s.m.noc.bucket (src.val * 4 + cls.val) (nocTokens s.m src cls - fl * 1000, s.m.cycles) ∧ t.noc.queue = [])) ∧
            (nocTokens s.m src cls < fl * 1000 → Ends c s (fun t => t.noc.queue = [z] ∧ Only [.noc] s.m t))) ∧
          (cls.val = 0 → 2 < fl → Ends c s (fun t => t.f NC_EVENT_urgent_demote = 1 ∧ t.n (NC_CNT 5) = (s.m.n (NC_CNT 5) + 1) % 2 ^ 64)))))) ∧
  (∀ src dst : Fin 24,
    let l := nocPath src dst
    l.head? = some src.val ∧ l.getLast? = some dst.val ∧ l.length = absDiff (src.val % 6) (dst.val % 6) + absDiff (src.val / 6) (dst.val / 6) + 1 ∧
    (∀ i x y, l[i]? = some x → l[i + 1]? = some y → (x / 6 = y / 6 ∧ absDiff (x % 6) (y % 6) = 1) ∨ (x % 6 = dst.val % 6 ∧ y % 6 = x % 6 ∧ absDiff (x / 6) (y / 6) = 1))) ∧
  (∀ (s : State) (i hop : Nat) (noise : List (BitVec 264)),
    let a := nocAdmit s.m
    (a.noc.packets[i]? = none → Leaves (.nocPacketDeliver i hop noise) s a) ∧
    (∀ k0, a.noc.packets[i]? = some k0 →
      let r := nocRun (nocWork a) a k0.id
      (k0.delivered = true ∨ dovetailHolds a k0 = true → Leaves (.nocPacketDeliver i hop noise) s a) ∧
      (k0.delivered = false → dovetailHolds a k0 = false →
        (r.nocPacket k0.id = none → Leaves (.nocPacketDeliver i hop noise) s r) ∧
        (∀ k, r.nocPacket k0.id = some k →
          (nocOut r k.id = false ∨ nocFirst r k = false → Leaves (.nocPacketDeliver i hop noise) s r) ∧
          (nocOut r k.id = true → nocFirst r k = true → ∀ t, t = nocParity r k hop noise → 
            Leaves (.nocPacketDeliver i hop noise) s (nocAtPort t k noise) ∧
            (nocCrcBad k noise = true → (nocAtPort t k noise).f NC_EVENT_crc_err = 1 ∧ (∀ q ∈ (nocAtPort t k noise).noc.packets, q.id ≠ k.id) ∧
              (nocVn k.op = some 0 → (nocAtPort t k noise).out = t.out ++ [.answer k.master 0x15 []])) ∧
            (nocCrcBad k noise = false → t.port k.dst = 2 → nocVn k.op = some 0 → (∀ q ∈ (nocAtPort t k noise).noc.packets, q.id ≠ k.id) ∧
              (nocAtPort t k noise).out = t.out ++ [.answer k.master 0x15 []]) ∧
            (nocCrcBad k noise = false → t.port k.dst ≠ 0 → t.port k.dst ≠ 2 → k.waits = false →
              (nocAtPort t k noise).noc.packets = mapWhere (fun q => q.id == k.id) (fun q => { q with waits := true }) t.noc.packets ∧
              (nocAtPort t k noise).f (NC_PORT_STATUS_wake_req k.dst) = 1) ∧
            (nocCrcBad k noise = false → t.port k.dst = 0 → k.dst ≠ 5 → (nocAtPort t k noise).n (NC_CNT 0) = (t.n (NC_CNT 0) + 1) % 2 ^ 64 ∧
              (nocVn k.op = some 0 → (nocAtPort t k noise).noc.packets =
                mapWhere (fun q => q.id == k.id) (fun q => { q with delivered := true, link := 0 }) t.noc.packets) ∧
              (nocVn k.op = some 2 → ∀ q ∈ (nocAtPort t k noise).noc.packets, q.id ≠ k.id))))))) ∧
  (∀ (s : State) (i : Nat),
    (s.m.noc.packets[i]? = none → Leaves (.nocTargetTimeout i) s s.m ∧ Leaves (.dovetailPortHoldExpire false i) s s.m) ∧
    (∀ k : NocPacket, s.m.noc.packets[i]? = some k →
      let gone (m : Mach) : Prop := m.noc.packets = s.m.noc.packets.filter (fun q => q.id != k.id) ∧
        (nocVn k.op = some 0 → m.out = s.m.out ++ [.answer k.master 0x15 []])
      (k.waits = true ∨ dovetailHolds s.m k = true → Leaves (.nocTargetTimeout i) s s.m) ∧
      (k.waits = false → dovetailHolds s.m k = false → Ends (.nocTargetTimeout i) s (fun m => nocDue k ≤ m.cycles ∧ gone m ∧
        mapGet (fun _ => 0) m.noc.run k.dst = mapGet (fun _ => 0) s.m.noc.run k.dst + 1)) ∧
      (dovetailHolds s.m k = false → Leaves (.dovetailPortHoldExpire false i) s s.m) ∧
      (dovetailHolds s.m k = true → Ends (.dovetailPortHoldExpire false i) s (fun m => k.injected + 4000 ≤ m.cycles ∧ gone m))) ∧
    (s.m.req i = none → Leaves (.dovetailPortHoldExpire true i) s s.m) ∧
    (∀ q, s.m.req i = some q → (q.held = false → Leaves (.dovetailPortHoldExpire true i) s s.m) ∧
      (q.held = true → Leaves (.dovetailPortHoldExpire true i) s (reqFail (s.m.upTo (q.tAcc + 4000)) i 0x15 true)))) ∧
  (∀ (s : State) (r : Fin 24),
    let n := mapGet (fun _ => 0) s.m.noc.run r.val
    let cut (cause : Nat) (m : Mach) : Prop := m.port r = 2 ∧ m.f NC_ISO_INFO_router = r.val ∧ m.f NC_ISO_INFO_cause = cause ∧
      (cause = 1 → m.f NC_EVENT_isolated = 1) ∧ (∀ k ∈ m.noc.packets, k.dst ≠ r.val) ∧ (∀ g ∈ m.noc.waiting, g.router ≠ r.val)
    (s.m.port r ≠ 2 → isoAfter s.m ≤ n → Ends (.nocPortIsolate r) s (cut 1)) ∧
    (s.m.port r = 2 ∨ n < isoAfter s.m → Leaves (.nocPortIsolate r) s s.m) ∧
    (s.m.port r ≠ 2 → Ends (.ncPortIsolateWrite r) s (cut 2)) ∧
    (s.m.port r = 2 → Leaves (.ncPortIsolateWrite r) s s.m ∧ Ends (.ncPortRelease r) s (fun m => m.port r = nocHome s.m r ∧
      mapGet (fun _ => 0) m.noc.run r.val = 0 ∧ m.noc.packets = s.m.noc.packets ∧ OnlyRegs [NC_PORT_STATUS r] s.m m ∧
      Only [.regs, .noc] s.m m)) ∧
    (s.m.port r ≠ 2 → Leaves (.ncPortRelease r) s s.m)) ∧
  (∀ (s : State) (c : Fin 16),
    let r := s.m.clRouter c
    let ph := s.m.clPower c
    let idle : Prop := s.m.b (EN_CL_CTRL_gate_en c) = true ∧ clusterIdle s.m c = true ∧ ph.1 = 0 ∧ s.m.port r = 0
    (idle → mapGet (fun _ => []) s.m.portQ c.val = [] → Ends (.clusterGateIdleExpire c) s (fun m => gateDue s.m c ≤ m.cycles ∧ m.clPower c = (1, m.cycles) ∧ m.port r = 1 ∧
      OnlyRegs [NC_PORT_STATUS r] s.m m ∧ Only [.regs, .noc, .portQ, .now, .sub, .cycles, .hSkew] s.m m)) ∧
    (idle → Leaves (.clusterGateIdleExpire c) s ((drainPortAll ((s.m.upToC (gateDue s.m c)).setClPower c 1) c).setF (NC_PORT_STATUS_state r) 1)) ∧
    (¬ idle → Leaves (.clusterGateIdleExpire c) s s.m) ∧
    (ph.1 = 1 → Ends (.clusterSwitchOpen c) s (fun m => ph.2 + 1000 ≤ m.cycles ∧ m.clPower c = (2, m.cycles) ∧ m.port r = (if s.m.port r = 2 then 2 else 3) ∧
      OnlyRegs [NC_PORT_STATUS r] s.m m ∧ Only [.regs, .noc, .now, .sub, .cycles, .hSkew] s.m m)) ∧
    (ph.1 ≠ 1 → Leaves (.clusterSwitchOpen c) s s.m) ∧
    (s.m.port r = 2 → Leaves (.clusterWake c) s s.m) ∧
    (ph.1 = 1 → s.m.port r ≠ 2 → s.m.noc.waiting = [] → Ends (.clusterWake c) s (fun m => m.clPower c = (0, 0) ∧ m.port r = 0 ∧
      m.f NC_EVENT_wake_abort = 1 ∧ m.f (NC_PORT_STATUS_wake_req r) = 0 ∧ Only [.regs, .noc, .work] s.m m)) ∧
    (ph.1 = 2 → s.m.port r = 3 → Ends (.clusterWake c) s (fun m => m.clPower c = (3, s.m.cycles) ∧ m.f (NC_PORT_STATUS_wake_req r) = 1 ∧
      m.port r = 3 ∧ OnlyRegs [NC_PORT_STATUS r] s.m m ∧ Only [.regs, .noc] s.m m)) ∧
    (ph.1 ≠ 1 → ph.1 ≠ 2 → s.m.port r ≠ 0 → Leaves (.clusterWake c) s s.m) ∧
    (ph.1 ≠ 1 → ph.1 ≠ 2 → s.m.port r = 0 → Leaves (.clusterWake c) s (windowRelease (nocRelease s.m r) r)) ∧
    (ph.1 ≠ 3 ∨ s.m.port r = 2 → Leaves (.clusterWakeDone c) s s.m) ∧
    (ph.1 = 3 → s.m.port r ≠ 2 → s.m.noc.waiting = [] → Ends (.clusterWakeDone c) s (fun m => ph.2 + 3500 ≤ m.cycles ∧ m.clPower c = (0, 0) ∧
      m.port r = 0 ∧ m.f (NC_PORT_STATUS_wake_req r) = 0 ∧ (∀ k ∈ m.noc.packets, k.dst = r → k.waits = false) ∧
      OnlyRegs [NC_PORT_STATUS r] s.m m ∧ Only [.regs, .noc, .now, .sub, .cycles, .hSkew] s.m m))) ∧
  (∀ s : State, Ends .ptClearFirst s (fun m => m.f PT_FIRST_valid = 0 ∧ m.f PT_FIRST_rest = s.m.f PT_FIRST_rest ∧
    OnlyRegs [PT_FIRST] s.m m ∧ Only [.regs] s.m m))

/-- The journal's writer and reader ports, the image movers and the scrubber. The front entry of the queue goes to its slot when its range
is open and allowed; a reader's cursor moves on, past what is no longer kept; a mover's descriptor starts at its time, transfers, and ends
with its count or its code; the scrubber corrects or marks the words of a line. Rests on R357, R542 to R549, R551, R552, R554, R555, of
which it states the part said here. -/
def Obligations.JournalAndMoverResults : Prop :=
  (∀ (s : State), s.m.jq = [] → Leaves .journalEntryWrite s s.m) ∧
  (∀ (s : State) (e : JEntry) (t : List JEntry), s.m.jq = e :: t →
    let a := jSlot s.m e.seq
    let open_ : Prop := s.m.noJournal = false ∧ jSlots s.m ≠ 0 ∧ s.m.dramReach a = true
    let counts (m : Mach) : Prop := m.jq = t ∧ m.f JN_STATUS_queue = t.length % 2 ^ 13 ∧ m.n JN_DONE = (e.seq + 1) % 2 ^ 64 ∧
      m.n JN_LOW = (m.n JN_DONE + 1 - jSlots s.m) % 2 ^ 64 ∧ m.n (JN_CNT 0) = (s.m.n (JN_CNT 0) + 1) % 2 ^ 64
    (¬ open_ → Leaves .journalEntryWrite s s.m) ∧
    (open_ → unitCheck s.m 0x51 needW (0x400000000 + a) 32 = (s.m, true) → s.m.jDropFull = 0 →
      Ends .journalEntryWrite s (fun m => m.dramRead a 32 = jBytes e ∧
        (∀ k, k < a ∨ a + 32 ≤ k → m.dramRead k 1 = s.m.dramRead k 1) ∧ counts m ∧
        OnlyRegs [JN_STATUS, JN_CNT 0, JN_DONE, JN_LOW] s.m m ∧ Only [.regs, .dram, .dramBad, .engines, .jq] s.m m)) ∧
    (∀ u, open_ → unitCheck s.m 0x51 needW (0x400000000 + a) 32 = (u, false) → Ends .journalEntryWrite s (fun m => m.dram = s.m.dram ∧ counts m)) ∧
    (open_ → 0 < s.m.jDropFull → s.m.b JN_CTRL_jrn_en = true → t.length < 4096 → Ends .journalEntryWrite s (fun m => m.jDropFull = 0 ∧ counts m ∧
      Work.journal s.m.now 0x3E (gapRest 1 s.m.jDropFull) ∈ m.work))) ∧
  (∀ (s : State) (r : Fin 4) (m : BitVec 7) (v : U64),
    let c := s.m.n (JN_RD_CUR r)
    let answers (x cur : Nat) (t : Mach) : Prop := t.out = s.m.out ++ [.regRead m.toNat (JN_RD_ENTRY r 0) x] ∧ t.n (JN_RD_CUR r) = cur % 2 ^ 64 ∧
      OnlyRegs [JN_RD_CUR r] s.m t ∧ Only [.regs, .jLatch, .out] s.m t
    (s.m.dramReach (jSlot s.m c) = true →
      Ends (.journalReaderRead m r) s (answers ((jReader s.m r).1.getD 0 0) (jReader s.m r).2) ∧
      (c < s.m.n JN_LOW → Ends (.journalReaderRead m r) s (answers c (s.m.n JN_LOW))) ∧
      (s.m.n JN_LOW ≤ c → c = s.m.n JN_DONE → Ends (.journalReaderRead m r) s (answers 0 c)) ∧
      (s.m.n JN_LOW ≤ c → c ≠ s.m.n JN_DONE → mpuOpen s.m 0x51 = true → Ends (.journalReaderRead m r) s (answers (s.m.dramNat (jSlot s.m c) 8) (c + 1)))) ∧
    (s.m.dramReach (jSlot s.m c) = false → Leaves (.journalReaderRead m r) s s.m) ∧
    Ends (.journalCursorWrite r v) s (fun t => t.n (JN_RD_CUR r) = (if s.m.n JN_DONE < v.toNat then s.m.n JN_DONE else v.toNat) ∧
      OnlyRegs [JN_RD_CUR r] s.m t ∧ Only [.regs] s.m t)) ∧
  (∀ (s : State) (v : Bool), Ends (.jnDegradeWrite v) s (fun m => m.f JN_CTRL_degrade = b2n v ∧ OnlyRegs [JN_CTRL] s.m m ∧ Only [.regs] s.m m)) ∧
  (∀ (s : State) (m : BitVec 7) (c : Fin 8) (w3 : U64),
    let w (k : Nat) : Nat := mapGet (fun _ => 0) s.m.mvWords ((m.toNat * 8 + c.val) * 4 + k)
    let x := s.m.mover c
    (x.q.length < 16 → Ends (.moverDescEnqueue m c w3) s (fun t => t.mover c = { x with q := x.q ++ [mvDesc (w 0) (w 1) (w 2)] } ∧
      t.f (JN_MV_COUNT_count c) = x.q.length + 1 ∧ OnlyRegs [JN_MV_COUNT c] s.m t ∧ Only [.regs, .movers] s.m t)) ∧
    (16 ≤ x.q.length → Ends (.moverDescEnqueue m c w3) s (fun t => t.mover c = { x with late := x.late ++ [mvDesc (w 0) (w 1) (w 2)] } ∧
      OnlyRegs [JN_MV_COUNT c] s.m t ∧ Only [.regs, .movers] s.m t))) ∧
  (∀ (s : State) (c : Fin 8),
    let x := s.m.mover c
    (x.q = [] ∨ x.run ≠ none → Leaves (.moverStart c) s s.m) ∧
    (x.q = [] ∨ x.run = none → ∀ data ok, Leaves (.moverDone c data ok) s s.m) ∧
    (x.run = none ∨ s.m.pcie.bme = true → Leaves (.moverBmeTimeout c) s s.m) ∧
    (x.run ≠ none → s.m.pcie.bme = false → Ends (.moverBmeTimeout c) s (fun m => s.m.pcie.bmeAt + 1000000001 ≤ m.cycles ∧
      m.mover c = { q := x.q.drop 1 ++ x.late.take 1, late := x.late.drop 1, run := none } ∧ m.f JN_EVENT_mv_err = 1 ∧ m.f (JN_MV_ERR_done c) = 0 ∧
      Only [.regs, .movers, .work, .freeCtr, .now, .sub, .cycles, .hSkew] s.m m))) ∧
  (∀ (s : State) (c : Fin 8) (d : MvDesc) (l : List MvDesc),
    let x := s.m.mover c
    let next : Mover := { q := l ++ x.late.take 1, late := x.late.drop 1, run := none }
    let stays : Prop := s.m.pcie.d3hot = true ∨ s.m.b CT_CLAMP_movers = true ∨ (d.wait = true ∧ (5 < d.ph ∨ s.m.b BT_STATUS_beat_run = false))
    x.q = d :: l →
    (x.run = none → stays → Leaves (.moverStart c) s s.m) ∧
    (x.run = none → ¬ stays →
      (d.dir = 1 ∧ (d.kind = 1 ∨ d.kind = 3) → Ends (.moverStart c) s (fun m => m.f (JN_MV_ERR_code c) = 7 ∧
        m.f (JN_MV_ERR_done c) = 0 ∧ m.f JN_EVENT_mv_err = 1 ∧ m.mover c = next)) ∧
      (¬ (d.dir = 1 ∧ (d.kind = 1 ∨ d.kind = 3)) → d.kind = 0 → s.m.noJournal = true ∨ s.m.dramOk = false → Ends (.moverStart c) s (fun m =>
        m.f (JN_MV_ERR_code c) = 0x15 ∧ m.f (JN_MV_ERR_done c) = 0 ∧ m.f JN_EVENT_mv_err = 1 ∧ m.mover c = next)) ∧
      (¬ (d.dir = 1 ∧ (d.kind = 1 ∨ d.kind = 3)) → d.kind ≠ 0 ∨ (s.m.noJournal = false ∧ s.m.dramOk = true) →
        Ends (.moverStart c) s (fun m => m.mover c = { x with run := some (if d.kind = 2 then outBank (s.m.beatNum + 1) else inBank s.m.beatNum) } ∧
          (d.wait = true → phaseNext s.m d.ph ≤ m.now) ∧ OnlyRegs [JN_MV_COUNT c] s.m m ∧ Only [.regs, .movers, .now, .sub, .cycles, .hSkew] s.m m))) ∧
    (∀ bank data ok, x.run = some bank →
      let g := 0x48 + c.val
      let w := mvRanges s.m d bank
      (s.m.pcie.bme = false → Leaves (.moverDone c data ok) s s.m) ∧
      (s.m.pcie.bme = true → d.dir = 0 →
        let r := mvRun s.m g needR true w
        let u := if 0 < r.1 then s.m.emit (.memWrite d.host ((mvRead s.m w).take r.1)) else s.m
        (r.2.1 = 0 → Leaves (.moverDone c data ok) s (mvDone u c d.ev)) ∧
        (r.2.1 ≠ 0 → Leaves (.moverDone c data ok) s (mvStop u c g needR r.1 r.2.1 r.2.2)) ∧
        (r.2.1 = 0 → d.ev = false → Ends (.moverDone c data ok) s (fun m => m.out = u.out ∧ m.f (JN_MV_DONE_count c) = (s.m.f (JN_MV_DONE_count c) + 1) % 2 ^ 32 ∧
          m.mover c = next ∧ OnlyRegs [JN_MV_DONE c, JN_MV_COUNT c] s.m m ∧ Only [.regs, .out, .movers] s.m m))) ∧
      (s.m.pcie.bme = true → d.dir ≠ 0 →
        let n := satAt d.len data.length
        let r := mvRun s.m g needW false w
        let k := satAt n r.1
        let u := mvWrite g (s.m.emit (.memRead d.host d.len)) w (data.take k)
        (r.2.1 ≠ 0 → r.1 ≤ n → Leaves (.moverDone c data ok) s (mvStop u c g needW r.1 r.2.1 r.2.2)) ∧
        (r.2.1 = 0 ∨ n < r.1 → ok = true → n = d.len → Leaves (.moverDone c data ok) s (mvDone u c d.ev)) ∧
        (r.2.1 = 0 ∨ n < r.1 → ok = false ∨ n ≠ d.len → Leaves (.moverDone c data ok) s (mvFailFree u c k)) ∧
        (d.ev = false → ok = true → d.kind = 0 → s.m.noJournal = false → d.len = data.length → r = (d.len, 0, 0) →
          Ends (.moverDone c data ok) s (fun m => m.out = s.m.out ++ [.memRead d.host d.len] ∧ m.dramRead (d.loc % 2 ^ 34) d.len = data ∧
            (∀ k, k < d.loc % 2 ^ 34 ∨ d.loc % 2 ^ 34 + d.len ≤ k → m.dramRead k 1 = s.m.dramRead k 1) ∧
            Only [.regs, .out, .movers, .dram, .dramBad, .engines] s.m m))))) ∧
  (∀ (s : State) (line : BitVec 28) (corr bad : BitVec 8),
    let a := line.toNat * 64
    let c := unitCheck s.m 0x51 needR (0x400000000 + a) 64
    (s.m.b JN_CTRL_scrub_en = false ∨ s.m.dramReach a = false → Leaves (.scrubLine line corr bad) s s.m) ∧
    (s.m.b JN_CTRL_scrub_en = true → s.m.dramReach a = true → c.2 = false → Leaves (.scrubLine line corr bad) s c.1) ∧
    (s.m.b JN_CTRL_scrub_en = true → s.m.dramReach a = true → c = (s.m, true) → Ends (.scrubLine line corr bad) s (fun m => m.dram = s.m.dram ∧
      (∀ w, w ∈ m.dramBad ↔ w ∈ s.m.dramBad ∨ ∃ i, i < 8 ∧ bitAt bad.toNat i = true ∧ w = a / 8 + i) ∧
      (corr ≠ 0 → bad = 0 → m.f JN_EVENT_ecc_corr = 1) ∧ (bad ≠ 0 → m.f JN_EVENT_ecc_uncorr = 1) ∧
      OnlyRegs [JN_CNT 6, JN_CNT 7, JN_EVENT] s.m m ∧ Only [.regs, .dramBad, .work] s.m m)))

/-- Clamps, the clearing of the error log, and the self-tests with the codes of their status register. Rests on R558 to R569, of which it
states the part said here. -/
def Obligations.ClampAndSelfTestResults : Prop :=
  (∀ (s : State) (p : Fin 8) (q : Fin 2) (set : Bool),
    let c : RF := ⟨CT_CLAMP, p.val, 1⟩
    let d : RF := ⟨CT_CLAMP, 8 + q.val, 1⟩
    (bitAt (s.m.n CT_CLAMP) p = set → Leaves (.clampRingPort p set) s s.m) ∧
    (bitAt (s.m.n CT_CLAMP) p = false → Leaves (.clampRingPort p true) s (portRefresh (clampSet s.m p) p 6) ∧
      (s.m.f (RG_PORT_STATUS_state p) ≠ psUp → (portRefresh (clampSet s.m p) p 6).f (RG_PORT_STATUS_state p) =
        if s.m.b (RG_PORT_CFG_enable p) = true ∧ (s.m.f (RG_PORT_STATUS_state p) ≠ psDisabled ∨
          (s.m.b (RG_SFP_STATUS_present p) = true ∧ s.m.b (RG_SFP_STATUS_tx_fault p) = false)) then psDown else psDisabled) ∧
      (clampSet s.m p).f c = 1 ∧ (clampSet s.m p).n (CT_CNT 0) = (s.m.n (CT_CNT 0) + 1) % 2 ^ 64) ∧
    (bitAt (s.m.n CT_CLAMP) p = true → Leaves (.clampRingPort p false) s (portRefresh (s.m.setF c 0) p 6)) ∧
    (bitAt (s.m.n CT_CLAMP) (8 + q.val) = set → Leaves (.clampUhluxPort q set) s s.m) ∧
    (bitAt (s.m.n CT_CLAMP) (8 + q.val) = !set → Ends (.clampUhluxPort q set) s (fun m => m.f d = b2n set ∧
      m.n (CT_CNT 0) = (s.m.n (CT_CNT 0) + b2n set) % 2 ^ 64 ∧ OnlyRegs [CT_CLAMP, CT_CNT 0] s.m m ∧ Only [.regs, .work] s.m m)) ∧
    (s.m.b CT_CLAMP_dram = set → Leaves (.clampDram set) s s.m) ∧
    (s.m.b CT_CLAMP_dram = !set → set = false ∨ s.m.f TW_STATUS_role ≠ 1 → Ends (.clampDram set) s (fun m => m.f CT_CLAMP_dram = b2n set ∧
      (set = true → m.dramOk = false) ∧ OnlyRegs [CT_CLAMP, CT_CNT 0, JN_STATUS] s.m m ∧ Only [.regs, .work] s.m m)) ∧
    (s.m.b CT_CLAMP_dram = false → s.m.f TW_STATUS_role = 1 → let a := (clampSet s.m 10).setF JN_STATUS_dram_ok 0
      Leaves (.clampDram true) s (twinGiveUp a) ∧ a.f CT_CLAMP_dram = 1 ∧ a.f JN_STATUS_dram_ok = 0) ∧
    (s.m.b CT_CLAMP_movers = set → Leaves (.clampMovers set) s s.m) ∧
    (s.m.b CT_CLAMP_movers = !set → Ends (.clampMovers set) s (fun m => m.f CT_CLAMP_movers = b2n set ∧
      (set = true → ∀ k, k < 8 → m.mover k = {} ∧ ((s.m.mover k).run.isSome = true → m.f (JN_MV_ERR_code k) = 0x15 ∧ m.f (JN_MV_ERR_done k) = 0 ∧
        m.f JN_EVENT_mv_err = 1)) ∧ Only [.regs, .movers, .work] s.m m)) ∧
    (s.m.b CT_CLAMP_tenon = set → Leaves (.clampTenon set) s s.m) ∧
    (s.m.b CT_CLAMP_tenon = !set → Leaves (.clampTenon set) s (if set then tenonDown (clampSet s.m 12) else s.m.setF CT_CLAMP_tenon 0) ∧
      (clampSet s.m 12).f CT_CLAMP_tenon = 1)) ∧
  (∀ s : State, Ends .errorLogClear s (fun m => m.log = [] ∧ m.folds = [] ∧ m.n CT_LOG_STATUS = 0 ∧ OnlyRegs [CT_LOG_STATUS] s.m m ∧
    Only [.regs, .log, .folds] s.m m)) ∧
  (∀ (s : State) (c : Fin 16) (p : Fin 16) (mig : Bool),
    let r : TestRun := { kind := 0, target := c.val, migrate := mig }
    let w : TestRun := { kind := 1, target := p.val, migrate := false }
    let shows (code : Nat) (m : Mach) : Prop := m.f CT_TEST_STATUS_code = code ∧ OnlyRegs [CT_TEST_STATUS] s.m m ∧ Only [.regs] s.m m
    let runs (x : TestRun) (m : Mach) : Prop := m.f CT_TEST_STATUS_code = 2 ∧ m.test = { s.m.test with run := some { x with at_ := s.m.cycles } } ∧
      m.n (CT_CNT 1) = (s.m.n (CT_CNT 1) + 1) % 2 ^ 64 ∧ OnlyRegs [CT_TEST_STATUS, CT_CNT 1] s.m m ∧ Only [.regs, .test] s.m m
    (8 ≤ p.val → Ends (.selfTestRingRecal p) s (shows 0xC)) ∧
    (s.m.test.run = none →
      (s.m.b (EN_CL_CLAMP_clamp c) = true → Ends (.selfTestClusterBist c mig) s (runs r)) ∧
      (s.m.b (EN_CL_CLAMP_clamp c) = false → mig = false → Ends (.selfTestClusterBist c mig) s (shows 8)) ∧
      (s.m.b (EN_CL_CLAMP_clamp c) = false → mig = true → migrateRefusal s.m c ≠ 0 → Ends (.selfTestClusterBist c mig) s (fun m =>
        m.f CT_TEST_STATUS_code = 0xA ∧ m.f EN_MIGRATE_result = migrateRefusal s.m c ∧ m.test = s.m.test)) ∧
      (s.m.b (EN_CL_CLAMP_clamp c) = false → mig = true → migrateRefusal s.m c = 0 →
        Leaves (.selfTestClusterBist c mig) s (migrateRequest (testRun s.m { r with moving := true }) c true)) ∧
      (p.val < 8 → recalSafe s.m p = true → Ends (.selfTestRingRecal p) s (runs w)) ∧
      (p.val < 8 → recalSafe s.m p = false → Ends (.selfTestRingRecal p) s (shows 0xB))) ∧
    (s.m.test.run ≠ none → s.m.test.next = none →
      Ends (.selfTestClusterBist c mig) s (fun m => m.f CT_TEST_STATUS_code = 1 ∧ m.f CT_TEST_STATUS_queued = 1 ∧
        m.test = { s.m.test with next := some r } ∧ OnlyRegs [CT_TEST_STATUS] s.m m ∧ Only [.regs, .test] s.m m) ∧
      (p.val < 8 → Ends (.selfTestRingRecal p) s (fun m => m.f CT_TEST_STATUS_code = 1 ∧ m.f CT_TEST_STATUS_queued = 1 ∧
        m.test = { s.m.test with next := some w } ∧ OnlyRegs [CT_TEST_STATUS] s.m m ∧ Only [.regs, .test] s.m m))) ∧
    (s.m.test.run ≠ none → s.m.test.next ≠ none → Ends (.selfTestClusterBist c mig) s (shows 9) ∧
      (p.val < 8 → Ends (.selfTestRingRecal p) s (shows 9)))) ∧
  (∀ (s : State) (ok : Bool) (el : BitVec 8), s.m.test.run = none → Leaves (.bistDone ok el) s s.m ∧ Leaves .recalDone s s.m) ∧
  (∀ (s : State) (r : TestRun) (el : BitVec 8), s.m.test.run = some r →
    (r.kind ≠ 0 ∨ r.moving = true → ∀ ok, Leaves (.bistDone ok el) s s.m) ∧
    (r.kind = 0 → r.moving = false → (let u := s.m.upToC (r.at_ + 20000000)
      Leaves (.bistDone true el) s (testPass (clusterUnclamp u r.target)) ∧
      Leaves (.bistDone false el) s (testFail { u with test := { u.test with bad := u.phys r.target :: u.test.bad } } 0 r.target el.toNat) ∧
      (s.m.test.next = none → r.target < 16 →
        Ends (.bistDone true el) s (fun m => r.at_ + 20000000 ≤ m.cycles ∧ m.f CT_TEST_STATUS_code = 3 ∧ m.f CT_EVENT_test_done = 1 ∧
          m.test.run = none ∧ m.b (EN_CL_CLAMP_clamp r.target) = false ∧ (∀ e ∈ clusterEngines r.target, (m.eng e).state = 0)) ∧
        Ends (.bistDone false el) s (fun m => r.at_ + 20000000 ≤ m.cycles ∧ m.f CT_TEST_STATUS_code = 4 ∧ m.f CT_TEST_STATUS_element = el.toNat ∧
          m.f CT_EVENT_test_fail = 1 ∧ m.f CT_EVENT_test_done = 1 ∧ m.test.run = none ∧ m.test.bad = s.m.phys r.target :: s.m.test.bad ∧
          m.n (CT_CNT 2) = (s.m.n (CT_CNT 2) + 1) % 2 ^ 64 ∧ OnlyRegs [CT_TEST_STATUS, CT_CNT 2, CT_EVENT] s.m m ∧
          Only [.regs, .test, .work, .now, .sub, .cycles, .hSkew] s.m m)))) ∧
    (r.kind = 1 → r.down = true → (let u := s.m.upToC (r.at_ + 4000000)
      Leaves .recalDone s (testPass (portRefresh { u with test := { u.test with run := none } } r.target 6)))) ∧
    (r.kind ≠ 1 ∨ r.down = false → Leaves .recalDone s s.m))

/-- Messages of the twin link, the seal and its acknowledgement, takeover and its triggers, and the link's loss. Clauses on values that
are free, on incomplete sets and on message layouts state the model's choice (log entries 3, 48 and 80). Rests on R572 to R583, of which
it states the part said here. -/
def Obligations.TwinResults : Prop :=
  (∀ (s : State) (t : U64), let a := s.m.setSrc 4 { s.m.src 4 with flag := true }
    (s.m.tenonUp = true → srcOn s.m 4 = true → srcQual a 4 = true →
      Leaves (.twinTime t) s (servoSample a 4 (Int.ofNat t.toNat - Int.ofNat a.now))) ∧
    (s.m.tenonUp = true → srcOn s.m 4 = true → srcQual a 4 = false → Leaves (.twinTime t) s a) ∧
    (s.m.tenonUp = false ∨ srcOn s.m 4 = false → Leaves (.twinTime t) s s.m)) ∧
  (∀ (s : State) (c : Instr) (x : TwMsg), ((∃ (b : Fin 4) (off : Nat) (d : List Byte), c = .twinBankData b off d ∧
        x = { code := 2, a := b.val, off := off, data := d.take 1016 }) ∨
      (∃ l, c = .twinStagedSet l ∧ x = { code := 3, pairs := l }) ∨
      (∃ (r : Fin 8) (off : Nat) (d : List Byte), c = .twinDeclData r off d ∧ x = { code := 4, a := r.val, off := off, data := d }) ∨
      (∃ (jn br : U64) (q : List (Nat × Nat)) (l : List (Nat × U64)), c = .twinCounters jn br q l ∧
        x = { code := 5, a := jn.toNat, off := br.toNat, seqs := q, pairs := l })) →
    (s.m.standby = true → s.m.tenonUp = true → Leaves c s { s.m with twin := { s.m.twin with buf := s.m.twin.buf ++ [x] } }) ∧
    (s.m.standby = false ∨ s.m.tenonUp = false → Leaves c s s.m)) ∧
  (∀ (s : State) (b : BitVec 32) (n : Nat),
    let l := s.m.twin.buf
    let u := (l.filter (fun m => m.code == 3) ++ l.filter (fun m => m.code != 3)).foldl twinApply s.m
    let v := (keysFrom 0 8).foldl (fun t p => portRefresh t p 6) (countStations u)
    let w := if v.dramOk then setRec (setRec v (inBank b.toNat) b.toNat 3) (outBank (b.toNat + 1)) ((b.toNat + 1) % 2 ^ 32) 2 else v
    let y := ((w.inc (TW_CNT 0)).setF TW_STATUS_mirror_age 0).setF TW_STATUS_sync 1
    (s.m.standby = true → s.m.tenonUp = true → l.length = n →
      Leaves (.twinBeatSealed b n) s (twinSend { y with twin := { y.twin with buf := [], sealed := true } } 8 (beBytes 4 b.toNat)) ∧
      Ends (.twinBeatSealed b n) s (fun m => m.twin.buf = [] ∧ m.twin.sealed = true ∧ m.f TW_STATUS_sync = 1 ∧ m.f TW_STATUS_mirror_age = 0 ∧
        ∃ f, m.out.getLast? = some (.twin f) ∧ f.type = 0xC ∧ f.cls = 2 ∧ f.word = 8 ∧ f.payload = beBytes 4 b.toNat)) ∧
    (s.m.standby = true → s.m.tenonUp = true → l.length ≠ n → l ≠ [] → Ends (.twinBeatSealed b n) s (fun m =>
      m.twin = { s.m.twin with buf := [] } ∧ m.n (TW_CNT 2) = (s.m.n (TW_CNT 2) + 1) % 2 ^ 64 ∧ OnlyRegs [TW_CNT 2] s.m m ∧
      Only [.regs, .twin] s.m m)) ∧
    ((s.m.standby = true → s.m.tenonUp = true → l.length ≠ n ∧ l = []) → Leaves (.twinBeatSealed b n) s s.m)) ∧
  (∀ (s : State) (b : BitVec 32),
    let a := (s.m.inc (TW_CNT 1)).setF TW_STATUS_sync 1
    (s.m.f TW_STATUS_role = 1 → s.m.tenonUp = true → s.m.b TW_STATUS_sync = true → Ends (.twinSealAck b) s (fun m =>
      m.f TW_STATUS_sync = 1 ∧ m.n (TW_CNT 1) = (s.m.n (TW_CNT 1) + 1) % 2 ^ 64 ∧ m.twin = { s.m.twin with sealed := true } ∧
      OnlyRegs [TW_STATUS, TW_CNT 1] s.m m ∧ Only [.regs, .twin] s.m m)) ∧
    (s.m.f TW_STATUS_role = 1 → s.m.tenonUp = true → s.m.b TW_STATUS_sync = false → ∃ d : Nat,
      let z := { a with freeCtr := a.freeCtr + 1, twin := { a.twin with sealed := true, dMax := d } }
      Leaves (.twinSealAck b) s ((z.stations.filter (fun k => decide (2 ≤ z.f (ST_W1_state k)) && decide (z.f (ST_W1_state k) ≤ 4))).foldl twinTiming z)) ∧
    (s.m.f TW_STATUS_role ≠ 1 ∨ s.m.tenonUp = false → Leaves (.twinSealAck b) s s.m)) ∧
  (∀ (s : State) (cause : BitVec 16),
    let taken (m : Mach) : Prop := m.f TW_STATUS_role = 1 ∧ m.f TW_STATUS_sync = 0 ∧ m.twin.origin2 = true ∧ m.twin.progress = true ∧
      m.twin.missed = 0 ∧ m.twin.buf = [] ∧ m.f TW_EVENT_takeover = 1 ∧ m.n (TW_CNT 4) = (s.m.n (TW_CNT 4) + 1) % 2 ^ 64 ∧
      m.n JN_NEXT = (s.m.twin.jnNext + 2 ^ 32) % 2 ^ 64 ∧ m.n JN_DONE = (s.m.twin.jnNext + 2 ^ 32) % 2 ^ 64 ∧ m.f JN_STATUS_queue = 0 ∧
      m.n BR_SEQ = s.m.twin.brSeq % 2 ^ 64 ∧ m.jq = [] ∧ m.jStarted = true ∧ m.strike = { s.m.strike with yes := [], nay := [], decided := none } ∧
      m.ring.txSeq = (s.m.twin.seqs.map (fun x => (x.1, (x.2 + 4096) % 65536))).foldl (fun l x => mapIns l x.1 x.2) s.m.ring.txSeq ∧
      (∀ i, i < 4 → s.m.ringStations i ≠ [] → m.f (RG_RING_BREAK_first1 i) = (ringN s.m i + 1) % 2 ^ 11 ∧ m.f (RG_RING_BREAK_last1 i) = 1) ∧
      (s.m.f TW_CFG_max_age < s.m.f TW_STATUS_mirror_age → m.f TW_EVENT_old_mirror = 1 ∧ ∀ i, i < 4 → m.n (SK_FORCE_HOLD i) = 2 ^ 64 - 1)
    (s.m.standby = true →
      (s.m.tenonUp = true → Ends (.twinFailureDecl cause) s taken) ∧
      (s.m.tenonUp = false → Leaves (.twinFailureDecl cause) s s.m) ∧
      (1 ≤ s.m.twin.missed → s.m.twin.blind = false → Ends .twinDownbeatMissing s taken) ∧
      (s.m.twin.missed = 0 ∨ s.m.twin.blind = true → Ends .twinDownbeatMissing s (fun m =>
        m.twin = { s.m.twin with missed := s.m.twin.missed + 1 } ∧ (∃ v, v ≤ lead s.m ∧ nextStrike s.m - lead s.m + v + 1000 ≤ m.now) ∧
        Only [.twin, .now, .sub, .cycles, .hSkew, .freeCtr] s.m m)) ∧
      (s.m.b TW_STATUS_sync = true → Ends .twTakeover s taken) ∧
      (s.m.b TW_STATUS_sync = false → Leaves .twTakeover s s.m)) ∧
    (s.m.standby = false → Leaves (.twinFailureDecl cause) s s.m ∧ Leaves .twinDownbeatMissing s s.m ∧ Leaves .twTakeover s s.m)) ∧
  (∀ s : State,
    (s.m.f TW_STATUS_role = 1 → s.m.tenonUp = true → Ends .twResign s (fun m =>
      (∃ (v : Nat) (f : Frame), m.out = s.m.out ++ [.twin f] ∧ f.type = 0xC ∧ f.cls = 2 ∧ f.word = 6 ∧ f.seq = s.m.twin.seq ∧ f.payload = beBytes 2 v) ∧
      m.twin = { s.m.twin with told := true, seq := (s.m.twin.seq + 1) % 65536 } ∧ Only [.out, .twin, .freeCtr] s.m m)) ∧
    (s.m.f TW_STATUS_role = 1 → s.m.tenonUp = false → Leaves .twResign s { s.m with twin := { s.m.twin with told := false } }) ∧
    (s.m.f TW_STATUS_role ≠ 1 → Leaves .twResign s s.m) ∧
    (s.m.tenonUp = true → Ends .tenonLinkDown s (fun m => m.f TW_STATUS_tenon_up = 0 ∧ m.f TW_STATUS_sync = 0 ∧ m.f TW_EVENT_tenon_down = 1 ∧
      m.twin.buf = [] ∧ m.n (TW_CNT 5) = (s.m.n (TW_CNT 5) + 1) % 2 ^ 64 ∧ m.f TW_STATUS_role = s.m.f TW_STATUS_role)) ∧
    (s.m.tenonUp = false → Leaves .tenonLinkDown s s.m))

/-- Flits of the dovetail link, its training and retraining, its lanes, and what is held while a clock domain stands still. Clauses on
which flit and which credits go first and on the order of held items state the model's choice (log entries 51 and 75). Rests on R589 to
R600, R607 to R610, of which it states the part said here. -/
def Obligations.DovetailResults : Prop :=
  (∀ (s : State) (d : Fin 2) (noise : BitVec 680),
    let c : Instr := .dovetailFlitReceive d noise
    let w := if s.m.f (dvWidth d) = 1 then 40 else 20
    let x := BitVec.ofNat 320 (laneNoise w (dvActive s.m d) 0 noise.toNat)
    let p := dvSend s.m d
    let q := dvCarry p.1 d p.2
    let u := dvTake q.1 d (q.2.wire ^^^ x)
    (s.m.dvState ≠ 2 → Leaves c s s.m) ∧
    (s.m.dvState = 2 → Leaves c s (if dvWorn u d then dvGoRetrain u 2 else u)) ∧
    (s.m.dvState = 2 → dvWorn q.1 d = false → dvGood (q.2.wire ^^^ x) = false → Ends c s (fun m =>
      m.n (DV_CNT 2) = (q.1.n (DV_CNT 2) + 1) % 2 ^ 64 ∧ m.n (DV_CNT 1) = q.1.n (DV_CNT 1) ∧ m.dv.errs = q.1.dv.errs + 1 ∧
      (m.dvDir d).nakOut = true ∧ (m.dvDir d).nakDue = ((q.1.dvDir d).nakDue || !(q.1.dvDir d).nakOut) ∧ (m.dvDir d).want = (q.1.dvDir d).want ∧
      m.noc = q.1.noc ∧ Only [.regs, .dv] s.m m))) ∧
  (∀ (s : State) (d : Fin 2) (f : DvFlit),
    let x := s.m.dvDir d
    let y := s.m.dvDir (1 - d.val)
    s.m.dvState = 2 → y.nakDue = false → y.freed = [] → x.replay = none → dvNew x = some f → f.ch < 6 → x.next < 256 → x.want = x.next → x.held = [] →
    (d.val = 0 → ∀ k, s.m.nocPacket f.packet = some k → 2 ≤ k.link) →
    (d.val = 1 → ∀ k, s.m.noc.coming.find? (fun z => z.id == f.packet) = some k → 2 ≤ k.link) →
    Ends (.dovetailFlitReceive d 0) s (fun m => (m.dvDir d).want = (x.want + 1) % 256 ∧ (m.dvDir d).next = (x.next + 1) % 256 ∧
      (m.dvDir d).held = [{ f with seq := x.next, sent := 1 }] ∧ (m.dvDir d).queue = x.queue.erase f ∧ (m.dvDir d).nakOut = false ∧
      m.n (DV_CNT 0) = (s.m.n (DV_CNT 0) + 1) % 2 ^ 64 ∧ m.n (DV_CNT 1) = (s.m.n (DV_CNT 1) + 1) % 2 ^ 64 ∧ m.n (DV_CNT 2) = s.m.n (DV_CNT 2) ∧
      m.dvState = 2 ∧ Only [.regs, .dv, .noc] s.m m)) ∧
  (∀ (s : State) (d : Fin 2) (l : Fin 17) (h2f f2h : BitVec 17),
    let retrains (m : Mach) : Prop := m.dvState = 3 ∧ m.f DV_EVENT_retrain = 1 ∧ m.f BT_STATUS_hdie_time_free = 1 ∧ m.dv.at_ = s.m.cycles ∧
      m.n (DV_CNT 4) = (s.m.n (DV_CNT 4) + 1) % 2 ^ 64 ∧ m.dv.dirs = s.m.dv.dirs ∧ Only [.regs, .dv, .work] s.m m
    let lim := if s.m.f DV_CFG_err_thresh = 0 then 1 else s.m.f DV_CFG_err_thresh
    let clear (m : Mach) : Prop := m.dvState = 0 ∧ m.f DV_EVENT_down = 1 ∧ m.f DV_STATUS_width_h2f = 0 ∧ m.f DV_STATUS_width_f2h = 0 ∧
      m.dv.due = m.cycles + 100000 ∧ ∀ k, k < 2 → (m.dvDir k).held = [] ∧ (m.dvDir k).next = 0 ∧ (m.dvDir k).want = 0 ∧ (m.dvDir k).used = [] ∧
        (m.dvDir k).replay = none
    (s.m.dvState = 2 → l.val ∈ dvActive s.m d → Ends (.dovetailLaneLockLoss d l) s (fun m => retrains m ∧
      m.f (DV_LANE_ERR_count (17 * d.val + l.val)) = satAt (2 ^ 32 - 1) (s.m.f (DV_LANE_ERR_count (17 * d.val + l.val)) + 1))) ∧
    (s.m.dvState ≠ 2 ∨ l.val ∉ dvActive s.m d → Leaves (.dovetailLaneLockLoss d l) s s.m) ∧
    (s.m.dvState = 2 → lim < s.m.dv.errs → Ends .dovetailErrorRateCheck s (fun m => retrains m ∧ m.dv.errs = 0)) ∧
    (s.m.dv.errs ≤ lim ∨ s.m.dvState ≠ 2 → Leaves .dovetailErrorRateCheck s { s.m with dv := { s.m.dv with errs := 0 } }) ∧
    (s.m.dvState = 2 → Ends .dovetailRetrainRequest s retrains) ∧
    (s.m.dvState = 1 ∨ s.m.dvState = 3 → Leaves .dovetailRetrainRequest s s.m) ∧
    (s.m.dvState = 0 → s.m.b DV_STATUS_sb_up = true →
      Ends .dovetailRetrainRequest s (fun m => m.dvState = 1 ∧ m.dv = { s.m.dv with at_ := s.m.cycles } ∧ OnlyRegs [DV_STATUS] s.m m ∧
        Only [.regs, .dv] s.m m) ∧
      Ends .dovetailTrainingStart s (fun m => m.dvState = 1 ∧ s.m.dv.due ≤ m.cycles ∧ m.dv = { s.m.dv with at_ := m.cycles } ∧
        OnlyRegs [DV_STATUS] s.m m ∧ Only [.regs, .dv, .now, .sub, .cycles, .hSkew] s.m m)) ∧
    (s.m.dvState = 0 → s.m.b DV_STATUS_sb_up = false → Leaves .dovetailRetrainRequest s s.m) ∧
    (s.m.dvState ≠ 0 ∨ s.m.b DV_STATUS_sb_up = false → Leaves .dovetailTrainingStart s s.m) ∧
    Leaves .dovetailUnspare s { s.m with dv := { s.m.dv with unspare := true } } ∧
    (s.m.dvState = 3 → Ends .dovetailRetrainTimeout s (fun m => clear m ∧ s.m.dv.at_ + 2000 ≤ m.cycles) ∧
      Leaves (.dovetailRetrainDone h2f f2h) s (let u := dvFinish s.m h2f f2h
        if u.dvState = 2 then dvReplayAll (dvReplayAll u 0) 1 else u)) ∧
    (s.m.dvState = 1 → Ends .dovetailTrainingTimeout s (fun m => clear m ∧ s.m.dv.at_ + 50000 ≤ m.cycles) ∧
      Leaves (.dovetailTrainingDone h2f f2h) s (dvFinish s.m h2f f2h)) ∧
    (s.m.dvState ≠ 3 → Leaves .dovetailRetrainTimeout s s.m ∧ Leaves (.dovetailRetrainDone h2f f2h) s s.m) ∧
    (s.m.dvState ≠ 1 → Leaves .dovetailTrainingTimeout s s.m ∧ Leaves (.dovetailTrainingDone h2f f2h) s s.m) ∧
    (s.m.n DV_LANE_MAP = 0 → s.m.dv.unspare = false → s.m.dv.order = [] → s.m.heldLogs = [] → s.m.heldLogLost = 0 → s.m.heldPosts = [] → s.m.heldPostsLost = 0 →
      s.m.lateResp = [] → s.m.reqs = [] →
      (s.m.dvState = 1 → Ends (.dovetailTrainingDone 0 0) s (fun m => m.dvState = 2 ∧ m.f DV_STATUS_width_h2f = 2 ∧ m.f DV_STATUS_width_f2h = 2 ∧
        m.f DV_EVENT_up = 1 ∧ OnlyRegs [DV_STATUS, DV_EVENT] s.m m ∧ Only [.regs, .dv, .work] s.m m) ∧
        Ends (.dovetailTrainingDone 0x1FFFF 0) s (fun m => clear m ∧ m.f DV_LANE_MAP_h2f = 0x1FFFF ∧ m.f DV_LANE_MAP_f2h = 0 ∧ m.f DV_EVENT_spared = 1)) ∧
      (s.m.dvState = 3 → Ends (.dovetailRetrainDone 0 0) s (fun m => m.dvState = 2 ∧ m.f DV_STATUS_width_h2f = 2 ∧ m.f DV_STATUS_width_f2h = 2 ∧
        m.f DV_EVENT_up = 1 ∧ ∀ k h t, k < 2 → (s.m.dvDir k).held = h :: t → (m.dvDir k).replay = some (h.seq, h.seq) ∧
          (m.dvDir k).held.map (fun g => g.seq) = (s.m.dvDir k).held.map (fun g => g.seq))))) ∧
  (∀ (s : State) (dom : Fin 12) (n : Nat),
    (s.m.pw.hold = true ∨ 2 ∈ s.m.pw.held → Leaves (.dieReady 0 dom n) s s.m) ∧
    (s.m.pw.hold = true ∨ 1 ∈ s.m.pw.held → Leaves (.dieReady 1 dom n) s s.m) ∧
    (s.m.pw.hold = false → 2 ∉ s.m.pw.held → Ends (.dieReady 0 dom n) s (fun m => m.hReset = false ∧ m.dv.readyH = true ∧ m.dv.readyF = s.m.dv.readyF ∧
      m.f DV_STATUS_sb_up = b2n s.m.dv.readyF ∧ m.dvState = (if s.m.dvState = 0 then b2n s.m.dv.readyF else s.m.dvState) ∧ m.f DV_EVENT_xing_drop = 1 ∧
      m.n (DV_CNT 6) = (s.m.n (DV_CNT 6) + n) % 2 ^ 64 ∧ Only [.regs, .dv, .hReset, .work] s.m m)) ∧
    (s.m.pw.hold = false → 1 ∉ s.m.pw.held → Ends (.dieReady 1 dom n) s (fun m => m.hReset = s.m.hReset ∧ m.dv.readyF = true ∧ m.dv.readyH = s.m.dv.readyH ∧
      m.f DV_STATUS_sb_up = b2n s.m.dv.readyH ∧ m.dvState = (if s.m.dvState = 0 then b2n s.m.dv.readyH else s.m.dvState) ∧ m.f DV_EVENT_xing_drop = 1 ∧
      m.n (DV_CNT 6) = (s.m.n (DV_CNT 6) + n) % 2 ^ 64 ∧ Only [.regs, .dv, .work] s.m m)) ∧
    (dom.val ∉ s.m.stopped → Leaves (.clockDomainResume dom) s s.m) ∧
    (dom.val ∈ s.m.stopped →
      let u := startDomain { s.m with heldWrites := s.m.heldWrites.filter (fun x => domainOf x.1 != dom.val) } dom.val
      Leaves (.clockDomainResume dom) s ((s.m.heldWrites.filter (fun x => domainOf x.1 == dom.val)).foldl (fun t x => writeN t x.2.1 x.1 x.2.2.1 x.2.2.2) u) ∧
      dom.val ∉ u.stopped ∧ u.f ⟨DV_CLK_STATUS, dom.val, 1⟩ = 1 ∧ u.f ⟨DV_CLK_STATUS, 16 + dom.val, 1⟩ = 0 ∧ u.f ⟨DV_CLK_STATUS, 32 + dom.val, 1⟩ = 0))

/-- Feeds and the hot-swap stage with its timers, limits and latch, the power-up of the domains, cages and converter faults. Clauses on
the state after the gate goes off and on removals in precharge state the model's choice (log entries 54 and 71). Rests on R612 to R633, of
which it states the part said here. -/
def Obligations.PowerResults : Prop :=
  (∀ (s : State) (f : Fin 2) (valid excess : Bool) (mv : BitVec 16), Ends (.feedValidChange f valid excess mv) s (fun m =>
    let high : Prop := 62000 ≤ mv.toNat ∧ (excess = true ∨ 64000 < mv.toNat)
    (feedValid m f = true ↔ 8000 ≤ mv.toNat ∧ (valid = true ∨ 8800 < mv.toNat) ∧ ¬ high) ∧ feedValid m (1 - f.val) = feedValid s.m (1 - f.val) ∧
    m.f (if f.val = 0 then PW_FEED_v_a else PW_FEED_v_b) = mv.toNat ∧
    m.f PW_STAGE_b_sel = b2n (feedValid m 1 && (!feedValid m 0 || decide (m.f PW_FEED_v_a < m.f PW_FEED_v_b))) ∧
    m.f PW_STAGE_a_sel = b2n (feedValid m 0 && (m.f PW_STAGE_b_sel == 0)) ∧
    m.pw.noFeed = (if anyFeed m then none else some (s.m.pw.noFeed.getD s.m.cycles)) ∧
    (feedValid s.m f = true → feedValid m f = false → anyFeed m = true → 3 ≤ s.m.stage → s.m.stage ≤ 5 → m.f PW_EVENT_feed_lost = 1) ∧
    (s.m.stage = 0 → s.m.pw.seat = 3 → s.m.pw.en = true → anyFeed m = true → m.stage = 1) ∧ (s.m.stage = 1 → anyFeed m = false → m.stage = 0) ∧
    (2 ≤ s.m.stage → s.m.stage ≤ 5 → m.stage = s.m.stage) ∧
    (s.m.stage = 6 → m.stage = if s.m.pw.seat ≠ 3 ∧ anyFeed m = true then 0 else 6) ∧
    OnlyRegs [PW_FEED, PW_STAGE, PW_EVENT] s.m m ∧ Only [.regs, .pw, .work] s.m m)) ∧
  (∀ (s : State) (pin : Fin 2) (closed : Bool),
    let a : Mach := { s.m with pw := { s.m.pw with seat := s.m.pw.seat - (if bitAt s.m.pw.seat pin then 2 ^ pin.val else 0) + (if closed then 2 ^ pin.val else 0) } }
    Leaves (.seatChange pin closed) s
      (if closed then seatCheck a else if a.stage = 6 then latchSeat a else if 2 ≤ a.stage then removal a else seatCheck a) ∧
    (2 ≤ s.m.stage → s.m.stage ≠ 6 → Ends (.seatChange pin false) s (fun m => m.stage = 0 ∧ m.hReset = true ∧ m.pw.limit = false ∧
      (3 ≤ s.m.stage → m.nvLog.getLast? = some ⟨1, s.m.now, s.m.n BT_BEAT_NUM, 0x1108, 0⟩) ∧
      (4 ≤ s.m.stage → s.m.stage ≤ 5 → m.dram = [] ∧ m.engines = [] ∧ m.ring = {}))) ∧
    (s.m.stage = 0 → bitAt s.m.pw.seat pin = false → s.m.pw.seat + 2 ^ pin.val = 3 → s.m.pw.en = true → anyFeed s.m = true →
      Ends (.seatChange pin true) s (fun m => m.stage = 1 ∧ m.pw.seat = 3 ∧ m.pw.at_ = s.m.cycles ∧ OnlyRegs [PW_STAGE] s.m m ∧
        Only [.regs, .pw] s.m m)) ∧
    (s.m.stage = 6 → s.m.pw.seat = 3 → anyFeed s.m = true → Ends (.seatChange pin false) s (fun m => m.stage = 0 ∧ m.pw.seat = 3 - 2 ^ pin.val ∧
      OnlyRegs [PW_STAGE] s.m m ∧ Only [.regs, .pw] s.m m))) ∧
  (∀ (s : State) (high : Bool),
    let a : Mach := { s.m with pw := { s.m.pw with en := high, enLow := (if high then none else some (s.m.pw.enLow.getD s.m.cycles)) } }
    Leaves (.enChange high) s (seatCheck a) ∧
    (s.m.stage = 0 → s.m.pw.seat = 3 → anyFeed s.m = true → Ends (.enChange true) s (fun m => m.stage = 1 ∧ m.pw.en = true ∧ m.pw.enLow = none ∧
      OnlyRegs [PW_STAGE] s.m m ∧ Only [.regs, .pw] s.m m)) ∧
    (s.m.stage = 1 → Ends (.enChange false) s (fun m => m.stage = 0 ∧ m.pw.en = false ∧ OnlyRegs [PW_STAGE] s.m m ∧ Only [.regs, .pw] s.m m)) ∧
    (2 ≤ s.m.stage → Leaves (.enChange high) s a)) ∧
  (∀ s : State,
    (s.m.stage = 1 → mayStart2 s.m = true → Ends .seatingDone s (fun m => m.stage = 2 ∧ s.m.pw.at_ + 50000000 ≤ m.cycles ∧
      OnlyRegs [PW_STAGE] s.m m ∧ Only [.regs, .pw, .now, .sub, .cycles, .hSkew] s.m m)) ∧
    (s.m.stage ≠ 1 ∨ mayStart2 s.m = false → Leaves .seatingDone s s.m) ∧
    (s.m.stage = 2 → Ends .prechargeDone s (fun m => m.stage = 3 ∧ (∀ b, b ∈ [9, 10, 11] → b ∉ m.stopped) ∧ OnlyRegs [PW_STAGE, DV_CLK_STATUS] s.m m ∧
        Only [.regs, .pw, .stopped] s.m m) ∧
      Leaves .prechargeTimeout s (latchOff (s.m.upToC (s.m.pw.at_ + 150000000)) 0x1101)) ∧
    (s.m.stage ≠ 2 → Leaves .prechargeDone s s.m ∧ Leaves .prechargeTimeout s s.m) ∧
    (s.m.stage = 3 → Ends .gateFullyOn s (fun m => m.stage = 4 ∧ m.pw.seen = false ∧
      m.pw.quiet = (if s.m.pw.limit then none else some (s.m.cycles + faultCount s.m)) ∧ OnlyRegs [PW_STAGE] s.m m ∧ Only [.regs, .pw] s.m m)) ∧
    (s.m.stage ≠ 3 → Leaves .gateFullyOn s s.m) ∧
    (3 ≤ s.m.stage → s.m.stage ≤ 5 →
      (∀ active, active ≠ s.m.pw.limit → Ends (.currentLimitChange active) s (fun m => m.pw.limit = active ∧ m.pw.count = faultCount s.m ∧
        m.pw.countAt = s.m.cycles ∧ m.stage = (if active = true ∧ s.m.stage = 5 then 4 else s.m.stage) ∧
        m.pw.quiet = (if s.m.stage = 3 ∨ active = true then none else some (s.m.cycles + faultCount s.m)) ∧
        OnlyRegs [PW_STAGE] s.m m ∧ Only [.regs, .pw, .work] s.m m)) ∧
      (s.m.pw.limit = true → Leaves .faultTimerExpire s (latchOff (s.m.upToC (s.m.cycles + (20000000 - faultCount s.m + 9) / 10)) 0x1102)) ∧
      Leaves .hardShortTrip s (latchOff s.m 0x1104)) ∧
    Leaves (.currentLimitChange s.m.pw.limit) s s.m ∧
    (s.m.pw.limit = false → Leaves .faultTimerExpire s s.m) ∧
    (s.m.stage < 3 ∨ 5 < s.m.stage → Leaves .hardShortTrip s s.m ∧ Leaves .faultTimerExpire s s.m ∧ ∀ active, Leaves (.currentLimitChange active) s s.m) ∧
    (∀ q, s.m.pw.quiet = some q → s.m.stage = 4 → s.m.pw.limit = false →
      (s.m.pw.seen = true → Ends .pgQuietWindowExpire s (fun m => m.stage = 5 ∧ q + 10000000 ≤ m.cycles ∧ OnlyRegs [PW_STAGE] s.m m ∧
        Only [.regs, .pw, .now, .sub, .cycles, .hSkew] s.m m)) ∧
      (s.m.pw.seen = false → Ends .pgQuietWindowExpire s (fun m => m.stage = 5 ∧ q + 10000000 ≤ m.cycles ∧ m.pw.seen = true ∧ m.pw.step = 1 ∧
        m.pw.pgAt = m.cycles ∧ m.dram = [] ∧ m.engines = [] ∧ m.now = 0 ∧ m.hReset = true ∧ (∀ b, b < 9 → b ∈ m.stopped) ∧
        m.f GL_RESET_CAUSE_kind = 1))) ∧
    (s.m.pw.quiet = none ∨ s.m.stage ≠ 4 ∨ s.m.pw.limit = true → Leaves .pgQuietWindowExpire s s.m) ∧
    (∀ t, s.m.pw.enLow = some t →
      (s.m.stage = 6 → Leaves .enLatchClearTimer s (seatCheck (stageTo (s.m.upToC (t + 100000000)) 0)) ∧
        (s.m.pw.en = false → Ends .enLatchClearTimer s (fun m => m.stage = 0 ∧ t + 100000000 ≤ m.cycles ∧
          OnlyRegs [PW_STAGE] s.m m ∧ Only [.regs, .pw, .now, .sub, .cycles, .hSkew] s.m m))) ∧
      (s.m.stage ≠ 6 → Leaves .enLatchClearTimer s s.m) ∧
      (s.m.stage ≠ 0 → s.m.stage ≠ 6 → Leaves .enOffTimer s (gateOff (s.m.upToC (t + 1000000)) 0 true)) ∧
      (s.m.stage = 0 ∨ s.m.stage = 6 → Leaves .enOffTimer s s.m)) ∧
    (s.m.pw.enLow = none → Leaves .enLatchClearTimer s s.m ∧ Leaves .enOffTimer s s.m) ∧
    (∀ t, s.m.pw.noFeed = some t → 2 ≤ s.m.stage → s.m.stage ≤ 5 →
      Leaves .noFeedTimeout s (gateOff (settle (logStage (s.m.upToC (t + 10000)) 0x1105 0)) 0 false)) ∧
    (s.m.pw.noFeed = none ∨ s.m.stage < 2 ∨ 5 < s.m.stage → Leaves .noFeedTimeout s s.m)) ∧
  (∀ (a : Mach) (cause st : Nat) (aon : Bool), (latchOff a cause).stage = 6 ∧ (latchOff a cause).f PW_STAGE_latch_cause = cause % 256 ∧
    (latchOff a cause).f PW_STAGE_latch_count = (a.f PW_STAGE_latch_count + 1) % 65536 ∧ (latchOff a cause).pw.latch = some cause ∧
    (gateOff a st aon).stage = st % 8 ∧ (gateOff a st aon).pw.limit = false ∧ (gateOff a st aon).pw.count = 0 ∧ (gateOff a st aon).pw.seen = false ∧
    (gateOff a st aon).hReset = true ∧ (∀ b, b < (if aon then 9 else 12) → b ∈ (gateOff a st aon).stopped) ∧
    (4 ≤ a.stage → a.stage ≤ 5 → (gateOff a st aon).dram = [] ∧ (gateOff a st aon).engines = [] ∧ (gateOff a st aon).ring = {}) ∧
    (a.stage < 4 ∨ 5 < a.stage → OnlyRegs [PW_STAGE, DV_CLK_STATUS] a (gateOff a st aon) ∧ Only [.regs, .pw, .stopped, .hReset] a (gateOff a st aon))) ∧
  (∀ s : State,
    (∀ k, 1 ≤ k → k ≤ 6 → s.m.pw.step = k → Ends .domainPowerUpStep s (fun m => m.pw = { s.m.pw with step := k + 1 } ∧
      s.m.pw.pgAt + stepEnd k ≤ m.cycles ∧
      (k = 1 → 1 ∉ s.m.pw.held → ∀ b, b ∈ [4, 5, 6, 7, 8] → b ∉ m.stopped) ∧ (k = 2 → 2 ∉ s.m.pw.held → ∀ b, b ∈ [0, 1, 3] → b ∉ m.stopped) ∧
      (k = 3 → 3 ∉ s.m.pw.held → 2 ∉ m.stopped) ∧ (4 ≤ k ∨ k ∈ s.m.pw.held → m.stopped = s.m.stopped ∧ OnlyRegs [] s.m m) ∧
      OnlyRegs [DV_CLK_STATUS] s.m m ∧ Only [.regs, .pw, .stopped, .now, .sub, .cycles, .hSkew] s.m m)) ∧
    (s.m.pw.step = 0 ∨ 6 < s.m.pw.step → Leaves .domainPowerUpStep s s.m)) ∧
  (∀ (s : State) (p : Fin 8), Leaves (.sfpCageOverload p) s (cageOff s.m p) ∧
    (s.m.f (RG_PORT_STATUS_state p) ≠ psUp → ((cageOff s.m p).rport p).txOff = true ∧ (cageOff s.m p).f (RG_PORT_EVENT_sfp_fault p) = 1 ∧
      (cageOff s.m p).f (RG_PORT_STATUS_state p) =
      if s.m.b (RG_PORT_CFG_enable p) = true ∧ (s.m.f (RG_PORT_STATUS_state p) ≠ psDisabled ∨
        (s.m.b (RG_SFP_STATUS_present p) = true ∧ s.m.b (RG_SFP_STATUS_tx_fault p) = false)) then psDown else psDisabled)) ∧
  (∀ (s : State) (d : Fin 6),
    let l := logPw s.m 0x1109 d
    let a : Mach := { l with pw := { l.pw with held := if l.pw.held.contains d.val then l.pw.held else l.pw.held ++ [d.val] } }
    Leaves (.domainConverterFault d) s
      (match d.val with
       | 1 => fmainReset (settle a) 0xFE
       | 2 => hdieReset (settle a) 0xFE
       | 3 => a.setF JN_STATUS_dram_ok 0
       | 4 => (keysFrom 0 16).foldl (fun t c => if t.b (EN_CL_CLAMP_clamp c) then t else clusterClamp t c) a
       | 5 => (keysFrom 0 8).foldl cageOff a
       | _ => a) ∧
    (Ends (.domainConverterFault 0) s (fun m => 0 ∈ m.pw.held ∧ Only [.pw, .work] s.m m)) ∧
    (Ends (.domainConverterFault 1) s (fun m => m.now = 0 ∧ m.ring = {} ∧ m.beat = {} ∧ m.f GL_RESET_CAUSE_kind = 4 ∧ m.f GL_RESET_CAUSE_source = 0xFE)) ∧
    (Ends (.domainConverterFault 2) s (fun m => m.hReset = true ∧ m.csram = [] ∧ m.reqs = [] ∧ m.f GL_RESET_CAUSE_kind = 3 ∧
      m.f GL_RESET_CAUSE_source = 0xFE)) ∧
    (Ends (.domainConverterFault 3) s (fun m => 3 ∈ m.pw.held ∧ m.f JN_STATUS_dram_ok = 0 ∧ OnlyRegs [JN_STATUS] s.m m ∧ Only [.regs, .pw, .work] s.m m)))

/-- Boot, the management commands with the statuses of Table 20-6, the thermal levels and the watchdog of the management controller. A
command that is not authenticated where it must be is answered with status 0x04, one that the recovery code does not serve with 0x08; one
that the mailbox was not given does nothing there. Clauses on image signatures, answer bodies and transport numbers state the model's
choice (log entries 13, 15 and 56). Rests on R641 to R659, of which it states the part said here. -/
def Obligations.ManagementResults : Prop :=
  (∀ (s : State) (ok : Bool),
    let a := (s.m.setF JN_STATUS_dram_ok (b2n ok)).setF GL_BOOT_STATUS_dram_fail (b2n (!ok))
    (s.m.dramOk = false → s.m.b CT_CLAMP_dram = false → s.m.hReset = false → 3 ∉ s.m.pw.held →
      Leaves (.dramTrainingDone ok) s (if a.b GL_BOOT_STATUS_done && !a.jStarted then startJournal a else a) ∧
      Ends (.dramTrainingDone ok) s (fun m => m.f JN_STATUS_dram_ok = b2n ok ∧ m.f GL_BOOT_STATUS_dram_fail = b2n (!ok) ∧
        (s.m.b GL_BOOT_STATUS_done = true → m.jStarted = true) ∧ OnlyRegs [JN_STATUS, GL_BOOT_STATUS] s.m m ∧
        Only [.regs, .jStarted, .jDropBoot, .work] s.m m)) ∧
    (s.m.dramOk = true ∨ s.m.b CT_CLAMP_dram = true ∨ s.m.hReset = true ∨ 3 ∈ s.m.pw.held → Leaves (.dramTrainingDone ok) s s.m)) ∧
  (∀ s : State,
    (s.m.b GL_BOOT_STATUS_done = true ∨ s.m.pw.hold = true → Leaves .bootComplete s s.m) ∧
    (s.m.b GL_BOOT_STATUS_done = false → s.m.pw.hold = false →
      (∀ a b c, bootBank s.nv 1 = some a → bootBank s.nv 2 = some b → bootBank s.nv 3 = some c → Ends .bootComplete s (fun m =>
        m.f GL_BOOT_STATUS_done = 1 ∧ m.f GL_BOOT_STATUS_bank_mc = a % 2 ∧ m.f GL_BOOT_STATUS_bank_fw = b % 2 ∧
        m.f GL_BOOT_STATUS_bank_cfg = c % 2 ∧ m.f GL_BOOT_STATUS_slot_cfg = (s.nv.bank 3 c).slot % 4 ∧
        m.f GL_ID_fw_major = (s.nv.bank 2 b).version / 256 % 16 ∧ m.f GL_ID_fw_minor = (s.nv.bank 2 b).version % 16 ∧
        m.f GL_EVENT_boot_done = 1 ∧ m.jStarted = true ∧ m.pw.bootLog = none ∧ m.pw.latch = none ∧
        OnlyRegs [GL_BOOT_STATUS, GL_ID, GL_EVENT] s.m m ∧ Only [.regs, .jStarted, .jDropBoot, .work, .pw, .pcie] s.m m)) ∧
      (∀ k, k ∈ [1, 2, 3] → bootBank s.nv k = none → Ends .bootComplete s (fun m => m.pw.hold = true ∧ k ∈ m.pw.failed ∧ m.hReset = true ∧
        (k = 1 → m.f GL_BOOT_STATUS_recovery = 1)))) ∧
    (∀ n k, bootBank n k = none → ∀ b, b < 2 → (n.bank k b).valid = false ∨ imageStatus n k (n.bank k b) ≠ 0)) ∧
  (∀ (x : Mach) (st : Nat) (d : List Byte),
    (∀ t, t ≠ 2 → mgmtReply x t st d = x.emit (.answer t st d)) ∧
    (mgmtReply x 2 st d).f PW_MBX_STATUS_status = st % 256 ∧ (mgmtReply x 2 st d).f PW_MBX_STATUS_len = (d.take 64).length ∧
    (mgmtReply x 2 st d).f PW_MBX_STATUS_busy = 0 ∧ (mgmtReply x 2 st d).pw = { x.pw with mbx := none } ∧
    (mgmtReply x 2 st d).f PW_EVENT_mbx_done = 1 ∧ (∀ k, k < 8 → (mgmtReply x 2 st d).n (PW_MBX_RSP k) = leNat (((d.take 64).drop (8 * k)).take 8)) ∧
    Only [.regs, .pw, .work] x (mgmtReply x 2 st d)) ∧
  (∀ (s : State) (t : Fin 3) (auth : Bool) (i w k : BitVec 8) (p : BitVec 16) (v o : BitVec 32) (b : List Byte) (x : Instr × Nat × Bool × Bool),
    let a := s.m
    let answ (st : Nat) (d : List Byte) : Mach := mgmtReply a t st d
    x ∈ [(Instr.getId t auth, 0x01, false, true), (.getHealth t auth, 0x02, false, true), (.getPower t auth, 0x03, false, true),
         (.getThermal t auth, 0x04, false, true), (.setThresh t auth i w k, 0x05, true, false), (.readLog t auth p, 0x10, false, false),
         (.clearLog t auth, 0x11, true, false), (.readNvlog t auth p, 0x12, false, true), (.selfTest t auth v, 0x20, true, false),
         (.testStatus t auth, 0x21, false, false), (.fwBegin t auth k v, 0x30, true, true), (.fwData t auth o b, 0x31, true, true),
         (.fwVerify t auth, 0x32, true, true), (.fwActivate t auth, 0x33, true, true), (.setClamp t auth v, 0x41, true, false)] →
    (t.val = 2 → a.pw.mbx ≠ some x.2.1 → Leaves x.1 s a) ∧
    (t.val = 0 → x.2.2.1 = true → auth = false → Leaves x.1 s (answ 4 [])) ∧
    (t.val ≠ 2 ∨ a.pw.mbx = some x.2.1 → t.val ≠ 0 ∨ x.2.2.1 = false ∨ auth = true → a.b GL_BOOT_STATUS_recovery = true → x.2.2.2 = false →
      Leaves x.1 s (answ 8 []))) ∧
  (∀ (s : State) (t : Fin 3) (auth : Bool),
    let a := s.m
    let answ (st : Nat) (d : List Byte) : Mach := mgmtReply a t st d
    let ok (code : Nat) (needA isR : Bool) : Prop := (t.val = 2 → a.pw.mbx = some code) ∧ (t.val = 0 → needA = true → auth = true) ∧
      (a.b GL_BOOT_STATUS_recovery = true → isR = true)
    (ok 0x01 false true → Leaves (.getId t auth) s (answ 0 (leBytes 4 (a.n GL_ID) ++ leBytes 8 (a.n GL_SERIAL) ++
      (leBytes 2 (s.nv.bank 1 0).version ++ leBytes 2 (s.nv.bank 1 1).version ++ leBytes 2 (s.nv.bank 2 0).version ++ leBytes 2 (s.nv.bank 2 1).version ++
       leBytes 2 (s.nv.bank 3 0).version ++ leBytes 2 (s.nv.bank 3 1).version) ++ (leBytes 1 (s.nv.floor 1) ++ leBytes 1 (s.nv.floor 2) ++ leBytes 1 (s.nv.floor 3)) ++
      leBytes 1 (s.nv.revoked.foldl (fun y z => Nat.lor y (2 ^ z)) 0)))) ∧
    (ok 0x02 false true → Leaves (.getHealth t auth) s (answ 0 (leBytes 1 a.stage ++ leBytes 4 (a.n GL_BOOT_STATUS) ++ leBytes 4 (a.n DV_STATUS) ++
      leBytes 8 (a.n CT_LOG_STATUS) ++ leBytes 8 (a.n TW_STATUS) ++ leBytes 1 (worstLevel a)))) ∧
    (ok 0x03 false true → Leaves (.getPower t auth) s (answ 0 (leBytes 4 (a.n PW_STAGE) ++ leBytes 8 (a.n PW_FEED)))) ∧
    (ok 0x04 false true → Leaves (.getThermal t auth) s (answ 0 (leBytes 4 (a.n (PW_TEMP 0)) ++ leBytes 4 (a.n (PW_TEMP 1)) ++ leBytes 4 (a.n (PW_TEMP 2)) ++
      leBytes 4 (a.n (PW_TEMP 3)) ++ leBytes 4 (a.n (PW_TEMP 4))))) ∧
    (ok 0x12 false true → ∀ i : BitVec 16, let k := mgmtArg a t 0 i.toNat
      (∀ r, a.nvLog[k]? = some r → Leaves (.readNvlog t auth i) s (answ 0 (nvBytes r))) ∧
      (a.nvLog.length ≤ k → Leaves (.readNvlog t auth i) s (answ 2 []))) ∧
    (ok 0x05 true false → ∀ i w k : BitVec 8, let j := mgmtArg a t 0 i.toNat
      let b := (a.setF (PW_THRESH_warn j) (mgmtArg a t 1 w.toNat)).setF (PW_THRESH_crit j) (mgmtArg a t 2 k.toNat)
      (j ≤ 4 → Leaves (.setThresh t auth i w k) s (mgmtReply b t 0 []) ∧ b.f (PW_THRESH_warn j) = mgmtArg a t 1 w.toNat % 256 ∧
        b.f (PW_THRESH_crit j) = mgmtArg a t 2 k.toNat % 256 ∧ b.f (PW_THRESH_shutdown j) = a.f (PW_THRESH_shutdown j)) ∧
      (4 < j → Leaves (.setThresh t auth i w k) s (answ 2 []))) ∧
    (ok 0x10 false false → ∀ p : BitVec 16, let k := mgmtArg a t 0 p.toNat
      (1023 < k → Leaves (.readLog t auth p) s (answ 2 [])) ∧
      (k ≤ 1023 → a.hReset = false → a.pw.hold = false → Leaves (.readLog t auth p) s (answ 0 (logAt a k))) ∧
      (∀ x, k ≤ 1023 → a.hReset = true ∨ a.pw.hold = true → a.shadow.find? (fun x => x.1 == k) = some x →
        Leaves (.readLog t auth p) s (answ 0 (logBytes x.2))) ∧
      (k ≤ 1023 → a.hReset = true ∨ a.pw.hold = true → a.shadow.find? (fun x => x.1 == k) = none → Leaves (.readLog t auth p) s (answ 0 (leBytes 64 0)))) ∧
    (diesRun a = true →
      (ok 0x11 true false → Leaves (.clearLog t auth) s (mgmtReply (onErrorLogClear a) t 0 []) ∧ (onErrorLogClear a).log = [] ∧
        (onErrorLogClear a).n CT_LOG_STATUS = 0) ∧
      (ok 0x21 false false → Leaves (.testStatus t auth) s (answ 0 (leBytes 4 (a.n CT_TEST_STATUS)))) ∧
      (ok 0x41 true false → ∀ v : BitVec 32, Leaves (.setClamp t auth v) s (mgmtReply (ctClampWrite a (mgmtArg a t 0 v.toNat)) t 0 [])) ∧
      (ok 0x20 true false → ∀ v : BitVec 32, let y := mgmtArg a t 0 v.toNat
        let b := testRequest a (y / 32 % 8) (y % 16) (bitAt y 8)
        Leaves (.selfTest t auth v) s (mgmtReply b t 0 (leBytes 1 (b.f CT_TEST_STATUS_code))))) ∧
    (diesRun a = false →
      (ok 0x11 true false → Leaves (.clearLog t auth) s (answ 8 [])) ∧ (ok 0x21 false false → Leaves (.testStatus t auth) s (answ 8 [])) ∧
      (ok 0x41 true false → ∀ v, Leaves (.setClamp t auth v) s (answ 8 [])) ∧ (ok 0x20 true false → ∀ v, Leaves (.selfTest t auth v) s (answ 8 []))) ∧
    (∀ k : BitVec 8, let y := mgmtArg a t 0 k.toNat
      (t.val = 2 → a.pw.mbx ≠ some 0x40 → Leaves (.moduleReset t auth k) s (settle a)) ∧
      (t.val = 0 → auth = false → Leaves (.moduleReset t auth k) s (settle (answ 4 []))) ∧
      (ok 0x40 true true →
        (y = 0 ∨ 4 < y → Leaves (.moduleReset t auth k) s (settle (answ 2 []))) ∧
        (y = 1 → Leaves (.moduleReset t auth k) s (mcModuleReset (settle (answ 0 [])))) ∧
        (y = 2 → Leaves (.moduleReset t auth k) s (hdieReset (settle (answ 0 [])) 0x60)) ∧
        (y = 3 → Leaves (.moduleReset t auth k) s (fmainReset (settle (answ 0 [])) 0x60)) ∧
        (y = 4 → Leaves (.moduleReset t auth k) s (mcReset (settle (answ 0 [])) 0x60))))) ∧
  (∀ x : Mach, (mcModuleReset x).dram = [] ∧ (mcModuleReset x).reqs = [] ∧ (mcModuleReset x).f GL_RESET_CAUSE_kind = 2 ∧
    (mcModuleReset x).f GL_RESET_CAUSE_source = 0x60 ∧ (4 ∉ x.pw.held → (mcModuleReset x).engines = []) ∧
    ((mcModuleReset x).pw.hold = true ↔ x.pw.shutdown = true ∧ worstLevel x ≠ 0) ∧
    (hdieReset x 0x60).hReset = true ∧ (hdieReset x 0x60).csram = [] ∧ (hdieReset x 0x60).reqs = [] ∧ (hdieReset x 0x60).dram = x.dram ∧
    (4 ∉ x.pw.held → (hdieReset x 0x60).engines = []) ∧ (hdieReset x 0x60).f GL_RESET_CAUSE_kind = 3 ∧ (hdieReset x 0x60).f GL_RESET_CAUSE_source = 0x60 ∧
    (fmainReset x 0x60).now = 0 ∧ (fmainReset x 0x60).ring = {} ∧ (fmainReset x 0x60).beat = {} ∧ (fmainReset x 0x60).dram = x.dram ∧
    (fmainReset x 0x60).f GL_RESET_CAUSE_kind = 4 ∧ (fmainReset x 0x60).f GL_RESET_CAUSE_source = 0x60 ∧
    (mcReset x 0x60).pw = { x.pw with mbx := none, upd := none } ∧ (mcReset x 0x60).f GL_RESET_CAUSE_kind = 6 ∧
    (mcReset x 0x60).f GL_RESET_CAUSE_source = 0x60 ∧ Only [.regs, .pw] x (mcReset x 0x60)) ∧
  (∀ (s : State) (t : Fin 3) (auth : Bool),
    let a := s.m
    let fw (c : Instr) (n : Nv) (m : Mach) (st : Nat) (d : List Byte) : Prop :=
      exec c s = .next { s with nv := n, m := finish (mgmtReply m t st d) }
    let ok (code : Nat) : Prop := (t.val = 2 → a.pw.mbx = some code) ∧ (t.val = 0 → auth = true)
    (ok 0x30 → ∀ (k : BitVec 8) (l : BitVec 32), let i := mgmtArg a t 0 k.toNat
      let n := mgmtArg a t 1 l.toNat
      let b := 1 - bootedBank a i
      (1 ≤ i → i ≤ 3 → n ≤ 0x800000 + 304 → fw (.fwBegin t auth k l) (s.nv.setBank i b { valid := false })
        { a with pw := { a.pw with upd := some { kind := i, bank := b, len := n } } } 0 (leBytes 1 b)) ∧
      (i = 0 ∨ 3 < i ∨ 0x800000 + 304 < n → fw (.fwBegin t auth k l) s.nv a 2 [])) ∧
    (a.pw.upd = none → (ok 0x31 → ∀ o d, fw (.fwData t auth o d) s.nv a 2 []) ∧ (ok 0x32 → fw (.fwVerify t auth) s.nv a 5 []) ∧
      (ok 0x33 → fw (.fwActivate t auth) s.nv a 5 [])) ∧
    (∀ u, a.pw.upd = some u →
      let x := s.nv.bank u.kind u.bank
      (ok 0x31 → ∀ (o : BitVec 32) (d : List Byte),
        let y := mgmtArg a t 0 o.toNat
        let e := if t.val = 2 then ((keysFrom 0 512).foldl (fun l i => l ++ leBytes 8 (a.n (PW_MBX_BUF i))) []).take (a.n (PW_MBX_ARG 1)) else d
        (e.length ≤ 4096 → y + e.length ≤ u.len → (t.val = 2 → a.n (PW_MBX_ARG 1) ≤ 4096) → fw (.fwData t auth o d)
          (s.nv.setBank u.kind u.bank { x with valid := false, data := mapSetRange memReset x.data y e })
          { a with pw := { a.pw with upd := some { u with verified := false } } } 0 []) ∧
        (4096 < e.length ∨ u.len < y + e.length ∨ (t.val = 2 ∧ 4096 < a.n (PW_MBX_ARG 1)) → fw (.fwData t auth o d) s.nv a 2 [])) ∧
      (ok 0x32 →
        (verifyStatus s.nv u.kind x.data = 0 → fw (.fwVerify t auth)
          (s.nv.setBank u.kind u.bank { x with valid := true, version := imgField x.data 6 2, level := imgField x.data 8 4, slot := imgField x.data 5 1 })
          ({ a with pw := { a.pw with upd := some { u with verified := true } } }.raise PW_EVENT_fw_ready) 0 []) ∧
        (verifyStatus s.nv u.kind x.data ≠ 0 → fw (.fwVerify t auth) s.nv a (verifyStatus s.nv u.kind x.data) [])) ∧
      (ok 0x33 →
        (u.verified = true → u.kind ∉ a.pw.failed → fw (.fwActivate t auth) (activate s.nv u.kind x) a 0 []) ∧
        (u.verified = true → u.kind ∈ a.pw.failed → exec (.fwActivate t auth) s =
          .next { s with nv := activate s.nv u.kind x, m := finish (moduleReset (settle (mgmtReply a t 0 [])) 0xFC) }) ∧
        (u.verified = false → fw (.fwActivate t auth) s.nv a 5 [])))) ∧
  (∀ (s : State) (t : Nat → BitVec 16),
    let lv (i : Nat) : Nat := sensorLevel (s.m.f (PW_THRESH_warn i)) (s.m.f (PW_THRESH_crit i)) (s.m.f (PW_THRESH_shutdown i))
      (signed 16 (t i).toNat) (s.m.f (PW_TEMP_level i))
    ((∀ i, i < 5 → lv i ≠ 3) ∨ s.m.pw.shutdown = true → Ends (.sensorPoll (t 0) (t 1) (t 2) (t 3) (t 4)) s (fun m => (∀ i, i < 5 → m.f (PW_TEMP_temp i) = (t i).toNat ∧
      m.f (PW_TEMP_level i) = lv i) ∧ (∀ i, i < 5 → s.m.f (PW_TEMP_level i) = 0 → 1 ≤ lv i → m.f PW_EVENT_thermal_warn = 1) ∧
      (∀ i, i < 5 → s.m.f (PW_TEMP_level i) < 2 → 2 ≤ lv i → m.f PW_EVENT_thermal_crit = 1) ∧
      OnlyRegs [PW_TEMP 0, PW_TEMP 1, PW_TEMP 2, PW_TEMP 3, PW_TEMP 4, PW_EVENT] s.m m ∧ Only [.regs, .work] s.m m)) ∧
    (∀ i, i < 5 → lv i = 3 → s.m.pw.shutdown = false → Ends (.sensorPoll (t 0) (t 1) (t 2) (t 3) (t 4)) s (fun m => m.pw.hold = true ∧
      m.pw.shutdown = true ∧ m.hReset = true ∧ (4 ∉ s.m.pw.held → m.engines = [])))) ∧
  (∀ s : State, Ends .mcWatchdogExpire s (fun m => m.f GL_RESET_CAUSE_kind = 6 ∧ m.f GL_RESET_CAUSE_source = 0xFD ∧ m.f PW_EVENT_mc_wdog = 1 ∧
    m.pw.mbx = none ∧ m.pw.upd = none ∧ (s.m.pw.mbx ≠ none → m.f PW_MBX_STATUS_status = 8) ∧ Only [.regs, .pw, .work] s.m m))
end

