-- ==== Sys2Proof/Laws/Maps.lean ====
section
/-!
SUPPORT. Sparse maps: read after write, other keys unchanged, and the canonical form kept by every write.
-/
namespace Sys2Proof.Machine

variable {α : Type}

theorem mapGet_mapIns (d : Nat → α) (m : List (Nat × α)) (k j : Nat) (v : α) :
    mapGet d (mapIns m k v) j = if j = k then v else mapGet d m j := by
  induction m with
  | nil => simp [mapIns, mapGet]
  | cons p t ih =>
    obtain ⟨a, w⟩ := p
    by_cases h1 : k < a
    · simp [mapIns, h1, mapGet]
    · by_cases h2 : k = a
      · subst h2; simp only [mapIns, mapGet, Nat.lt_irrefl, if_false, if_true]; split <;> simp_all
      · simp only [mapIns, mapGet, if_neg h1, if_neg h2, ih]
        split
        · next h => rw [if_neg (by omega)]
        · rfl

theorem mapGet_mapDel (d : Nat → α) (m : List (Nat × α)) (k j : Nat) :
    mapGet d (mapDel m k) j = if j = k then d k else mapGet d m j := by
  induction m with
  | nil => simp only [mapDel, mapGet]; split <;> simp_all
  | cons p t ih =>
    obtain ⟨a, w⟩ := p
    by_cases h : k = a
    · subst h; simp only [mapDel, if_true, ih, mapGet]; split <;> simp_all
    · simp only [mapDel, if_neg h, mapGet, ih]
      split
      · next h1 => rw [if_neg (by omega)]
      · rfl

/-- Read after write: the written key holds the value, every other key what it held. -/
theorem mapGet_mapSet [DecidableEq α] (d : Nat → α) (m : List (Nat × α)) (k j : Nat) (v : α) :
    mapGet d (mapSet d m k v) j = if j = k then v else mapGet d m j := by
  unfold mapSet
  split
  · next h => rw [mapGet_mapDel, h]
  · rw [mapGet_mapIns]

@[simp] theorem mapGet_mapSet_same [DecidableEq α] (d : Nat → α) (m : List (Nat × α)) (k : Nat) (v : α) :
    mapGet d (mapSet d m k v) k = v := by simp [mapGet_mapSet]

@[simp] theorem mapGet_mapSet_other [DecidableEq α] (d : Nat → α) (m : List (Nat × α)) {k j : Nat} (v : α) (h : j ≠ k) :
    mapGet d (mapSet d m k v) j = mapGet d m j := by simp [mapGet_mapSet, h]

/-- A range write leaves the keys outside the range. -/
theorem mapGet_mapSetRange_outside [DecidableEq α] (d : Nat → α) (m : List (Nat × α)) (k : Nat) (vs : List α) (j : Nat)
    (h : j < k ∨ k + vs.length ≤ j) : mapGet d (mapSetRange d m k vs) j = mapGet d m j := by
  induction vs generalizing m k with
  | nil => rfl
  | cons v t ih =>
    simp only [List.length_cons] at h
    rw [mapSetRange, ih _ _ (by omega), mapGet_mapSet_other _ _ _ (by omega)]

/-- A range write puts each value at its key. -/
theorem mapGet_mapSetRange_inside [DecidableEq α] (d : Nat → α) (m : List (Nat × α)) (k : Nat) (vs : List α) (i : Nat)
    (h : i < vs.length) : mapGet d (mapSetRange d m k vs) (k + i) = vs[i] := by
  induction vs generalizing m k i with
  | nil => simp at h
  | cons v t ih =>
    rw [mapSetRange]
    cases i with
    | zero =>
      rw [mapGet_mapSetRange_outside _ _ _ _ _ (by omega)]
      simp
    | succ i =>
      have := ih (mapSet d m k v) (k + 1) i (by simpa using h)
      rw [show k + (i + 1) = k + 1 + i by omega, this]
      simp

/-- A range read after a range write at the same key gives the values written. -/
theorem mapRange_mapSetRange [DecidableEq α] (d : Nat → α) (m : List (Nat × α)) (k : Nat) (vs : List α) :
    mapRange d (mapSetRange d m k vs) k vs.length = vs := by
  suffices h : ∀ (ws : List α) (f : List (Nat × α)) (j : Nat), (∀ i (hi : i < ws.length), mapGet d f (j + i) = ws[i]) →
      mapRange d f j ws.length = ws from h vs _ k (fun i hi => mapGet_mapSetRange_inside d m k vs i hi)
  intro ws
  induction ws with
  | nil => intros; rfl
  | cons w t ih =>
    intro f j h
    rw [List.length_cons, mapRange, ih f (j + 1) (fun i hi => by
      have := h (i + 1) (by simpa using hi); rwa [show j + (i + 1) = j + 1 + i by omega] at this)]
    exact congrArg (· :: t) (h 0 (by simp))

/-- The little-endian bytes of a number spell the number modulo their range. -/
theorem leNat_leBytes : ∀ (n x : Nat), leNat (leBytes n x) = x % 256 ^ n
  | 0, x => by simp [leBytes, leNat, Nat.mod_one]
  | n + 1, x => by
    rw [leBytes, leNat, leNat_leBytes n, BitVec.toNat_ofNat, show (256 : Nat) ^ (n + 1) = 256 * 256 ^ n from Nat.pow_succ', Nat.mod_mul]

/-! ### The canonical form -/

theorem mapWfFrom_mono [DecidableEq α] (d : Nat → α) {lo hi : Nat} (m : List (Nat × α)) (h : lo ≤ hi)
    (hm : mapWfFrom d hi m = true) : mapWfFrom d lo m = true := by
  cases m with
  | nil => rfl
  | cons p t =>
    obtain ⟨a, v⟩ := p
    simp only [mapWfFrom, Bool.and_eq_true, decide_eq_true_eq] at hm ⊢
    exact ⟨⟨by omega, hm.1.2⟩, hm.2⟩

theorem mapDel_wf [DecidableEq α] (d : Nat → α) (m : List (Nat × α)) (lo k : Nat) (hm : mapWfFrom d lo m = true) :
    mapWfFrom d lo (mapDel m k) = true := by
  induction m generalizing lo with
  | nil => rfl
  | cons p t ih =>
    obtain ⟨a, v⟩ := p
    simp only [mapWfFrom, Bool.and_eq_true, decide_eq_true_eq] at hm
    by_cases h : k = a
    · simp only [mapDel, if_pos h]
      exact ih lo (mapWfFrom_mono d t (by omega) hm.2)
    · simp only [mapDel, if_neg h, mapWfFrom, Bool.and_eq_true, decide_eq_true_eq]
      exact ⟨hm.1, ih _ hm.2⟩

theorem mapIns_wf [DecidableEq α] (d : Nat → α) (m : List (Nat × α)) (lo k : Nat) (v : α) (hm : mapWfFrom d lo m = true)
    (hk : lo ≤ k) (hv : v ≠ d k) : mapWfFrom d lo (mapIns m k v) = true := by
  induction m generalizing lo with
  | nil => simp [mapIns, mapWfFrom, hk, hv]
  | cons p t ih =>
    obtain ⟨a, w⟩ := p
    simp only [mapWfFrom, Bool.and_eq_true, decide_eq_true_eq] at hm
    by_cases h1 : k < a
    · simp only [mapIns, if_pos h1, mapWfFrom, Bool.and_eq_true, decide_eq_true_eq]
      exact ⟨⟨hk, hv⟩, ⟨by omega, hm.1.2⟩, hm.2⟩
    · by_cases h2 : k = a
      · simp only [mapIns, if_neg h1, if_pos h2, mapWfFrom, Bool.and_eq_true, decide_eq_true_eq]
        exact ⟨⟨hk, hv⟩, by rw [h2]; exact hm.2⟩
      · simp only [mapIns, if_neg h1, if_neg h2, mapWfFrom, Bool.and_eq_true, decide_eq_true_eq]
        exact ⟨hm.1, ih _ hm.2 (by omega)⟩

/-- A write keeps the canonical form. -/
theorem mapSet_wf [DecidableEq α] (d : Nat → α) (m : List (Nat × α)) (k : Nat) (v : α) (hm : mapWf d m = true) :
    mapWf d (mapSet d m k v) = true := by
  unfold mapSet mapWf
  split
  · exact mapDel_wf d m 0 k hm
  · next h => exact mapIns_wf d m 0 k v hm (Nat.zero_le _) h

/-- A range write keeps the canonical form. -/
theorem mapSetRange_wf [DecidableEq α] (d : Nat → α) (m : List (Nat × α)) (k : Nat) (vs : List α) (hm : mapWf d m = true) :
    mapWf d (mapSetRange d m k vs) = true := by
  induction vs generalizing m k with
  | nil => exact hm
  | cons v t ih => exact ih _ _ (mapSet_wf d m k v hm)

/-- Two canonical maps that read the same at every key are the same list. -/
theorem mapWf_ext [DecidableEq α] (d : Nat → α) (m n : List (Nat × α)) (hm : mapWf d m = true) (hn : mapWf d n = true)
    (h : ∀ k, mapGet d m k = mapGet d n k) : m = n := by
  have key : ∀ (m n : List (Nat × α)) (lo : Nat), mapWfFrom d lo m = true → mapWfFrom d lo n = true →
      (∀ k, mapGet d m k = mapGet d n k) → m = n := by
    have low : ∀ (m : List (Nat × α)) (lo k : Nat), mapWfFrom d lo m = true → k < lo → mapGet d m k = d k := by
      intro m
      induction m with
      | nil => intros; rfl
      | cons p t ih =>
        obtain ⟨a, v⟩ := p
        intro lo k hm hk
        simp only [mapWfFrom, Bool.and_eq_true, decide_eq_true_eq] at hm
        rw [mapGet, if_neg (by omega)]
        exact ih _ _ hm.2 (by omega)
    intro m
    induction m with
    | nil =>
      intro n lo _ hn h
      cases n with
      | nil => rfl
      | cons q t =>
        obtain ⟨a, v⟩ := q
        simp only [mapWfFrom, Bool.and_eq_true, decide_eq_true_eq] at hn
        have := h a
        simp only [mapGet, if_true] at this
        exact absurd this.symm hn.1.2
    | cons p t ih =>
      obtain ⟨a, v⟩ := p
      intro n lo hm hn h
      cases n with
      | nil =>
        simp only [mapWfFrom, Bool.and_eq_true, decide_eq_true_eq] at hm
        have := h a
        simp only [mapGet, if_true] at this
        exact absurd this hm.1.2
      | cons q u =>
        obtain ⟨b, w⟩ := q
        simp only [mapWfFrom, Bool.and_eq_true, decide_eq_true_eq] at hm hn
        have hab : a = b := by
          rcases Nat.lt_trichotomy a b with hl | he | hl
          · have := h a
            rw [mapGet, if_pos rfl, mapGet, if_neg (by omega), low u _ a hn.2 (by omega)] at this
            exact absurd this hm.1.2
          · exact he
          · have := h b
            rw [mapGet, if_neg (by omega), mapGet, if_pos rfl, low t _ b hm.2 (by omega)] at this
            exact absurd this.symm hn.1.2
        subst hab
        have hv : v = w := by have := h a; simpa [mapGet] using this
        subst hv
        congr 1
        refine ih u (a + 1) hm.2 hn.2 (fun k => ?_)
        by_cases hk : k = a
        · subst hk; rw [low t _ k hm.2 (by omega), low u _ k hn.2 (by omega)]
        · have := h k
          simpa [mapGet, hk] using this
  exact key m n 0 hm hn h

end Sys2Proof.Machine
end

