-- ==== Sys2Proof/Laws/Fields.lean ====
section
/-!
SUPPORT. Bit fields of a register word: a field reads what was written to it, and fields beside it keep their value; the same
for the registers of the module.
-/
namespace Sys2Proof.Machine

theorem fieldOf_testBit (v : U64) (lo w i : Nat) : (fieldOf v lo w).testBit i = (decide (i < w) && v.getLsbD (lo + i)) := by
  simp [fieldOf, Nat.testBit_mod_two_pow, Nat.testBit_div_two_pow, BitVec.getLsbD]
  rw [Nat.add_comm]

theorem fieldMask_getLsbD (lo w i : Nat) :
    (fieldMask lo w).getLsbD i = (decide (i < 64) && decide (lo ≤ i) && decide (i < lo + w)) := by
  simp only [fieldMask, BitVec.getLsbD_ofNat, Nat.testBit_mul_two_pow, Nat.testBit_two_pow_sub_one]
  by_cases h : lo ≤ i
  · have : (i - lo < w) ↔ (i < lo + w) := by omega
    simp [h, this]
  · simp [h]

theorem withField_getLsbD (v : U64) (lo w x i : Nat) :
    (withField v lo w x).getLsbD i =
      (decide (i < 64) && (if lo ≤ i ∧ i < lo + w then x.testBit (i - lo) else v.getLsbD i)) := by
  by_cases hi : i < 64
  · simp only [withField, BitVec.getLsbD_or, BitVec.getLsbD_and, BitVec.getLsbD_not, fieldMask_getLsbD, hi,
      BitVec.getLsbD_ofNat, Nat.testBit_mul_two_pow, Nat.testBit_mod_two_pow, decide_true, Bool.true_and]
    by_cases h1 : lo ≤ i
    · by_cases h2 : i < lo + w
      · simp [h1, h2, show i - lo < w by omega]
      · simp [h1, h2, show ¬ (i - lo < w) by omega]
    · simp [h1]
  · have h : 64 ≤ i := by omega
    simp [hi, BitVec.getLsbD_of_ge _ _ h]

/-- A field reads the low bits of what was written to it. -/
theorem fieldOf_withField_same (v : U64) (lo w x : Nat) (h : lo + w ≤ 64) : fieldOf (withField v lo w x) lo w = x % 2 ^ w := by
  apply Nat.eq_of_testBit_eq
  intro i
  rw [fieldOf_testBit, withField_getLsbD, Nat.testBit_mod_two_pow]
  by_cases hi : i < w
  · simp [hi, show lo + i < 64 by omega]
  · simp [hi]

/-- A field that shares no bit with the written one keeps its value. -/
theorem fieldOf_withField_other (v : U64) (lo w x lo' w' : Nat) (h : lo + w ≤ lo' ∨ lo' + w' ≤ lo) :
    fieldOf (withField v lo w x) lo' w' = fieldOf v lo' w' := by
  apply Nat.eq_of_testBit_eq
  intro i
  rw [fieldOf_testBit, fieldOf_testBit, withField_getLsbD]
  by_cases hi : i < w'
  · rw [if_neg (by omega)]
    by_cases h64 : lo' + i < 64
    · simp [h64]
    · simp [h64, BitVec.getLsbD_of_ge v _ (Nat.le_of_not_lt h64)]
  · simp [hi]

/-- A field's value lies in its range. -/
theorem fieldOf_lt (v : U64) (lo w : Nat) : fieldOf v lo w < 2 ^ w := Nat.mod_lt _ (Nat.two_pow_pos _)

/-! ### Registers -/

@[simp] theorem Mach.r_setR_same (s : Mach) (k : Nat) (v : U64) : (s.setR k v).r k = v := by simp [Mach.setR, Mach.r]

theorem Mach.r_setR (s : Mach) (k j : Nat) (v : U64) : (s.setR k v).r j = if j = k then v else s.r j := by
  simp [Mach.setR, Mach.r, mapGet_mapSet]

@[simp] theorem Mach.r_setR_other (s : Mach) {k j : Nat} (v : U64) (h : j ≠ k) : (s.setR k v).r j = s.r j := by
  simp [Mach.r_setR, h]

/-- A field of a register reads what was written to it. -/
theorem Mach.f_setF_same (s : Mach) (x : RF) (v : Nat) (h : x.lo + x.width ≤ 64) : (s.setF x v).f x = v % 2 ^ x.width := by
  simp [Mach.setF, Mach.f, fieldOf_withField_same _ _ _ _ h]

/-- A write of one field leaves every field that shares no bit with it. -/
theorem Mach.f_setF_other (s : Mach) (x y : RF) (v : Nat)
    (h : y.reg ≠ x.reg ∨ x.lo + x.width ≤ y.lo ∨ y.lo + y.width ≤ x.lo) : (s.setF x v).f y = s.f y := by
  by_cases hr : y.reg = x.reg
  · have h' := h.resolve_left (fun n => n hr)
    simp [Mach.setF, Mach.f, hr, fieldOf_withField_other _ _ _ _ _ _ h']
  · simp [Mach.setF, Mach.f, hr]

@[simp] theorem Mach.r_setF_other (s : Mach) (x : RF) (v : Nat) {j : Nat} (h : j ≠ x.reg) : (s.setF x v).r j = s.r j := by
  simp [Mach.setF, h]

@[simp] theorem Mach.r_setN_other (s : Mach) (k v : Nat) {j : Nat} (h : j ≠ k) : (s.setN k v).r j = s.r j := by
  simp [Mach.setN, h]

@[simp] theorem Mach.r_setN_same (s : Mach) (k v : Nat) : (s.setN k v).r k = BitVec.ofNat 64 v := by simp [Mach.setN]

@[simp] theorem Mach.n_setN_same (s : Mach) (k v : Nat) : (s.setN k v).n k = v % 2 ^ 64 := by simp [Mach.n]

end Sys2Proof.Machine
end

