-- ==== Sys2Proof/Laws/Engine.lean ====
section
/-!
SUPPORT. What the shared operations of the engine instructions do: issue and retirement, branches, access checks, loads and stores of
normal memory and of the register mirror.
-/
namespace Sys2Proof.Machine

/-! ### Engines in the module -/

theorem Mach.eng_setEng (s : Mach) (e k : Nat) (x : Engine) : (s.setEng e x).eng k = if k = e then x else s.eng k := by
  simp [Mach.setEng, Mach.eng, mapGet_mapSet]

@[simp] theorem Mach.eng_setEng_same (s : Mach) (e : Nat) (x : Engine) : (s.setEng e x).eng e = x := by
  simp [Mach.eng_setEng]

@[simp] theorem Mach.eng_setEng_other (s : Mach) {e k : Nat} (x : Engine) (h : k ≠ e) : (s.setEng e x).eng k = s.eng k := by
  simp [Mach.eng_setEng, h]

/-- g0 reads 0 and ignores writes; another register reads what was written to it (Table 06-1). -/
theorem Engine.get_put (x : Engine) (d k : Nat) (v : U64) : (x.put d v).get k = if k = d ∧ d ≠ 0 then v else x.get k := by
  simp only [Engine.get, Engine.put, EngArch.put]
  by_cases hd : d = 0
  · simp [hd]
  · simp only [hd, if_false, mapGet_mapSet]
    by_cases hk : k = 0
    · simp [hk, Ne.symm hd]
    · simp only [hk, if_false]
      simp [hd]

@[simp] theorem Engine.get_retire (x : Engine) (n k : Nat) : (x.retire n).get k = x.get k := rfl

theorem Engine.get_retireD (x : Engine) (d k : Nat) (v : U64) : (x.retireD d v).get k = if k = d ∧ d ≠ 0 then v else x.get k := by
  simp [Engine.retireD, Engine.get_put]

/-- With nothing due, no exception is taken. -/
theorem asyncCheck_of_noneDue (s : Mach) (e : Nat) (h : NoneDue (s.eng e)) : asyncCheck s e = s := by
  simp [asyncCheck, h.1, h.2.1, h.2.2]

/-- An instruction retires in an engine for which nothing is due. -/
theorem retireEng_of_noneDue (s : Mach) (e : Nat) (x : Engine) (h : NoneDue x) : retireEng s e x = s.setEng e x :=
  asyncCheck_of_noneDue _ _ (by simpa using h)

/-! ### Issue and result -/

/-- A register instruction of a ready engine writes its result. -/
theorem regStep_ready (h : Engine → U64) {s : State} {e d : Nat} {srcs : List Nat} (hr : Ready s e (d :: srcs)) :
    regStep e d srcs h s.m = wrote s e d (h (s.m.eng e)) := by
  simp only [Ready] at hr
  simp [regStep, hr, wrote]

/-- An instruction with flags of a ready engine writes its result and ors its flags. -/
theorem flagStep_ready (h : Engine → Nat × Nat) {s : State} {e d : Nat} {srcs : List Nat} (hr : Ready s e (d :: srcs)) :
    flagStep e d srcs h s.m = wroteFlags s e d (h (s.m.eng e)) := by
  simp only [Ready] at hr
  simp only [flagStep, hr, if_true, wroteFlags, Engine.retireD, Engine.retire, Engine.put, EngArch.put]
  split <;> rfl

/-- An engine that cannot issue waits. -/
theorem regStep_waits (h : Engine → U64) {s : Mach} {e d : Nat} {srcs : List Nat} (hr : (s.eng e).canIssue (d :: srcs) = false) :
    regStep e d srcs h s = stall s e := by
  simp [regStep, hr]

/-- A divide of a ready engine: the exception for a zero divisor, else the result. -/
theorem divStep_ready (w : Bool) (op : U64 → U64 → U64) {s : State} {e d a b : Nat} (hr : Ready s e [d, a, b]) :
    divStep e d a b w op s.m =
      if wNat w (reg s e b) = 0 then raised s e 9 0 else wrote s e d (op (reg s e a) (reg s e b)) := by
  simp only [Ready] at hr
  simp only [divStep, hr, if_true]
  rfl

/-! ### Branches -/

/-- A legal target: the link is written and the engine goes there (R255). -/
theorem goTo_legal (s : Mach) (e : Nat) (t : Int) (link : Option (Nat × U64)) (h : t % 4 = 0) (h0 : 0 ≤ t) (h1 : t < 0x10000) :
    goTo s e t link = retireEng s e ((match link with
      | some (d, v) => (s.eng e).put d v
      | none => s.eng e).retire t.toNat) := by
  unfold goTo
  rw [if_neg (by omega)]
  all_goals (cases link <;> rfl)

/-- An illegal target raises the instruction fetch fault (R256). -/
theorem goTo_illegal (s : State) (e : Nat) (t : Int) (link : Option (Nat × U64)) (h : t % 4 ≠ 0 ∨ t < 0 ∨ 0x10000 ≤ t) :
    goTo s.m e t link = raised s e 2 (t % 2 ^ 48).toNat := by
  unfold goTo
  rw [if_pos h]
  rfl

/-- A conditional branch of a ready engine. -/
theorem branchStep_ready (c : U64 → U64 → Bool) {s : State} {e a b : Nat} (off : BitVec 16) (hr : Ready s e [a, b]) :
    branchStep e a b off c s.m =
      if c (reg s e a) (reg s e b) then goTo s.m e ((s.m.eng e).arch.pc + 4 * off.toInt) none
      else moved s e ((s.m.eng e).arch.pc + 4) := by
  simp only [Ready] at hr
  simp only [branchStep, hr, if_true]
  rfl

/-! ### Access checks -/

/-- An aligned and allowed access to normal memory goes ahead. -/
theorem accessCheck_normal {s : State} {e ea n : Nat} {need : Need} (at_ : Bool) (h1 : NormalAt ea) (h : Allowed s e ea n need) :
    accessCheck s.m e ea n need at_ = (s.m, none) := by
  unfold accessCheck
  rw [if_neg (by simp [h.1])]
  have h2 := h.2
  rcases h1 with ⟨o, h1⟩ | ⟨o, h1⟩ | ⟨o, h1⟩ <;> simp [h1, mpuCheck, h2]

/-- So does one of 4 or 8 bytes to the register mirror, when it is no atomic. -/
theorem accessCheck_mirror {s : State} {e ea n off : Nat} {need : Need} (h1 : locate ea = .mirror off) (hn : 4 ≤ n)
    (h : Allowed s e ea n need) : accessCheck s.m e ea n need false = (s.m, none) := by
  unfold accessCheck
  rw [if_neg (by simp [h.1])]
  simp [h1, hn, mpuCheck, h.2]

/-- R241: a misaligned access. -/
theorem accessCheck_misaligned (s : Mach) {e ea n : Nat} (need : Need) (at_ : Bool) (h : ea % n ≠ 0) :
    accessCheck s e ea n need at_ = (s, some (6, ea)) := by
  unfold accessCheck
  rw [if_pos h]

/-- R243: an access outside the ranges a core instruction reaches. -/
theorem accessCheck_outside (s : Mach) {e ea n : Nat} (need : Need) (at_ : Bool) (h : ea % n = 0)
    (h1 : locate ea = .nowhere ∨ ∃ fa, locate ea = .fabric fa) : accessCheck s e ea n need at_ = (s, some (7, ea)) := by
  unfold accessCheck
  rw [if_neg (by simp [h])]
  rcases h1 with h1 | ⟨fa, h1⟩ <;> simp [h1]

/-! ### Loads -/

theorem loadStep_normal {s : State} {e d a : Nat} {i : BitVec 16} {n : Nat} (sg : Bool) (hr : Ready s e [d, a])
    (h1 : NormalAt (memAddr s e a i)) (h2 : Allowed s e (memAddr s e a i) n needR)
    (h3 : dramFails s.m (memAddr s e a i) n = false) :
    loadStep e d a i n sg s.m = wrote s e d (loadExt n sg (leNat (engBytes s.m e (memAddr s e a i) n))) := by
  simp only [Ready] at hr
  simp only [loadStep, hr, if_true]
  have hc := accessCheck_normal false h1 h2
  change (match (accessCheck s.m e (memAddr s e a i) n needR false).2 with
    | some (v, ad) => _
    | none => (match locate (memAddr s e a i) with
      | .mirror off => _
      | _ => if dramFails s.m (memAddr s e a i) n = true then _
             else retireEng s.m e ((s.m.eng e).retireD d (loadExt n sg (leNat (engBytes s.m e (memAddr s e a i) n)))))) = _
  rw [hc]
  rcases h1 with ⟨o, h1⟩ | ⟨o, h1⟩ | ⟨o, h1⟩ <;> simp [h1, h3, wrote]

theorem loadStep_misaligned {s : State} {e d a : Nat} {i : BitVec 16} {n : Nat} (sg : Bool) (hr : Ready s e [d, a])
    (hb : (s.m.eng e).rob = []) (h : memAddr s e a i % n ≠ 0) : loadStep e d a i n sg s.m = raised s e 6 (memAddr s e a i) := by
  simp only [Ready] at hr
  simp only [loadStep, hr, if_true]
  have hc := accessCheck_misaligned s.m (e := e) needR false h
  change (match (accessCheck s.m e (memAddr s e a i) n needR false).2 with
    | some (v, ad) => if (s.m.eng e).rob.isEmpty = true then
        settle (preciseException (accessCheck s.m e (memAddr s e a i) n needR false).1 e v ad) else stall s.m e
    | none => _) = _
  rw [hc]
  simp [hb, raised]

theorem loadStep_outside {s : State} {e d a : Nat} {i : BitVec 16} {n : Nat} (sg : Bool) (hr : Ready s e [d, a])
    (hb : (s.m.eng e).rob = []) (h : memAddr s e a i % n = 0)
    (h1 : locate (memAddr s e a i) = .nowhere ∨ ∃ fa, locate (memAddr s e a i) = .fabric fa) :
    loadStep e d a i n sg s.m = raised s e 7 (memAddr s e a i) := by
  simp only [Ready] at hr
  simp only [loadStep, hr, if_true]
  have hc := accessCheck_outside s.m (e := e) needR false h h1
  change (match (accessCheck s.m e (memAddr s e a i) n needR false).2 with
    | some (v, ad) => if (s.m.eng e).rob.isEmpty = true then
        settle (preciseException (accessCheck s.m e (memAddr s e a i) n needR false).1 e v ad) else stall s.m e
    | none => _) = _
  rw [hc]
  simp [hb, raised]

/-- A load of the register mirror issues; its response comes later (R245). -/
theorem loadStep_mirror {s : State} {e d a : Nat} {i : BitVec 16} {n off : Nat} (sg : Bool) (hr : Ready s e [d, a])
    (h1 : locate (memAddr s e a i) = .mirror off) (hn : 4 ≤ n) (h2 : Allowed s e (memAddr s e a i) n needR)
    (hb : (s.m.eng e).rob = []) (hd : (s.m.eng e).devicePending = false) :
    loadStep e d a i n sg s.m = settle (devIssue s.m e d (memAddr s e a i) n sg false none) := by
  simp only [Ready] at hr
  simp only [loadStep, hr, if_true]
  have hc := accessCheck_mirror h1 hn h2
  change (match (accessCheck s.m e (memAddr s e a i) n needR false).2 with
    | some (v, ad) => _
    | none => (match locate (memAddr s e a i) with
      | .mirror _ =>
        if ((s.m.eng e).rob.isEmpty && !(s.m.eng e).devicePending) = true then
          settle (devIssue s.m e d (memAddr s e a i) n sg false none)
        else stall s.m e
      | _ => _)) = _
  rw [hc, h1]
  simp only [hb, hd]
  simp

/-! ### Stores -/

theorem storeStep_unfold {s : State} {e d a : Nat} {i : BitVec 16} {n : Nat} (hr : Ready s e [d, a]) :
    storeStep e d a i n s.m =
      match (accessCheck s.m e (memAddr s e a i) n needW false).2 with
      | some (v, ad) => if (s.m.eng e).rob.isEmpty = true then
          settle (preciseException (accessCheck s.m e (memAddr s e a i) n needW false).1 e v ad) else stall s.m e
      | none => bufferStore s.m e [coreStore (s.m.eng e) (memAddr s e a i) (leBytes n (reg s e d).toNat)] := by
  simp only [Ready] at hr
  simp only [storeStep, hr, if_true]
  rfl

theorem coreStore_normal (x : Engine) {ea : Nat} (bs : List Byte) (h : NormalAt ea) :
    coreStore x ea bs = { kind := 0, addr := ea, data := bs, after := x.robNext, level := x.level } := by
  rcases h with ⟨o, h⟩ | ⟨o, h⟩ | ⟨o, h⟩ <;> simp [coreStore, h]

theorem coreStore_mirror (x : Engine) {ea off : Nat} (bs : List Byte) (h : locate ea = .mirror off) :
    coreStore x ea bs = { kind := 1, addr := ea, data := bs, after := x.robNext, level := x.level } := by
  simp [coreStore, h]

/-- A number written little-endian in n bytes. -/
theorem leBytes_length : ∀ (n x : Nat), (leBytes n x).length = n
  | 0, _ => rfl
  | n + 1, x => by simp [leBytes, leBytes_length n]

theorem slotsUsed_append (l k : List StoreEntry) : slotsUsed (l ++ k) = slotsUsed l + slotsUsed k := by
  have h : ∀ (k : List StoreEntry) (n : Nat), k.foldl (fun n t => n + t.slots) n = n + k.foldl (fun n t => n + t.slots) 0 := by
    intro k
    induction k with
    | nil => intro n; rfl
    | cons t k ih => intro n; rw [List.foldl_cons, ih, List.foldl_cons, ih (0 + t.slots)]; omega
  unfold slotsUsed
  rw [List.foldl_append, h]

/-- One store of at most 8 bytes goes into a buffer with a free entry, and waits for one otherwise. -/
theorem bufferStore_one (s : Mach) (e : Nat) {t : StoreEntry} (h : t.slots = 1) :
    bufferStore s e [t] =
      if slotsUsed (s.eng e).sb < 8 then retireEng s e (Engine.retire4 { s.eng e with sb := (s.eng e).sb ++ [t] }) else stall s e := by
  have h1 : slotsUsed [t] = 1 := by simp [slotsUsed, h]
  unfold bufferStore; dsimp only
  rw [slotsUsed_append, h1]
  rfl

theorem storeStep_normal {s : State} {e d a : Nat} {i : BitVec 16} {n : Nat} (hn : n ≤ 8) (hr : Ready s e [d, a])
    (h1 : NormalAt (memAddr s e a i)) (h2 : Allowed s e (memAddr s e a i) n needW) :
    storeStep e d a i n s.m = if slotsUsed (s.m.eng e).sb < 8 then stored s e d a i n 0 else stall s.m e := by
  rw [storeStep_unfold hr, accessCheck_normal false h1 h2]
  have hs : (coreStore (s.m.eng e) (memAddr s e a i) (leBytes n (reg s e d).toNat)).slots = 1 := by
    rw [coreStore_normal _ _ h1]; simp [StoreEntry.slots, leBytes_length, hn]
  simp only [bufferStore_one _ _ hs]
  rw [coreStore_normal _ _ h1]
  rfl

theorem storeStep_mirror {s : State} {e d a : Nat} {i : BitVec 16} {n off : Nat} (hr : Ready s e [d, a])
    (h1 : locate (memAddr s e a i) = .mirror off) (hn : 4 ≤ n) (h2 : Allowed s e (memAddr s e a i) n needW) :
    storeStep e d a i n s.m = if slotsUsed (s.m.eng e).sb < 8 then stored s e d a i n 1 else stall s.m e := by
  rw [storeStep_unfold hr, accessCheck_mirror h1 hn h2]
  have hs : (coreStore (s.m.eng e) (memAddr s e a i) (leBytes n (reg s e d).toNat)).slots = 1 := by
    rw [coreStore_mirror _ _ h1]; simp [StoreEntry.slots]
  simp only [bufferStore_one _ _ hs]
  rw [coreStore_mirror _ _ h1]
  rfl

theorem storeStep_misaligned {s : State} {e d a : Nat} {i : BitVec 16} {n : Nat} (hr : Ready s e [d, a])
    (hb : (s.m.eng e).rob = []) (h : memAddr s e a i % n ≠ 0) : storeStep e d a i n s.m = raised s e 6 (memAddr s e a i) := by
  rw [storeStep_unfold hr, accessCheck_misaligned _ _ _ h]
  simp [hb, raised]

theorem storeStep_outside {s : State} {e d a : Nat} {i : BitVec 16} {n : Nat} (hr : Ready s e [d, a])
    (hb : (s.m.eng e).rob = []) (h : memAddr s e a i % n = 0)
    (h1 : locate (memAddr s e a i) = .nowhere ∨ ∃ fa, locate (memAddr s e a i) = .fabric fa) :
    storeStep e d a i n s.m = raised s e 7 (memAddr s e a i) := by
  rw [storeStep_unfold hr, accessCheck_outside _ _ _ h h1]
  simp [hb, raised]

end Sys2Proof.Machine
end

