-- ==== Sys2Proof/Laws/Exec.lean ====
section
/-!
SUPPORT. The dispatch, one equation per command: exec of a command is its meaning.
-/
namespace Sys2Proof.Machine

variable (s : State)

@[simp] theorem exec_registerWrite (master : BitVec 7) (off : BitVec 26) (n : Nat) (enabled : Bool) (value : U64) : exec (.registerWrite master off n enabled value) s = execRegisterWrite master off n enabled value s := rfl
@[simp] theorem exec_registerLowerHalfRead (master : BitVec 7) (word : BitVec 23) : exec (.registerLowerHalfRead master word) s = execRegisterLowerHalfRead master word s := rfl
@[simp] theorem exec_rcFieldRead (master : BitVec 7) (word : BitVec 24) : exec (.rcFieldRead master word) s = execRcFieldRead master word s := rfl
@[simp] theorem exec_stagingCheckComplete : exec (.stagingCheckComplete) s = execStagingCheckComplete s := rfl
@[simp] theorem exec_stageCommit (master : BitVec 7) (tag : BitVec 16) : exec (.stageCommit master tag) s = execStageCommit master tag s := rfl
@[simp] theorem exec_stageDiscard : exec (.stageDiscard) s = execStageDiscard s := rfl
@[simp] theorem exec_commitApplyBeatsOff : exec (.commitApplyBeatsOff) s = execCommitApplyBeatsOff s := rfl
@[simp] theorem exec_glResetModule (master : BitVec 7) : exec (.glResetModule master) s = execGlResetModule master s := rfl
@[simp] theorem exec_glResetHdie (master : BitVec 7) : exec (.glResetHdie master) s = execGlResetHdie master s := rfl
@[simp] theorem exec_beatStart : exec (.beatStart) s = execBeatStart s := rfl
@[simp] theorem exec_beatStop : exec (.beatStop) s = execBeatStop s := rfl
@[simp] theorem exec_finalEdge : exec (.finalEdge) s = execFinalEdge s := rfl
@[simp] theorem exec_timeStep : exec (.timeStep) s = execTimeStep s := rfl
@[simp] theorem exec_beatEdge : exec (.beatEdge) s = execBeatEdge s := rfl
@[simp] theorem exec_downbeatContentFix : exec (.downbeatContentFix) s = execDownbeatContentFix s := rfl
@[simp] theorem exec_downbeatLaunch : exec (.downbeatLaunch) s = execDownbeatLaunch s := rfl
@[simp] theorem exec_downbeatLoopReturn (p : Fin 8) (f : Frame) : exec (.downbeatLoopReturn p f) s = execDownbeatLoopReturn p f s := rfl
@[simp] theorem exec_phaseInputComplete : exec (.phaseInputComplete) s = execPhaseInputComplete s := rfl
@[simp] theorem exec_phaseOutputDeadline : exec (.phaseOutputDeadline) s = execPhaseOutputDeadline s := rfl
@[simp] theorem exec_decisionDeadline : exec (.decisionDeadline) s = execDecisionDeadline s := rfl
@[simp] theorem exec_ppsPulseStart : exec (.ppsPulseStart) s = execPpsPulseStart s := rfl
@[simp] theorem exec_ppsPulseEnd : exec (.ppsPulseEnd) s = execPpsPulseEnd s := rfl
@[simp] theorem exec_strikeMirrorPulseEnd : exec (.strikeMirrorPulseEnd) s = execStrikeMirrorPulseEnd s := rfl
@[simp] theorem exec_hdieTimeSample (agree : Bool) : exec (.hdieTimeSample agree) s = execHdieTimeSample agree s := rfl
@[simp] theorem exec_ptmRequest : exec (.ptmRequest) s = execPtmRequest s := rfl
@[simp] theorem exec_ptmDialogComplete (ok : Bool) (rtt : Nat) (host : Int) : exec (.ptmDialogComplete ok rtt host) s = execPtmDialogComplete ok rtt host s := rfl
@[simp] theorem exec_ptpSyncReceive (domain : Nat) (l2 : Bool) (t1 : Nat) (t3 : Nat) (t4 : Nat) : exec (.ptpSyncReceive domain l2 t1 t3 t4) s = execPtpSyncReceive domain l2 t1 t3 t4 s := rfl
@[simp] theorem exec_ptpAnnounceReceive (domain : Nat) (l2 : Bool) : exec (.ptpAnnounceReceive domain l2) s = execPtpAnnounceReceive domain l2 s := rfl
@[simp] theorem exec_ptpAnnounceTimeout : exec (.ptpAnnounceTimeout) s = execPtpAnnounceTimeout s := rfl
@[simp] theorem exec_ppsEdge (t : Nat) (falling : Bool) (ref : Bool) : exec (.ppsEdge t falling ref) s = execPpsEdge t falling ref s := rfl
@[simp] theorem exec_ppsMissing : exec (.ppsMissing) s = execPpsMissing s := rfl
@[simp] theorem exec_ref10Loss : exec (.ref10Loss) s = execRef10Loss s := rfl
@[simp] theorem exec_waitToRestoreExpire : exec (.waitToRestoreExpire) s = execWaitToRestoreExpire s := rfl
@[simp] theorem exec_calibrateRing (ring : Fin 4) : exec (.calibrateRing ring) s = execCalibrateRing ring s := rfl
@[simp] theorem exec_calDownbeatReceive (p : Fin 8) (f : Frame) : exec (.calDownbeatReceive p f) s = execCalDownbeatReceive p f s := rfl
@[simp] theorem exec_sfpInsert (p : Fin 8) (code : Nat) : exec (.sfpInsert p code) s = execSfpInsert p code s := rfl
@[simp] theorem exec_sfpRemove (p : Fin 8) : exec (.sfpRemove p) s = execSfpRemove p s := rfl
@[simp] theorem exec_sfpTxFault (p : Fin 8) : exec (.sfpTxFault p) s = execSfpTxFault p s := rfl
@[simp] theorem exec_sfpLosAssert (p : Fin 8) : exec (.sfpLosAssert p) s = execSfpLosAssert p s := rfl
@[simp] theorem exec_sfpLosDeassert (p : Fin 8) : exec (.sfpLosDeassert p) s = execSfpLosDeassert p s := rfl
@[simp] theorem exec_sfpTempPoll (p : Fin 8) (temp : BitVec 16) : exec (.sfpTempPoll p temp) s = execSfpTempPoll p temp s := rfl
@[simp] theorem exec_pcsLockLoss (p : Fin 8) (hiBer : Bool) : exec (.pcsLockLoss p hiBer) s = execPcsLockLoss p hiBer s := rfl
@[simp] theorem exec_portLockHoldExpire (p : Fin 8) : exec (.portLockHoldExpire p) s = execPortLockHoldExpire p s := rfl
@[simp] theorem exec_portTrainingTimeout (p : Fin 8) : exec (.portTrainingTimeout p) s = execPortTrainingTimeout p s := rfl
@[simp] theorem exec_fecAutoAttemptExpire (p : Fin 8) : exec (.fecAutoAttemptExpire p) s = execFecAutoAttemptExpire p s := rfl
@[simp] theorem exec_portSilenceTimeout (p : Fin 8) : exec (.portSilenceTimeout p) s = execPortSilenceTimeout p s := rfl
@[simp] theorem exec_linkFrameReceive (p : Fin 8) (f : Frame) (corrected : Nat) : exec (.linkFrameReceive p f corrected) s = execLinkFrameReceive p f corrected s := rfl
@[simp] theorem exec_linkFrameSend (p : Fin 8) : exec (.linkFrameSend p) s = execLinkFrameSend p s := rfl
@[simp] theorem exec_replayTimeout (p : Fin 8) : exec (.replayTimeout p) s = execReplayTimeout p s := rfl
@[simp] theorem exec_frameTransmit (p : Fin 8) (cut : Option Nat) : exec (.frameTransmit p cut) s = execFrameTransmit p cut s := rfl
@[simp] theorem exec_imageInReceive (p : Fin 8) (f : Frame) : exec (.imageInReceive p f) s = execImageInReceive p f s := rfl
@[simp] theorem exec_readResponseReceive (p : Fin 8) (f : Frame) : exec (.readResponseReceive p f) s = execReadResponseReceive p f s := rfl
@[simp] theorem exec_writeAckReceive (p : Fin 8) (f : Frame) : exec (.writeAckReceive p f) s = execWriteAckReceive p f s := rfl
@[simp] theorem exec_eventFrameTc0 (p : Fin 8) (f : Frame) (upset : Option (Fin 2 × Fin 4096 × Fin 10 × U64)) : exec (.eventFrameTc0 p f upset) s = execEventFrameTc0 p f upset s := rfl
@[simp] theorem exec_eventFrameTc2 (p : Fin 8) (f : Frame) : exec (.eventFrameTc2 p f) s = execEventFrameTc2 p f s := rfl
@[simp] theorem exec_voteReceive (p : Fin 8) (f : Frame) : exec (.voteReceive p f) s = execVoteReceive p f s := rfl
@[simp] theorem exec_enumStart (ring : Fin 4) : exec (.enumStart ring) s = execEnumStart ring s := rfl
@[simp] theorem exec_enumAnswerReceive (p : Fin 8) (f : Frame) : exec (.enumAnswerReceive p f) s = execEnumAnswerReceive p f s := rfl
@[simp] theorem exec_enumProbeTimeout (ring : Fin 4) : exec (.enumProbeTimeout ring) s = execEnumProbeTimeout ring s := rfl
@[simp] theorem exec_enumProbeReturn (p : Fin 8) (f : Frame) : exec (.enumProbeReturn p f) s = execEnumProbeReturn p f s := rfl
@[simp] theorem exec_delayAnswerReceive (p : Fin 8) (f : Frame) : exec (.delayAnswerReceive p f) s = execDelayAnswerReceive p f s := rfl
@[simp] theorem exec_delayRequestTimeout (k : BitVec 14) : exec (.delayRequestTimeout k) s = execDelayRequestTimeout k s := rfl
@[simp] theorem exec_adoptionStepTimeout (k : BitVec 14) : exec (.adoptionStepTimeout k) s = execAdoptionStepTimeout k s := rfl
@[simp] theorem exec_stationAbsentTimeout (k : BitVec 14) : exec (.stationAbsentTimeout k) s = execStationAbsentTimeout k s := rfl
@[simp] theorem exec_stClampSet (k : BitVec 14) : exec (.stClampSet k) s = execStClampSet k s := rfl
@[simp] theorem exec_stClampClr (k : BitVec 14) : exec (.stClampClr k) s = execStClampClr k s := rfl
@[simp] theorem exec_rerouteTimerExpire (ring : Fin 4) : exec (.rerouteTimerExpire ring) s = execRerouteTimerExpire ring s := rfl
@[simp] theorem exec_routeChangeWaitExpire (k : BitVec 14) : exec (.routeChangeWaitExpire k) s = execRouteChangeWaitExpire k s := rfl
@[simp] theorem exec_skForceHoldWrite (k : Fin 4) (v : U64) : exec (.skForceHoldWrite k v) s = execSkForceHoldWrite k v s := rfl
@[simp] theorem exec_engineStart (e : Fin 64) : exec (.engineStart e) s = execEngineStart e s := rfl
@[simp] theorem exec_engineStop (e : Fin 64) : exec (.engineStop e) s = execEngineStop e s := rfl
@[simp] theorem exec_engineStopComplete (e : Fin 64) : exec (.engineStopComplete e) s = execEngineStopComplete e s := rfl
@[simp] theorem exec_clusterClamp (c : Fin 16) (set : Bool) : exec (.clusterClamp c set) s = execClusterClamp c set s := rfl
@[simp] theorem exec_isramWrite (e : Fin 64) (a : BitVec 16) (data : List Byte) : exec (.isramWrite e a data) s = execIsramWrite e a data s := rfl
@[simp] theorem exec_migrateRequest (src : Fin 16) : exec (.migrateRequest src) s = execMigrateRequest src s := rfl
@[simp] theorem exec_migrationGraceExpire : exec (.migrationGraceExpire) s = execMigrationGraceExpire s := rfl
@[simp] theorem exec_migrationCopyDone : exec (.migrationCopyDone) s = execMigrationCopyDone s := rfl
@[simp] theorem exec_bindingFire (e : Fin 64) (k : Fin 16) : exec (.bindingFire e k) s = execBindingFire e k s := rfl
@[simp] theorem exec_bindingDispatch (e : Fin 64) : exec (.bindingDispatch e) s = execBindingDispatch e s := rfl
@[simp] theorem exec_budgetExpire (e : Fin 64) : exec (.budgetExpire e) s = execBudgetExpire e s := rfl
@[simp] theorem exec_machineCheck (e : Fin 64) : exec (.machineCheck e) s = execMachineCheck e s := rfl
@[simp] theorem exec_storeBufferDrain (e : Fin 64) (port : Bool) : exec (.storeBufferDrain e port) s = execStoreBufferDrain e port s := rfl
@[simp] theorem exec_fabricReadResponse (e : Fin 64) : exec (.fabricReadResponse e) s = execFabricReadResponse e s := rfl
@[simp] theorem exec_barrierResolved (e : Fin 64) : exec (.barrierResolved e) s = execBarrierResolved e s := rfl
@[simp] theorem exec_waitTimeReached (e : Fin 64) : exec (.waitTimeReached e) s = execWaitTimeReached e s := rfl
@[simp] theorem exec_evwaitTimeout (e : Fin 64) : exec (.evwaitTimeout e) s = execEvwaitTimeout e s := rfl
@[simp] theorem exec_add (e : Fin 64) (w : Bool) (d : Fin 32) (a : Fin 32) (b : Fin 32) : exec (.add e w d a b) s = execAdd e w d a b s := rfl
@[simp] theorem exec_sub (e : Fin 64) (w : Bool) (d : Fin 32) (a : Fin 32) (b : Fin 32) : exec (.sub e w d a b) s = execSub e w d a b s := rfl
@[simp] theorem exec_and (e : Fin 64) (d : Fin 32) (a : Fin 32) (b : Fin 32) : exec (.and e d a b) s = execAnd e d a b s := rfl
@[simp] theorem exec_or (e : Fin 64) (d : Fin 32) (a : Fin 32) (b : Fin 32) : exec (.or e d a b) s = execOr e d a b s := rfl
@[simp] theorem exec_xor (e : Fin 64) (d : Fin 32) (a : Fin 32) (b : Fin 32) : exec (.xor e d a b) s = execXor e d a b s := rfl
@[simp] theorem exec_andn (e : Fin 64) (d : Fin 32) (a : Fin 32) (b : Fin 32) : exec (.andn e d a b) s = execAndn e d a b s := rfl
@[simp] theorem exec_orn (e : Fin 64) (d : Fin 32) (a : Fin 32) (b : Fin 32) : exec (.orn e d a b) s = execOrn e d a b s := rfl
@[simp] theorem exec_sll (e : Fin 64) (w : Bool) (d : Fin 32) (a : Fin 32) (b : Fin 32) : exec (.sll e w d a b) s = execSll e w d a b s := rfl
@[simp] theorem exec_srl (e : Fin 64) (w : Bool) (d : Fin 32) (a : Fin 32) (b : Fin 32) : exec (.srl e w d a b) s = execSrl e w d a b s := rfl
@[simp] theorem exec_sra (e : Fin 64) (w : Bool) (d : Fin 32) (a : Fin 32) (b : Fin 32) : exec (.sra e w d a b) s = execSra e w d a b s := rfl
@[simp] theorem exec_rol (e : Fin 64) (w : Bool) (d : Fin 32) (a : Fin 32) (b : Fin 32) : exec (.rol e w d a b) s = execRol e w d a b s := rfl
@[simp] theorem exec_ror (e : Fin 64) (w : Bool) (d : Fin 32) (a : Fin 32) (b : Fin 32) : exec (.ror e w d a b) s = execRor e w d a b s := rfl
@[simp] theorem exec_slt (e : Fin 64) (d : Fin 32) (a : Fin 32) (b : Fin 32) : exec (.slt e d a b) s = execSlt e d a b s := rfl
@[simp] theorem exec_sltu (e : Fin 64) (d : Fin 32) (a : Fin 32) (b : Fin 32) : exec (.sltu e d a b) s = execSltu e d a b s := rfl
@[simp] theorem exec_min (e : Fin 64) (d : Fin 32) (a : Fin 32) (b : Fin 32) : exec (.min e d a b) s = execMin e d a b s := rfl
@[simp] theorem exec_max (e : Fin 64) (d : Fin 32) (a : Fin 32) (b : Fin 32) : exec (.max e d a b) s = execMax e d a b s := rfl
@[simp] theorem exec_minu (e : Fin 64) (d : Fin 32) (a : Fin 32) (b : Fin 32) : exec (.minu e d a b) s = execMinu e d a b s := rfl
@[simp] theorem exec_maxu (e : Fin 64) (d : Fin 32) (a : Fin 32) (b : Fin 32) : exec (.maxu e d a b) s = execMaxu e d a b s := rfl
@[simp] theorem exec_clz (e : Fin 64) (w : Bool) (d : Fin 32) (a : Fin 32) : exec (.clz e w d a) s = execClz e w d a s := rfl
@[simp] theorem exec_ctz (e : Fin 64) (w : Bool) (d : Fin 32) (a : Fin 32) : exec (.ctz e w d a) s = execCtz e w d a s := rfl
@[simp] theorem exec_popc (e : Fin 64) (w : Bool) (d : Fin 32) (a : Fin 32) : exec (.popc e w d a) s = execPopc e w d a s := rfl
@[simp] theorem exec_bswap (e : Fin 64) (w : Bool) (d : Fin 32) (a : Fin 32) : exec (.bswap e w d a) s = execBswap e w d a s := rfl
@[simp] theorem exec_sextb (e : Fin 64) (d : Fin 32) (a : Fin 32) : exec (.sextb e d a) s = execSextb e d a s := rfl
@[simp] theorem exec_sexth (e : Fin 64) (d : Fin 32) (a : Fin 32) : exec (.sexth e d a) s = execSexth e d a s := rfl
@[simp] theorem exec_addi (e : Fin 64) (d : Fin 32) (a : Fin 32) (imm : BitVec 16) : exec (.addi e d a imm) s = execAddi e d a imm s := rfl
@[simp] theorem exec_andi (e : Fin 64) (d : Fin 32) (a : Fin 32) (imm : BitVec 16) : exec (.andi e d a imm) s = execAndi e d a imm s := rfl
@[simp] theorem exec_ori (e : Fin 64) (d : Fin 32) (a : Fin 32) (imm : BitVec 16) : exec (.ori e d a imm) s = execOri e d a imm s := rfl
@[simp] theorem exec_xori (e : Fin 64) (d : Fin 32) (a : Fin 32) (imm : BitVec 16) : exec (.xori e d a imm) s = execXori e d a imm s := rfl
@[simp] theorem exec_slti (e : Fin 64) (d : Fin 32) (a : Fin 32) (imm : BitVec 16) : exec (.slti e d a imm) s = execSlti e d a imm s := rfl
@[simp] theorem exec_sltiu (e : Fin 64) (d : Fin 32) (a : Fin 32) (imm : BitVec 16) : exec (.sltiu e d a imm) s = execSltiu e d a imm s := rfl
@[simp] theorem exec_shi (e : Fin 64) (d : Fin 32) (a : Fin 32) (imm : BitVec 16) : exec (.shi e d a imm) s = execShi e d a imm s := rfl
@[simp] theorem exec_lsh (e : Fin 64) (d : Fin 32) (a : Fin 32) (imm : BitVec 16) : exec (.lsh e d a imm) s = execLsh e d a imm s := rfl
@[simp] theorem exec_mul (e : Fin 64) (w : Bool) (d : Fin 32) (a : Fin 32) (b : Fin 32) : exec (.mul e w d a b) s = execMul e w d a b s := rfl
@[simp] theorem exec_mulh (e : Fin 64) (d : Fin 32) (a : Fin 32) (b : Fin 32) : exec (.mulh e d a b) s = execMulh e d a b s := rfl
@[simp] theorem exec_mulhu (e : Fin 64) (d : Fin 32) (a : Fin 32) (b : Fin 32) : exec (.mulhu e d a b) s = execMulhu e d a b s := rfl
@[simp] theorem exec_mulhsu (e : Fin 64) (d : Fin 32) (a : Fin 32) (b : Fin 32) : exec (.mulhsu e d a b) s = execMulhsu e d a b s := rfl
@[simp] theorem exec_div (e : Fin 64) (w : Bool) (d : Fin 32) (a : Fin 32) (b : Fin 32) : exec (.div e w d a b) s = execDiv e w d a b s := rfl
@[simp] theorem exec_divu (e : Fin 64) (w : Bool) (d : Fin 32) (a : Fin 32) (b : Fin 32) : exec (.divu e w d a b) s = execDivu e w d a b s := rfl
@[simp] theorem exec_rem (e : Fin 64) (w : Bool) (d : Fin 32) (a : Fin 32) (b : Fin 32) : exec (.rem e w d a b) s = execRem e w d a b s := rfl
@[simp] theorem exec_remu (e : Fin 64) (w : Bool) (d : Fin 32) (a : Fin 32) (b : Fin 32) : exec (.remu e w d a b) s = execRemu e w d a b s := rfl
@[simp] theorem exec_fadd (e : Fin 64) (dbl : Bool) (d : Fin 32) (a : Fin 32) (b : Fin 32) : exec (.fadd e dbl d a b) s = execFadd e dbl d a b s := rfl
@[simp] theorem exec_fsub (e : Fin 64) (dbl : Bool) (d : Fin 32) (a : Fin 32) (b : Fin 32) : exec (.fsub e dbl d a b) s = execFsub e dbl d a b s := rfl
@[simp] theorem exec_fmul (e : Fin 64) (dbl : Bool) (d : Fin 32) (a : Fin 32) (b : Fin 32) : exec (.fmul e dbl d a b) s = execFmul e dbl d a b s := rfl
@[simp] theorem exec_fdiv (e : Fin 64) (dbl : Bool) (d : Fin 32) (a : Fin 32) (b : Fin 32) : exec (.fdiv e dbl d a b) s = execFdiv e dbl d a b s := rfl
@[simp] theorem exec_fsqrt (e : Fin 64) (dbl : Bool) (d : Fin 32) (a : Fin 32) : exec (.fsqrt e dbl d a) s = execFsqrt e dbl d a s := rfl
@[simp] theorem exec_fmin (e : Fin 64) (dbl : Bool) (d : Fin 32) (a : Fin 32) (b : Fin 32) : exec (.fmin e dbl d a b) s = execFmin e dbl d a b s := rfl
@[simp] theorem exec_fmax (e : Fin 64) (dbl : Bool) (d : Fin 32) (a : Fin 32) (b : Fin 32) : exec (.fmax e dbl d a b) s = execFmax e dbl d a b s := rfl
@[simp] theorem exec_fmac (e : Fin 64) (dbl : Bool) (d : Fin 32) (a : Fin 32) (b : Fin 32) : exec (.fmac e dbl d a b) s = execFmac e dbl d a b s := rfl
@[simp] theorem exec_fsgnj (e : Fin 64) (dbl : Bool) (d : Fin 32) (a : Fin 32) (b : Fin 32) : exec (.fsgnj e dbl d a b) s = execFsgnj e dbl d a b s := rfl
@[simp] theorem exec_fsgnjn (e : Fin 64) (dbl : Bool) (d : Fin 32) (a : Fin 32) (b : Fin 32) : exec (.fsgnjn e dbl d a b) s = execFsgnjn e dbl d a b s := rfl
@[simp] theorem exec_fsgnjx (e : Fin 64) (dbl : Bool) (d : Fin 32) (a : Fin 32) (b : Fin 32) : exec (.fsgnjx e dbl d a b) s = execFsgnjx e dbl d a b s := rfl
@[simp] theorem exec_feq (e : Fin 64) (dbl : Bool) (d : Fin 32) (a : Fin 32) (b : Fin 32) : exec (.feq e dbl d a b) s = execFeq e dbl d a b s := rfl
@[simp] theorem exec_flt (e : Fin 64) (dbl : Bool) (d : Fin 32) (a : Fin 32) (b : Fin 32) : exec (.flt e dbl d a b) s = execFlt e dbl d a b s := rfl
@[simp] theorem exec_fle (e : Fin 64) (dbl : Bool) (d : Fin 32) (a : Fin 32) (b : Fin 32) : exec (.fle e dbl d a b) s = execFle e dbl d a b s := rfl
@[simp] theorem exec_fcvtSD (e : Fin 64) (d : Fin 32) (a : Fin 32) : exec (.fcvtSD e d a) s = execFcvtSD e d a s := rfl
@[simp] theorem exec_fcvtDS (e : Fin 64) (d : Fin 32) (a : Fin 32) : exec (.fcvtDS e d a) s = execFcvtDS e d a s := rfl
@[simp] theorem exec_fcvtWS (e : Fin 64) (rz : Bool) (d : Fin 32) (a : Fin 32) : exec (.fcvtWS e rz d a) s = execFcvtWS e rz d a s := rfl
@[simp] theorem exec_fcvtWuS (e : Fin 64) (rz : Bool) (d : Fin 32) (a : Fin 32) : exec (.fcvtWuS e rz d a) s = execFcvtWuS e rz d a s := rfl
@[simp] theorem exec_fcvtLS (e : Fin 64) (rz : Bool) (d : Fin 32) (a : Fin 32) : exec (.fcvtLS e rz d a) s = execFcvtLS e rz d a s := rfl
@[simp] theorem exec_fcvtLuS (e : Fin 64) (rz : Bool) (d : Fin 32) (a : Fin 32) : exec (.fcvtLuS e rz d a) s = execFcvtLuS e rz d a s := rfl
@[simp] theorem exec_fcvtWD (e : Fin 64) (rz : Bool) (d : Fin 32) (a : Fin 32) : exec (.fcvtWD e rz d a) s = execFcvtWD e rz d a s := rfl
@[simp] theorem exec_fcvtWuD (e : Fin 64) (rz : Bool) (d : Fin 32) (a : Fin 32) : exec (.fcvtWuD e rz d a) s = execFcvtWuD e rz d a s := rfl
@[simp] theorem exec_fcvtLD (e : Fin 64) (rz : Bool) (d : Fin 32) (a : Fin 32) : exec (.fcvtLD e rz d a) s = execFcvtLD e rz d a s := rfl
@[simp] theorem exec_fcvtLuD (e : Fin 64) (rz : Bool) (d : Fin 32) (a : Fin 32) : exec (.fcvtLuD e rz d a) s = execFcvtLuD e rz d a s := rfl
@[simp] theorem exec_fcvtSW (e : Fin 64) (d : Fin 32) (a : Fin 32) : exec (.fcvtSW e d a) s = execFcvtSW e d a s := rfl
@[simp] theorem exec_fcvtSWu (e : Fin 64) (d : Fin 32) (a : Fin 32) : exec (.fcvtSWu e d a) s = execFcvtSWu e d a s := rfl
@[simp] theorem exec_fcvtSL (e : Fin 64) (d : Fin 32) (a : Fin 32) : exec (.fcvtSL e d a) s = execFcvtSL e d a s := rfl
@[simp] theorem exec_fcvtSLu (e : Fin 64) (d : Fin 32) (a : Fin 32) : exec (.fcvtSLu e d a) s = execFcvtSLu e d a s := rfl
@[simp] theorem exec_fcvtDW (e : Fin 64) (d : Fin 32) (a : Fin 32) : exec (.fcvtDW e d a) s = execFcvtDW e d a s := rfl
@[simp] theorem exec_fcvtDWu (e : Fin 64) (d : Fin 32) (a : Fin 32) : exec (.fcvtDWu e d a) s = execFcvtDWu e d a s := rfl
@[simp] theorem exec_fcvtDL (e : Fin 64) (d : Fin 32) (a : Fin 32) : exec (.fcvtDL e d a) s = execFcvtDL e d a s := rfl
@[simp] theorem exec_fcvtDLu (e : Fin 64) (d : Fin 32) (a : Fin 32) : exec (.fcvtDLu e d a) s = execFcvtDLu e d a s := rfl
@[simp] theorem exec_fclassS (e : Fin 64) (d : Fin 32) (a : Fin 32) : exec (.fclassS e d a) s = execFclassS e d a s := rfl
@[simp] theorem exec_fclassD (e : Fin 64) (d : Fin 32) (a : Fin 32) : exec (.fclassD e d a) s = execFclassD e d a s := rfl
@[simp] theorem exec_lb (e : Fin 64) (d : Fin 32) (a : Fin 32) (imm : BitVec 16) : exec (.lb e d a imm) s = execLb e d a imm s := rfl
@[simp] theorem exec_lbu (e : Fin 64) (d : Fin 32) (a : Fin 32) (imm : BitVec 16) : exec (.lbu e d a imm) s = execLbu e d a imm s := rfl
@[simp] theorem exec_lh (e : Fin 64) (d : Fin 32) (a : Fin 32) (imm : BitVec 16) : exec (.lh e d a imm) s = execLh e d a imm s := rfl
@[simp] theorem exec_lhu (e : Fin 64) (d : Fin 32) (a : Fin 32) (imm : BitVec 16) : exec (.lhu e d a imm) s = execLhu e d a imm s := rfl
@[simp] theorem exec_lw (e : Fin 64) (d : Fin 32) (a : Fin 32) (imm : BitVec 16) : exec (.lw e d a imm) s = execLw e d a imm s := rfl
@[simp] theorem exec_lwu (e : Fin 64) (d : Fin 32) (a : Fin 32) (imm : BitVec 16) : exec (.lwu e d a imm) s = execLwu e d a imm s := rfl
@[simp] theorem exec_ld (e : Fin 64) (d : Fin 32) (a : Fin 32) (imm : BitVec 16) : exec (.ld e d a imm) s = execLd e d a imm s := rfl
@[simp] theorem exec_ldp (e : Fin 64) (d : Fin 32) (a : Fin 32) (imm : BitVec 16) : exec (.ldp e d a imm) s = execLdp e d a imm s := rfl
@[simp] theorem exec_sb (e : Fin 64) (d : Fin 32) (a : Fin 32) (imm : BitVec 16) : exec (.sb e d a imm) s = execSb e d a imm s := rfl
@[simp] theorem exec_sh (e : Fin 64) (d : Fin 32) (a : Fin 32) (imm : BitVec 16) : exec (.sh e d a imm) s = execSh e d a imm s := rfl
@[simp] theorem exec_sw (e : Fin 64) (d : Fin 32) (a : Fin 32) (imm : BitVec 16) : exec (.sw e d a imm) s = execSw e d a imm s := rfl
@[simp] theorem exec_sd (e : Fin 64) (d : Fin 32) (a : Fin 32) (imm : BitVec 16) : exec (.sd e d a imm) s = execSd e d a imm s := rfl
@[simp] theorem exec_stp (e : Fin 64) (d : Fin 32) (a : Fin 32) (imm : BitVec 16) : exec (.stp e d a imm) s = execStp e d a imm s := rfl
@[simp] theorem exec_lr (e : Fin 64) (d : Fin 32) (a : Fin 32) (w : Bool) : exec (.lr e d a w) s = execLr e d a w s := rfl
@[simp] theorem exec_sc (e : Fin 64) (d : Fin 32) (b : Fin 32) (a : Fin 32) (w : Bool) : exec (.sc e d b a w) s = execSc e d b a w s := rfl
@[simp] theorem exec_amoswap (e : Fin 64) (d : Fin 32) (b : Fin 32) (a : Fin 32) (w : Bool) : exec (.amoswap e d b a w) s = execAmoswap e d b a w s := rfl
@[simp] theorem exec_amoadd (e : Fin 64) (d : Fin 32) (b : Fin 32) (a : Fin 32) (w : Bool) : exec (.amoadd e d b a w) s = execAmoadd e d b a w s := rfl
@[simp] theorem exec_amoand (e : Fin 64) (d : Fin 32) (b : Fin 32) (a : Fin 32) (w : Bool) : exec (.amoand e d b a w) s = execAmoand e d b a w s := rfl
@[simp] theorem exec_amoor (e : Fin 64) (d : Fin 32) (b : Fin 32) (a : Fin 32) (w : Bool) : exec (.amoor e d b a w) s = execAmoor e d b a w s := rfl
@[simp] theorem exec_amoxor (e : Fin 64) (d : Fin 32) (b : Fin 32) (a : Fin 32) (w : Bool) : exec (.amoxor e d b a w) s = execAmoxor e d b a w s := rfl
@[simp] theorem exec_amomin (e : Fin 64) (d : Fin 32) (b : Fin 32) (a : Fin 32) (w : Bool) : exec (.amomin e d b a w) s = execAmomin e d b a w s := rfl
@[simp] theorem exec_amomax (e : Fin 64) (d : Fin 32) (b : Fin 32) (a : Fin 32) (w : Bool) : exec (.amomax e d b a w) s = execAmomax e d b a w s := rfl
@[simp] theorem exec_amominu (e : Fin 64) (d : Fin 32) (b : Fin 32) (a : Fin 32) (w : Bool) : exec (.amominu e d b a w) s = execAmominu e d b a w s := rfl
@[simp] theorem exec_amomaxu (e : Fin 64) (d : Fin 32) (b : Fin 32) (a : Fin 32) (w : Bool) : exec (.amomaxu e d b a w) s = execAmomaxu e d b a w s := rfl
@[simp] theorem exec_cas (e : Fin 64) (d : Fin 32) (b : Fin 32) (a : Fin 32) (w : Bool) : exec (.cas e d b a w) s = execCas e d b a w s := rfl
@[simp] theorem exec_beq (e : Fin 64) (a : Fin 32) (b : Fin 32) (off : BitVec 16) : exec (.beq e a b off) s = execBeq e a b off s := rfl
@[simp] theorem exec_bne (e : Fin 64) (a : Fin 32) (b : Fin 32) (off : BitVec 16) : exec (.bne e a b off) s = execBne e a b off s := rfl
@[simp] theorem exec_blt (e : Fin 64) (a : Fin 32) (b : Fin 32) (off : BitVec 16) : exec (.blt e a b off) s = execBlt e a b off s := rfl
@[simp] theorem exec_bge (e : Fin 64) (a : Fin 32) (b : Fin 32) (off : BitVec 16) : exec (.bge e a b off) s = execBge e a b off s := rfl
@[simp] theorem exec_bltu (e : Fin 64) (a : Fin 32) (b : Fin 32) (off : BitVec 16) : exec (.bltu e a b off) s = execBltu e a b off s := rfl
@[simp] theorem exec_bgeu (e : Fin 64) (a : Fin 32) (b : Fin 32) (off : BitVec 16) : exec (.bgeu e a b off) s = execBgeu e a b off s := rfl
@[simp] theorem exec_j (e : Fin 64) (off : BitVec 26) : exec (.j e off) s = execJ e off s := rfl
@[simp] theorem exec_jal (e : Fin 64) (off : BitVec 26) : exec (.jal e off) s = execJal e off s := rfl
@[simp] theorem exec_jalr (e : Fin 64) (d : Fin 32) (a : Fin 32) (imm : BitVec 16) : exec (.jalr e d a imm) s = execJalr e d a imm s := rfl
@[simp] theorem exec_barD (e : Fin 64) (d : Fin 32) : exec (.barD e d) s = execBarD e d s := rfl
@[simp] theorem exec_barA (e : Fin 64) (d : Fin 32) : exec (.barA e d) s = execBarA e d s := rfl
@[simp] theorem exec_barS (e : Fin 64) (d : Fin 32) : exec (.barS e d) s = execBarS e d s := rfl
@[simp] theorem exec_srd (e : Fin 64) (d : Fin 32) (sr : Fin 32) : exec (.srd e d sr) s = execSrd e d sr s := rfl
@[simp] theorem exec_swr (e : Fin 64) (sr : Fin 32) (a : Fin 32) : exec (.swr e sr a) s = execSwr e sr a s := rfl
@[simp] theorem exec_brk (e : Fin 64) : exec (.brk e) s = execBrk e s := rfl
@[simp] theorem exec_eret (e : Fin 64) : exec (.eret e) s = execEret e s := rfl
@[simp] theorem exec_yield (e : Fin 64) : exec (.yield e) s = execYield e s := rfl
@[simp] theorem exec_halt (e : Fin 64) : exec (.halt e) s = execHalt e s := rfl
@[simp] theorem exec_trap (e : Fin 64) (imm : BitVec 16) : exec (.trap e imm) s = execTrap e imm s := rfl
@[simp] theorem exec_fld (e : Fin 64) (d : Fin 32) (a : Fin 32) (cls : Fin 4) (sz : Fin 8) (sw : Fin 4) (tm : Bool) (off : BitVec 8) : exec (.fld e d a cls sz sw tm off) s = execFld e d a cls sz sw tm off s := rfl
@[simp] theorem exec_fst (e : Fin 64) (d : Fin 32) (a : Fin 32) (cls : Fin 4) (sz : Fin 8) (sw : Fin 4) (tm : Bool) (off : BitVec 8) : exec (.fst e d a cls sz sw tm off) s = execFst e d a cls sz sw tm off s := rfl
@[simp] theorem exec_fstn (e : Fin 64) (d : Fin 32) (a : Fin 32) (cls : Fin 4) (sz : Fin 8) (sw : Fin 4) (tm : Bool) (off : BitVec 8) : exec (.fstn e d a cls sz sw tm off) s = execFstn e d a cls sz sw tm off s := rfl
@[simp] theorem exec_gath (e : Fin 64) (d : Fin 32) (a : Fin 32) (cls : Fin 4) (sw : Fin 4) (tm : Bool) (n : BitVec 8) : exec (.gath e d a cls sw tm n) s = execGath e d a cls sw tm n s := rfl
@[simp] theorem exec_scat (e : Fin 64) (d : Fin 32) (a : Fin 32) (cls : Fin 4) (sw : Fin 4) (tm : Bool) (n : BitVec 8) : exec (.scat e d a cls sw tm n) s = execScat e d a cls sw tm n s := rfl
@[simp] theorem exec_imgcp (e : Fin 64) (d : Fin 32) (a : Fin 32) (outImg : Bool) (toImage : Bool) : exec (.imgcp e d a outImg toImage) s = execImgcp e d a outImg toImage s := rfl
@[simp] theorem exec_ltset (e : Fin 64) (r : Fin 32) (ph : Fin 8) (t : BitVec 18) : exec (.ltset e r ph t) s = execLtset e r ph t s := rfl
@[simp] theorem exec_ltabs (e : Fin 64) (r : Fin 32) : exec (.ltabs e r) s = execLtabs e r s := rfl
@[simp] theorem exec_waitph (e : Fin 64) (r : Fin 32) (ph : Fin 8) (t : BitVec 18) : exec (.waitph e r ph t) s = execWaitph e r ph t s := rfl
@[simp] theorem exec_waitt (e : Fin 64) (r : Fin 32) : exec (.waitt e r) s = execWaitt e r s := rfl
@[simp] theorem exec_delta (e : Fin 64) (d : Fin 32) (a : Fin 32) (sz : Fin 8) (be : Bool) (cnt : Bool) (mode : Fin 4) : exec (.delta e d a sz be cnt mode) s = execDelta e d a sz be cnt mode s := rfl
@[simp] theorem exec_japp (e : Fin 64) (d : Fin 32) (a : Fin 32) : exec (.japp e d a) s = execJapp e d a s := rfl
@[simp] theorem exec_scale (e : Fin 64) (d : Fin 32) (a : Fin 32) (k : BitVec 8) (sz : Fin 8) (rev : Bool) (sg : Bool) (s32 : Bool) : exec (.scale e d a k sz rev sg s32) s = execScale e d a k sz rev sg s32 s := rfl
@[simp] theorem exec_crc (e : Fin 64) (d : Fin 32) (a : Fin 32) (n : BitVec 8) (mode : Fin 8) : exec (.crc e d a n mode) s = execCrc e d a n mode s := rfl
@[simp] theorem exec_evpost (e : Fin 64) (d : Fin 32) (a : Fin 32) (target : Fin 4) (urgent : Bool) : exec (.evpost e d a target urgent) s = execEvpost e d a target urgent s := rfl
@[simp] theorem exec_evwait (e : Fin 64) (d : Fin 32) (a : Fin 32) (t : BitVec 8) : exec (.evwait e d a t) s = execEvwait e d a t s := rfl
@[simp] theorem exec_hostBar2Read (tag : Nat) (rid : Nat) (off : BitVec 36) (be : List Bool) : exec (.hostBar2Read tag rid off be) s = execHostBar2Read tag rid off be s := rfl
@[simp] theorem exec_hostBar2Write (rid : Nat) (off : BitVec 36) (be : List Bool) (data : List Byte) : exec (.hostBar2Write rid off be data) s = execHostBar2Write rid off be data s := rfl
@[simp] theorem exec_hostBar4Read (tag : Nat) (rid : Nat) (off : BitVec 34) (n : Nat) : exec (.hostBar4Read tag rid off n) s = execHostBar4Read tag rid off n s := rfl
@[simp] theorem exec_hostBar4Write (off : BitVec 34) (be : List Bool) (data : List Byte) : exec (.hostBar4Write off be data) s = execHostBar4Write off be data s := rfl
@[simp] theorem exec_hostAtomicop (tag : Nat) (rid : Nat) (bar : Fin 3) (off : BitVec 36) : exec (.hostAtomicop tag rid bar off) s = execHostAtomicop tag rid bar off s := rfl
@[simp] theorem exec_sramWindowAccess (tag : Nat) (off : BitVec 26) (n : Nat) (data : Option (List Byte)) : exec (.sramWindowAccess tag off n data) s = execSramWindowAccess tag off n data s := rfl
@[simp] theorem exec_hostReadAbandon (tag : Nat) : exec (.hostReadAbandon tag) s = execHostReadAbandon tag s := rfl
@[simp] theorem exec_stationTimeout (b : Nat) : exec (.stationTimeout b) s = execStationTimeout b s := rfl
@[simp] theorem exec_cwpGo (k : Fin 8) : exec (.cwpGo k) s = execCwpGo k s := rfl
@[simp] theorem exec_cwpStatusRead (m : BitVec 7) (k : Fin 8) : exec (.cwpStatusRead m k) s = execCwpStatusRead m k s := rfl
@[simp] theorem exec_orphanPop : exec (.orphanPop) s = execOrphanPop s := rfl
@[simp] theorem exec_eventFenceSatisfied (idx : Nat) : exec (.eventFenceSatisfied idx) s = execEventFenceSatisfied idx s := rfl
@[simp] theorem exec_fenceTimeout (idx : Nat) : exec (.fenceTimeout idx) s = execFenceTimeout idx s := rfl
@[simp] theorem exec_uhluxOutboundStart (p : Fin 2) : exec (.uhluxOutboundStart p) s = execUhluxOutboundStart p s := rfl
@[simp] theorem exec_uhluxAck (p : Fin 2) (data : BitVec 16) : exec (.uhluxAck p data) s = execUhluxAck p data s := rfl
@[simp] theorem exec_uhluxBerr (p : Fin 2) : exec (.uhluxBerr p) s = execUhluxBerr p s := rfl
@[simp] theorem exec_uhluxCycleTimeout (p : Fin 2) : exec (.uhluxCycleTimeout p) s = execUhluxCycleTimeout p s := rfl
@[simp] theorem exec_uhluxSlotAbsent (p : Fin 2) (slot : Fin 16) : exec (.uhluxSlotAbsent p slot) s = execUhluxSlotAbsent p slot s := rfl
@[simp] theorem exec_uhluxReadTimeout (b : Nat) : exec (.uhluxReadTimeout b) s = execUhluxReadTimeout b s := rfl
@[simp] theorem exec_uhluxBusHogTimeout (p : Fin 2) : exec (.uhluxBusHogTimeout p) s = execUhluxBusHogTimeout p s := rfl
@[simp] theorem exec_uhluxBusRequest (p : Fin 2) : exec (.uhluxBusRequest p) s = execUhluxBusRequest p s := rfl
@[simp] theorem exec_uhluxBbsy (p : Fin 2) (low : Bool) : exec (.uhluxBbsy p low) s = execUhluxBbsy p low s := rfl
@[simp] theorem exec_uhluxInboundCycle (p : Fin 2) (a : BitVec 24) (word : Bool) (lock : Bool) (data : Option (BitVec 16)) : exec (.uhluxInboundCycle p a word lock data) s = execUhluxInboundCycle p a word lock data s := rfl
@[simp] theorem exec_uhluxInboundWritePerform (p : Fin 2) : exec (.uhluxInboundWritePerform p) s = execUhluxInboundWritePerform p s := rfl
@[simp] theorem exec_uhluxSlaveAckTimeout (p : Fin 2) : exec (.uhluxSlaveAckTimeout p) s = execUhluxSlaveAckTimeout p s := rfl
@[simp] theorem exec_uhluxBusTimer (p : Fin 2) (a : BitVec 24) : exec (.uhluxBusTimer p a) s = execUhluxBusTimer p a s := rfl
@[simp] theorem exec_uhluxIrq (p : Fin 2) (levels : BitVec 7) : exec (.uhluxIrq p levels) s = execUhluxIrq p levels s := rfl
@[simp] theorem exec_uhluxIrqResample (p : Fin 2) (level : Fin 8) : exec (.uhluxIrqResample p level) s = execUhluxIrqResample p level s := rfl
@[simp] theorem exec_uhluxIrqAutoDisable (p : Fin 2) (level : Fin 8) : exec (.uhluxIrqAutoDisable p level) s = execUhluxIrqAutoDisable p level s := rfl
@[simp] theorem exec_uhluxSysreset (p : Fin 2) : exec (.uhluxSysreset p) s = execUhluxSysreset p s := rfl
@[simp] theorem exec_uhluxSysresetEnd (p : Fin 2) : exec (.uhluxSysresetEnd p) s = execUhluxSysresetEnd p s := rfl
@[simp] theorem exec_uxSlotReadmit (p : Fin 2) (mask : BitVec 16) : exec (.uxSlotReadmit p mask) s = execUxSlotReadmit p mask s := rfl
@[simp] theorem exec_holdoffTimerEnd (id : BitVec 16) : exec (.holdoffTimerEnd id) s = execHoldoffTimerEnd id s := rfl
@[simp] theorem exec_eventHeldDeliver (e : Fin 64) : exec (.eventHeldDeliver e) s = execEventHeldDeliver e s := rfl
@[simp] theorem exec_msixUnmask (v : Option (BitVec 11)) : exec (.msixUnmask v) s = execMsixUnmask v s := rfl
@[simp] theorem exec_pcieLinkL0Return : exec (.pcieLinkL0Return) s = execPcieLinkL0Return s := rfl
@[simp] theorem exec_reflexTableCompare (idx : Fin 4096) (upset : Option (Fin 2 × Fin 4096 × Fin 10 × U64)) : exec (.reflexTableCompare idx upset) s = execReflexTableCompare idx upset s := rfl
@[simp] theorem exec_interlockInputChange (k : Fin 6) (level : Bool) : exec (.interlockInputChange k level) s = execInterlockInputChange k level s := rfl
@[simp] theorem exec_nocPacketInject (src : Fin 24) (dst : Fin 24) (sport : Fin 4) (dport : Fin 4) (master : BitVec 7) (cls : Fin 4) (op : BitVec 4) (tag : BitVec 10) (addr : BitVec 48) (bseq : U64) (code : Byte) (data : List Byte) : exec (.nocPacketInject src dst sport dport master cls op tag addr bseq code data) s = execNocPacketInject src dst sport dport master cls op tag addr bseq code data s := rfl
@[simp] theorem exec_nocPacketDeliver (idx : Nat) (hop : Nat) (noise : List (BitVec 264)) : exec (.nocPacketDeliver idx hop noise) s = execNocPacketDeliver idx hop noise s := rfl
@[simp] theorem exec_nocTargetTimeout (idx : Nat) : exec (.nocTargetTimeout idx) s = execNocTargetTimeout idx s := rfl
@[simp] theorem exec_nocPortIsolate (r : Fin 24) : exec (.nocPortIsolate r) s = execNocPortIsolate r s := rfl
@[simp] theorem exec_ncPortIsolateWrite (r : Fin 24) : exec (.ncPortIsolateWrite r) s = execNcPortIsolateWrite r s := rfl
@[simp] theorem exec_ncPortRelease (r : Fin 24) : exec (.ncPortRelease r) s = execNcPortRelease r s := rfl
@[simp] theorem exec_dovetailPortHoldExpire (bridge : Bool) (idx : Nat) : exec (.dovetailPortHoldExpire bridge idx) s = execDovetailPortHoldExpire bridge idx s := rfl
@[simp] theorem exec_clusterGateIdleExpire (c : Fin 16) : exec (.clusterGateIdleExpire c) s = execClusterGateIdleExpire c s := rfl
@[simp] theorem exec_clusterSwitchOpen (c : Fin 16) : exec (.clusterSwitchOpen c) s = execClusterSwitchOpen c s := rfl
@[simp] theorem exec_clusterWake (c : Fin 16) : exec (.clusterWake c) s = execClusterWake c s := rfl
@[simp] theorem exec_clusterWakeDone (c : Fin 16) : exec (.clusterWakeDone c) s = execClusterWakeDone c s := rfl
@[simp] theorem exec_ptClearFirst : exec (.ptClearFirst) s = execPtClearFirst s := rfl
@[simp] theorem exec_journalEntryWrite : exec (.journalEntryWrite) s = execJournalEntryWrite s := rfl
@[simp] theorem exec_journalReaderRead (master : BitVec 7) (r : Fin 4) : exec (.journalReaderRead master r) s = execJournalReaderRead master r s := rfl
@[simp] theorem exec_journalCursorWrite (r : Fin 4) (v : U64) : exec (.journalCursorWrite r v) s = execJournalCursorWrite r v s := rfl
@[simp] theorem exec_jnDegradeWrite (v : Bool) : exec (.jnDegradeWrite v) s = execJnDegradeWrite v s := rfl
@[simp] theorem exec_moverDescEnqueue (master : BitVec 7) (c : Fin 8) (word3 : U64) : exec (.moverDescEnqueue master c word3) s = execMoverDescEnqueue master c word3 s := rfl
@[simp] theorem exec_moverStart (c : Fin 8) : exec (.moverStart c) s = execMoverStart c s := rfl
@[simp] theorem exec_moverDone (c : Fin 8) (data : List Byte) (ok : Bool) : exec (.moverDone c data ok) s = execMoverDone c data ok s := rfl
@[simp] theorem exec_moverBmeTimeout (c : Fin 8) : exec (.moverBmeTimeout c) s = execMoverBmeTimeout c s := rfl
@[simp] theorem exec_scrubLine (line : BitVec 28) (corr : BitVec 8) (bad : BitVec 8) : exec (.scrubLine line corr bad) s = execScrubLine line corr bad s := rfl
@[simp] theorem exec_clampRingPort (p : Fin 8) (set : Bool) : exec (.clampRingPort p set) s = execClampRingPort p set s := rfl
@[simp] theorem exec_clampUhluxPort (p : Fin 2) (set : Bool) : exec (.clampUhluxPort p set) s = execClampUhluxPort p set s := rfl
@[simp] theorem exec_clampDram (set : Bool) : exec (.clampDram set) s = execClampDram set s := rfl
@[simp] theorem exec_clampMovers (set : Bool) : exec (.clampMovers set) s = execClampMovers set s := rfl
@[simp] theorem exec_clampTenon (set : Bool) : exec (.clampTenon set) s = execClampTenon set s := rfl
@[simp] theorem exec_errorLogClear : exec (.errorLogClear) s = execErrorLogClear s := rfl
@[simp] theorem exec_selfTestClusterBist (c : Fin 16) (migrate : Bool) : exec (.selfTestClusterBist c migrate) s = execSelfTestClusterBist c migrate s := rfl
@[simp] theorem exec_selfTestRingRecal (p : Fin 16) : exec (.selfTestRingRecal p) s = execSelfTestRingRecal p s := rfl
@[simp] theorem exec_bistDone (ok : Bool) (element : BitVec 8) : exec (.bistDone ok element) s = execBistDone ok element s := rfl
@[simp] theorem exec_recalDone : exec (.recalDone) s = execRecalDone s := rfl
@[simp] theorem exec_twinTime (t : U64) : exec (.twinTime t) s = execTwinTime t s := rfl
@[simp] theorem exec_twinBankData (bank : Fin 4) (off : Nat) (data : List Byte) : exec (.twinBankData bank off data) s = execTwinBankData bank off data s := rfl
@[simp] theorem exec_twinStagedSet (pairs : List (Nat × U64)) : exec (.twinStagedSet pairs) s = execTwinStagedSet pairs s := rfl
@[simp] theorem exec_twinDeclData (region : Fin 8) (off : Nat) (data : List Byte) : exec (.twinDeclData region off data) s = execTwinDeclData region off data s := rfl
@[simp] theorem exec_twinCounters (jn : U64) (br : U64) (seqs : List (Nat × Nat)) (regs : List (Nat × U64)) : exec (.twinCounters jn br seqs regs) s = execTwinCounters jn br seqs regs s := rfl
@[simp] theorem exec_twinFailureDecl (cause : BitVec 16) : exec (.twinFailureDecl cause) s = execTwinFailureDecl cause s := rfl
@[simp] theorem exec_twinBeatSealed (beat : BitVec 32) (count : Nat) : exec (.twinBeatSealed beat count) s = execTwinBeatSealed beat count s := rfl
@[simp] theorem exec_twinSealAck (beat : BitVec 32) : exec (.twinSealAck beat) s = execTwinSealAck beat s := rfl
@[simp] theorem exec_twinDownbeatMissing : exec (.twinDownbeatMissing) s = execTwinDownbeatMissing s := rfl
@[simp] theorem exec_twTakeover : exec (.twTakeover) s = execTwTakeover s := rfl
@[simp] theorem exec_twResign : exec (.twResign) s = execTwResign s := rfl
@[simp] theorem exec_tenonLinkDown : exec (.tenonLinkDown) s = execTenonLinkDown s := rfl
@[simp] theorem exec_dovetailFlitReceive (d : Fin 2) (noise : BitVec 680) : exec (.dovetailFlitReceive d noise) s = execDovetailFlitReceive d noise s := rfl
@[simp] theorem exec_dovetailLaneLockLoss (d : Fin 2) (lane : Fin 17) : exec (.dovetailLaneLockLoss d lane) s = execDovetailLaneLockLoss d lane s := rfl
@[simp] theorem exec_dovetailErrorRateCheck : exec (.dovetailErrorRateCheck) s = execDovetailErrorRateCheck s := rfl
@[simp] theorem exec_dovetailRetrainRequest : exec (.dovetailRetrainRequest) s = execDovetailRetrainRequest s := rfl
@[simp] theorem exec_dovetailUnspare : exec (.dovetailUnspare) s = execDovetailUnspare s := rfl
@[simp] theorem exec_dovetailRetrainDone (h2f : BitVec 17) (f2h : BitVec 17) : exec (.dovetailRetrainDone h2f f2h) s = execDovetailRetrainDone h2f f2h s := rfl
@[simp] theorem exec_dovetailRetrainTimeout : exec (.dovetailRetrainTimeout) s = execDovetailRetrainTimeout s := rfl
@[simp] theorem exec_dovetailTrainingStart : exec (.dovetailTrainingStart) s = execDovetailTrainingStart s := rfl
@[simp] theorem exec_dovetailTrainingDone (h2f : BitVec 17) (f2h : BitVec 17) : exec (.dovetailTrainingDone h2f f2h) s = execDovetailTrainingDone h2f f2h s := rfl
@[simp] theorem exec_dovetailTrainingTimeout : exec (.dovetailTrainingTimeout) s = execDovetailTrainingTimeout s := rfl
@[simp] theorem exec_dieReady (die : Fin 2) (dom : Fin 12) (entries : Nat) : exec (.dieReady die dom entries) s = execDieReady die dom entries s := rfl
@[simp] theorem exec_clockDomainResume (b : Fin 12) : exec (.clockDomainResume b) s = execClockDomainResume b s := rfl
@[simp] theorem exec_feedValidChange (f : Fin 2) (valid : Bool) (excess : Bool) (mv : BitVec 16) : exec (.feedValidChange f valid excess mv) s = execFeedValidChange f valid excess mv s := rfl
@[simp] theorem exec_seatChange (pin : Fin 2) (closed : Bool) : exec (.seatChange pin closed) s = execSeatChange pin closed s := rfl
@[simp] theorem exec_enChange (high : Bool) : exec (.enChange high) s = execEnChange high s := rfl
@[simp] theorem exec_seatingDone : exec (.seatingDone) s = execSeatingDone s := rfl
@[simp] theorem exec_prechargeDone : exec (.prechargeDone) s = execPrechargeDone s := rfl
@[simp] theorem exec_prechargeTimeout : exec (.prechargeTimeout) s = execPrechargeTimeout s := rfl
@[simp] theorem exec_gateFullyOn : exec (.gateFullyOn) s = execGateFullyOn s := rfl
@[simp] theorem exec_currentLimitChange (active : Bool) : exec (.currentLimitChange active) s = execCurrentLimitChange active s := rfl
@[simp] theorem exec_faultTimerExpire : exec (.faultTimerExpire) s = execFaultTimerExpire s := rfl
@[simp] theorem exec_hardShortTrip : exec (.hardShortTrip) s = execHardShortTrip s := rfl
@[simp] theorem exec_pgQuietWindowExpire : exec (.pgQuietWindowExpire) s = execPgQuietWindowExpire s := rfl
@[simp] theorem exec_enLatchClearTimer : exec (.enLatchClearTimer) s = execEnLatchClearTimer s := rfl
@[simp] theorem exec_enOffTimer : exec (.enOffTimer) s = execEnOffTimer s := rfl
@[simp] theorem exec_noFeedTimeout : exec (.noFeedTimeout) s = execNoFeedTimeout s := rfl
@[simp] theorem exec_domainPowerUpStep : exec (.domainPowerUpStep) s = execDomainPowerUpStep s := rfl
@[simp] theorem exec_sfpCageOverload (p : Fin 8) : exec (.sfpCageOverload p) s = execSfpCageOverload p s := rfl
@[simp] theorem exec_domainConverterFault (d : Fin 6) : exec (.domainConverterFault d) s = execDomainConverterFault d s := rfl
@[simp] theorem exec_dramTrainingDone (ok : Bool) : exec (.dramTrainingDone ok) s = execDramTrainingDone ok s := rfl
@[simp] theorem exec_bootComplete : exec (.bootComplete) s = execBootComplete s := rfl
@[simp] theorem exec_perstAssert : exec (.perstAssert) s = execPerstAssert s := rfl
@[simp] theorem exec_flr : exec (.flr) s = execFlr s := rfl
@[simp] theorem exec_pcieLinkDown : exec (.pcieLinkDown) s = execPcieLinkDown s := rfl
@[simp] theorem exec_pcieD3hotEnter : exec (.pcieD3hotEnter) s = execPcieD3hotEnter s := rfl
@[simp] theorem exec_pcieBusMasterDisable : exec (.pcieBusMasterDisable) s = execPcieBusMasterDisable s := rfl
@[simp] theorem exec_getId (t : Fin 3) (auth : Bool) : exec (.getId t auth) s = execGetId t auth s := rfl
@[simp] theorem exec_getHealth (t : Fin 3) (auth : Bool) : exec (.getHealth t auth) s = execGetHealth t auth s := rfl
@[simp] theorem exec_getPower (t : Fin 3) (auth : Bool) : exec (.getPower t auth) s = execGetPower t auth s := rfl
@[simp] theorem exec_getThermal (t : Fin 3) (auth : Bool) : exec (.getThermal t auth) s = execGetThermal t auth s := rfl
@[simp] theorem exec_setThresh (t : Fin 3) (auth : Bool) (sensor : BitVec 8) (warn : BitVec 8) (crit : BitVec 8) : exec (.setThresh t auth sensor warn crit) s = execSetThresh t auth sensor warn crit s := rfl
@[simp] theorem exec_readLog (t : Fin 3) (auth : Bool) (pos : BitVec 16) : exec (.readLog t auth pos) s = execReadLog t auth pos s := rfl
@[simp] theorem exec_clearLog (t : Fin 3) (auth : Bool) : exec (.clearLog t auth) s = execClearLog t auth s := rfl
@[simp] theorem exec_readNvlog (t : Fin 3) (auth : Bool) (index : BitVec 16) : exec (.readNvlog t auth index) s = execReadNvlog t auth index s := rfl
@[simp] theorem exec_selfTest (t : Fin 3) (auth : Bool) (req : BitVec 32) : exec (.selfTest t auth req) s = execSelfTest t auth req s := rfl
@[simp] theorem exec_testStatus (t : Fin 3) (auth : Bool) : exec (.testStatus t auth) s = execTestStatus t auth s := rfl
@[simp] theorem exec_fwBegin (t : Fin 3) (auth : Bool) (kind : BitVec 8) (len : BitVec 32) : exec (.fwBegin t auth kind len) s = execFwBegin t auth kind len s := rfl
@[simp] theorem exec_fwData (t : Fin 3) (auth : Bool) (off : BitVec 32) (data : List Byte) : exec (.fwData t auth off data) s = execFwData t auth off data s := rfl
@[simp] theorem exec_fwVerify (t : Fin 3) (auth : Bool) : exec (.fwVerify t auth) s = execFwVerify t auth s := rfl
@[simp] theorem exec_fwActivate (t : Fin 3) (auth : Bool) : exec (.fwActivate t auth) s = execFwActivate t auth s := rfl
@[simp] theorem exec_moduleReset (t : Fin 3) (auth : Bool) (kind : BitVec 8) : exec (.moduleReset t auth kind) s = execModuleReset t auth kind s := rfl
@[simp] theorem exec_setClamp (t : Fin 3) (auth : Bool) (v : BitVec 32) : exec (.setClamp t auth v) s = execSetClamp t auth v s := rfl
@[simp] theorem exec_sensorPoll (t0 : BitVec 16) (t1 : BitVec 16) (t2 : BitVec 16) (t3 : BitVec 16) (t4 : BitVec 16) : exec (.sensorPoll t0 t1 t2 t3 t4) s = execSensorPoll t0 t1 t2 t3 t4 s := rfl
@[simp] theorem exec_mcWatchdogExpire : exec (.mcWatchdogExpire) s = execMcWatchdogExpire s := rfl
@[simp] theorem exec_pcsBlockLock (p : Fin 8) : exec (.pcsBlockLock p) s = execPcsBlockLock p s := rfl
@[simp] theorem exec_tenonLinkUp : exec (.tenonLinkUp) s = execTenonLinkUp s := rfl
@[simp] theorem exec_ptpSyncMissing : exec (.ptpSyncMissing) s = execPtpSyncMissing s := rfl
@[simp] theorem exec_ptmL0AbsenceTimeout : exec (.ptmL0AbsenceTimeout) s = execPtmL0AbsenceTimeout s := rfl
@[simp] theorem exec_illegalInstruction (e : Fin 64) : exec (.illegalInstruction e) s = execIllegalInstruction e s := rfl
@[simp] theorem exec_instructionFetchFault (e : Fin 64) : exec (.instructionFetchFault e) s = execInstructionFetchFault e s := rfl
@[simp] theorem exec_badFrameReceive (p : Fin 8) (l6 : BitVec 8) (l7 : BitVec 8) (bs : List Byte) (uncorrected : Nat) : exec (.badFrameReceive p l6 l7 bs uncorrected) s = execBadFrameReceive p l6 l7 bs uncorrected s := rfl
@[simp] theorem exec_transitFrameForward (p : Fin 8) (f : Frame) : exec (.transitFrameForward p f) s = execTransitFrameForward p f s := rfl
@[simp] theorem exec_pcieD0Return : exec (.pcieD0Return) s = execPcieD0Return s := rfl
@[simp] theorem exec_pcieBusMasterEnable : exec (.pcieBusMasterEnable) s = execPcieBusMasterEnable s := rfl
@[simp] theorem exec_jtagReset : exec (.jtagReset) s = execJtagReset s := rfl
@[simp] theorem exec_imageCopyComplete (out : Bool) : exec (.imageCopyComplete out) s = execImageCopyComplete out s := rfl

end Sys2Proof.Machine
end

