-- ==== Sys2Proof/Laws/State.lean ====
section
/-!
SUPPORT. What each update of the module leaves unchanged, one lemma per field: no later proof unfolds a record update.
-/
namespace Sys2Proof.Machine

variable (s : Mach)

/-! ### setR -/

@[simp] theorem Mach.staged_setR (k : Nat) (v : U64) : (s.setR k v).staged = s.staged := rfl
@[simp] theorem Mach.committed_setR (k : Nat) (v : U64) : (s.setR k v).committed = s.committed := rfl
@[simp] theorem Mach.sel_setR (k : Nat) (v : U64) : (s.setR k v).sel = s.sel := rfl
@[simp] theorem Mach.heldLo_setR (k : Nat) (v : U64) : (s.setR k v).heldLo = s.heldLo := rfl
@[simp] theorem Mach.latch_setR (k : Nat) (v : U64) : (s.setR k v).latch = s.latch := rfl
@[simp] theorem Mach.now_setR (k : Nat) (v : U64) : (s.setR k v).now = s.now := rfl
@[simp] theorem Mach.sub_setR (k : Nat) (v : U64) : (s.setR k v).sub = s.sub := rfl
@[simp] theorem Mach.freeCtr_setR (k : Nat) (v : U64) : (s.setR k v).freeCtr = s.freeCtr := rfl
@[simp] theorem Mach.work_setR (k : Nat) (v : U64) : (s.setR k v).work = s.work := rfl
@[simp] theorem Mach.out_setR (k : Nat) (v : U64) : (s.setR k v).out = s.out := rfl
@[simp] theorem Mach.log_setR (k : Nat) (v : U64) : (s.setR k v).log = s.log := rfl
@[simp] theorem Mach.folds_setR (k : Nat) (v : U64) : (s.setR k v).folds = s.folds := rfl
@[simp] theorem Mach.heldLogs_setR (k : Nat) (v : U64) : (s.setR k v).heldLogs = s.heldLogs := rfl
@[simp] theorem Mach.heldLogLost_setR (k : Nat) (v : U64) : (s.setR k v).heldLogLost = s.heldLogLost := rfl
@[simp] theorem Mach.heldPosts_setR (k : Nat) (v : U64) : (s.setR k v).heldPosts = s.heldPosts := rfl
@[simp] theorem Mach.heldPostsLost_setR (k : Nat) (v : U64) : (s.setR k v).heldPostsLost = s.heldPostsLost := rfl
@[simp] theorem Mach.hReset_setR (k : Nat) (v : U64) : (s.setR k v).hReset = s.hReset := rfl
@[simp] theorem Mach.mpuClear_setR (k : Nat) (v : U64) : (s.setR k v).mpuClear = s.mpuClear := rfl
@[simp] theorem Mach.jq_setR (k : Nat) (v : U64) : (s.setR k v).jq = s.jq := rfl
@[simp] theorem Mach.jStarted_setR (k : Nat) (v : U64) : (s.setR k v).jStarted = s.jStarted := rfl
@[simp] theorem Mach.jDropBoot_setR (k : Nat) (v : U64) : (s.setR k v).jDropBoot = s.jDropBoot := rfl
@[simp] theorem Mach.jDropNojrn_setR (k : Nat) (v : U64) : (s.setR k v).jDropNojrn = s.jDropNojrn := rfl
@[simp] theorem Mach.jDropDis_setR (k : Nat) (v : U64) : (s.setR k v).jDropDis = s.jDropDis := rfl
@[simp] theorem Mach.jDropFull_setR (k : Nat) (v : U64) : (s.setR k v).jDropFull = s.jDropFull := rfl
@[simp] theorem Mach.evSlots_setR (k : Nat) (v : U64) : (s.setR k v).evSlots = s.evSlots := rfl
@[simp] theorem Mach.evHeld_setR (k : Nat) (v : U64) : (s.setR k v).evHeld = s.evHeld := rfl
@[simp] theorem Mach.mxAcc_setR (k : Nat) (v : U64) : (s.setR k v).mxAcc = s.mxAcc := rfl
@[simp] theorem Mach.mxHeld_setR (k : Nat) (v : U64) : (s.setR k v).mxHeld = s.mxHeld := rfl
@[simp] theorem Mach.mxEpisode_setR (k : Nat) (v : U64) : (s.setR k v).mxEpisode = s.mxEpisode := rfl
@[simp] theorem Mach.pcie_setR (k : Nat) (v : U64) : (s.setR k v).pcie = s.pcie := rfl
@[simp] theorem Mach.dram_setR (k : Nat) (v : U64) : (s.setR k v).dram = s.dram := rfl
@[simp] theorem Mach.dramBad_setR (k : Nat) (v : U64) : (s.setR k v).dramBad = s.dramBad := rfl
@[simp] theorem Mach.scratch_setR (k : Nat) (v : U64) : (s.setR k v).scratch = s.scratch := rfl
@[simp] theorem Mach.csram_setR (k : Nat) (v : U64) : (s.setR k v).csram = s.csram := rfl
@[simp] theorem Mach.isram_setR (k : Nat) (v : U64) : (s.setR k v).isram = s.isram := rfl
@[simp] theorem Mach.portQ_setR (k : Nat) (v : U64) : (s.setR k v).portQ = s.portQ := rfl
@[simp] theorem Mach.engines_setR (k : Nat) (v : U64) : (s.setR k v).engines = s.engines := rfl
@[simp] theorem Mach.cycles_setR (k : Nat) (v : U64) : (s.setR k v).cycles = s.cycles := rfl
@[simp] theorem Mach.engBase_setR (k : Nat) (v : U64) : (s.setR k v).engBase = s.engBase := rfl
@[simp] theorem Mach.hSkew_setR (k : Nat) (v : U64) : (s.setR k v).hSkew = s.hSkew := rfl
@[simp] theorem Mach.reqs_setR (k : Nat) (v : U64) : (s.setR k v).reqs = s.reqs := rfl
@[simp] theorem Mach.orphans_setR (k : Nat) (v : U64) : (s.setR k v).orphans = s.orphans := rfl
@[simp] theorem Mach.lateResp_setR (k : Nat) (v : U64) : (s.setR k v).lateResp = s.lateResp := rfl
@[simp] theorem Mach.noc_setR (k : Nat) (v : U64) : (s.setR k v).noc = s.noc := rfl
@[simp] theorem Mach.ring_setR (k : Nat) (v : U64) : (s.setR k v).ring = s.ring := rfl
@[simp] theorem Mach.beat_setR (k : Nat) (v : U64) : (s.setR k v).beat = s.beat := rfl
@[simp] theorem Mach.ux_setR (k : Nat) (v : U64) : (s.setR k v).ux = s.ux := rfl
@[simp] theorem Mach.fenced_setR (k : Nat) (v : U64) : (s.setR k v).fenced = s.fenced := rfl
@[simp] theorem Mach.img_setR (k : Nat) (v : U64) : (s.setR k v).img = s.img := rfl
@[simp] theorem Mach.movers_setR (k : Nat) (v : U64) : (s.setR k v).movers = s.movers := rfl
@[simp] theorem Mach.mvWords_setR (k : Nat) (v : U64) : (s.setR k v).mvWords = s.mvWords := rfl
@[simp] theorem Mach.jLatch_setR (k : Nat) (v : U64) : (s.setR k v).jLatch = s.jLatch := rfl
@[simp] theorem Mach.mig_setR (k : Nat) (v : U64) : (s.setR k v).mig = s.mig := rfl
@[simp] theorem Mach.dv_setR (k : Nat) (v : U64) : (s.setR k v).dv = s.dv := rfl
@[simp] theorem Mach.pw_setR (k : Nat) (v : U64) : (s.setR k v).pw = s.pw := rfl
@[simp] theorem Mach.nvLog_setR (k : Nat) (v : U64) : (s.setR k v).nvLog = s.nvLog := rfl
@[simp] theorem Mach.shadow_setR (k : Nat) (v : U64) : (s.setR k v).shadow = s.shadow := rfl
@[simp] theorem Mach.heldWrites_setR (k : Nat) (v : U64) : (s.setR k v).heldWrites = s.heldWrites := rfl
@[simp] theorem Mach.stopped_setR (k : Nat) (v : U64) : (s.setR k v).stopped = s.stopped := rfl
@[simp] theorem Mach.test_setR (k : Nat) (v : U64) : (s.setR k v).test = s.test := rfl
@[simp] theorem Mach.twin_setR (k : Nat) (v : U64) : (s.setR k v).twin = s.twin := rfl
@[simp] theorem Mach.strike_setR (k : Nat) (v : U64) : (s.setR k v).strike = s.strike := rfl
@[simp] theorem Mach.tocsin_setR (k : Nat) (v : U64) : (s.setR k v).tocsin = s.tocsin := rfl

/-! ### setN -/

@[simp] theorem Mach.staged_setN (k x : Nat) : (s.setN k x).staged = s.staged := rfl
@[simp] theorem Mach.committed_setN (k x : Nat) : (s.setN k x).committed = s.committed := rfl
@[simp] theorem Mach.sel_setN (k x : Nat) : (s.setN k x).sel = s.sel := rfl
@[simp] theorem Mach.heldLo_setN (k x : Nat) : (s.setN k x).heldLo = s.heldLo := rfl
@[simp] theorem Mach.latch_setN (k x : Nat) : (s.setN k x).latch = s.latch := rfl
@[simp] theorem Mach.now_setN (k x : Nat) : (s.setN k x).now = s.now := rfl
@[simp] theorem Mach.sub_setN (k x : Nat) : (s.setN k x).sub = s.sub := rfl
@[simp] theorem Mach.freeCtr_setN (k x : Nat) : (s.setN k x).freeCtr = s.freeCtr := rfl
@[simp] theorem Mach.work_setN (k x : Nat) : (s.setN k x).work = s.work := rfl
@[simp] theorem Mach.out_setN (k x : Nat) : (s.setN k x).out = s.out := rfl
@[simp] theorem Mach.log_setN (k x : Nat) : (s.setN k x).log = s.log := rfl
@[simp] theorem Mach.folds_setN (k x : Nat) : (s.setN k x).folds = s.folds := rfl
@[simp] theorem Mach.heldLogs_setN (k x : Nat) : (s.setN k x).heldLogs = s.heldLogs := rfl
@[simp] theorem Mach.heldLogLost_setN (k x : Nat) : (s.setN k x).heldLogLost = s.heldLogLost := rfl
@[simp] theorem Mach.heldPosts_setN (k x : Nat) : (s.setN k x).heldPosts = s.heldPosts := rfl
@[simp] theorem Mach.heldPostsLost_setN (k x : Nat) : (s.setN k x).heldPostsLost = s.heldPostsLost := rfl
@[simp] theorem Mach.hReset_setN (k x : Nat) : (s.setN k x).hReset = s.hReset := rfl
@[simp] theorem Mach.mpuClear_setN (k x : Nat) : (s.setN k x).mpuClear = s.mpuClear := rfl
@[simp] theorem Mach.jq_setN (k x : Nat) : (s.setN k x).jq = s.jq := rfl
@[simp] theorem Mach.jStarted_setN (k x : Nat) : (s.setN k x).jStarted = s.jStarted := rfl
@[simp] theorem Mach.jDropBoot_setN (k x : Nat) : (s.setN k x).jDropBoot = s.jDropBoot := rfl
@[simp] theorem Mach.jDropNojrn_setN (k x : Nat) : (s.setN k x).jDropNojrn = s.jDropNojrn := rfl
@[simp] theorem Mach.jDropDis_setN (k x : Nat) : (s.setN k x).jDropDis = s.jDropDis := rfl
@[simp] theorem Mach.jDropFull_setN (k x : Nat) : (s.setN k x).jDropFull = s.jDropFull := rfl
@[simp] theorem Mach.evSlots_setN (k x : Nat) : (s.setN k x).evSlots = s.evSlots := rfl
@[simp] theorem Mach.evHeld_setN (k x : Nat) : (s.setN k x).evHeld = s.evHeld := rfl
@[simp] theorem Mach.mxAcc_setN (k x : Nat) : (s.setN k x).mxAcc = s.mxAcc := rfl
@[simp] theorem Mach.mxHeld_setN (k x : Nat) : (s.setN k x).mxHeld = s.mxHeld := rfl
@[simp] theorem Mach.mxEpisode_setN (k x : Nat) : (s.setN k x).mxEpisode = s.mxEpisode := rfl
@[simp] theorem Mach.pcie_setN (k x : Nat) : (s.setN k x).pcie = s.pcie := rfl
@[simp] theorem Mach.dram_setN (k x : Nat) : (s.setN k x).dram = s.dram := rfl
@[simp] theorem Mach.dramBad_setN (k x : Nat) : (s.setN k x).dramBad = s.dramBad := rfl
@[simp] theorem Mach.scratch_setN (k x : Nat) : (s.setN k x).scratch = s.scratch := rfl
@[simp] theorem Mach.csram_setN (k x : Nat) : (s.setN k x).csram = s.csram := rfl
@[simp] theorem Mach.isram_setN (k x : Nat) : (s.setN k x).isram = s.isram := rfl
@[simp] theorem Mach.portQ_setN (k x : Nat) : (s.setN k x).portQ = s.portQ := rfl
@[simp] theorem Mach.engines_setN (k x : Nat) : (s.setN k x).engines = s.engines := rfl
@[simp] theorem Mach.cycles_setN (k x : Nat) : (s.setN k x).cycles = s.cycles := rfl
@[simp] theorem Mach.engBase_setN (k x : Nat) : (s.setN k x).engBase = s.engBase := rfl
@[simp] theorem Mach.hSkew_setN (k x : Nat) : (s.setN k x).hSkew = s.hSkew := rfl
@[simp] theorem Mach.reqs_setN (k x : Nat) : (s.setN k x).reqs = s.reqs := rfl
@[simp] theorem Mach.orphans_setN (k x : Nat) : (s.setN k x).orphans = s.orphans := rfl
@[simp] theorem Mach.lateResp_setN (k x : Nat) : (s.setN k x).lateResp = s.lateResp := rfl
@[simp] theorem Mach.noc_setN (k x : Nat) : (s.setN k x).noc = s.noc := rfl
@[simp] theorem Mach.ring_setN (k x : Nat) : (s.setN k x).ring = s.ring := rfl
@[simp] theorem Mach.beat_setN (k x : Nat) : (s.setN k x).beat = s.beat := rfl
@[simp] theorem Mach.ux_setN (k x : Nat) : (s.setN k x).ux = s.ux := rfl
@[simp] theorem Mach.fenced_setN (k x : Nat) : (s.setN k x).fenced = s.fenced := rfl
@[simp] theorem Mach.img_setN (k x : Nat) : (s.setN k x).img = s.img := rfl
@[simp] theorem Mach.movers_setN (k x : Nat) : (s.setN k x).movers = s.movers := rfl
@[simp] theorem Mach.mvWords_setN (k x : Nat) : (s.setN k x).mvWords = s.mvWords := rfl
@[simp] theorem Mach.jLatch_setN (k x : Nat) : (s.setN k x).jLatch = s.jLatch := rfl
@[simp] theorem Mach.mig_setN (k x : Nat) : (s.setN k x).mig = s.mig := rfl
@[simp] theorem Mach.dv_setN (k x : Nat) : (s.setN k x).dv = s.dv := rfl
@[simp] theorem Mach.pw_setN (k x : Nat) : (s.setN k x).pw = s.pw := rfl
@[simp] theorem Mach.nvLog_setN (k x : Nat) : (s.setN k x).nvLog = s.nvLog := rfl
@[simp] theorem Mach.shadow_setN (k x : Nat) : (s.setN k x).shadow = s.shadow := rfl
@[simp] theorem Mach.heldWrites_setN (k x : Nat) : (s.setN k x).heldWrites = s.heldWrites := rfl
@[simp] theorem Mach.stopped_setN (k x : Nat) : (s.setN k x).stopped = s.stopped := rfl
@[simp] theorem Mach.test_setN (k x : Nat) : (s.setN k x).test = s.test := rfl
@[simp] theorem Mach.twin_setN (k x : Nat) : (s.setN k x).twin = s.twin := rfl
@[simp] theorem Mach.strike_setN (k x : Nat) : (s.setN k x).strike = s.strike := rfl
@[simp] theorem Mach.tocsin_setN (k x : Nat) : (s.setN k x).tocsin = s.tocsin := rfl

/-! ### setF -/

@[simp] theorem Mach.staged_setF (x : RF) (v : Nat) : (s.setF x v).staged = s.staged := rfl
@[simp] theorem Mach.committed_setF (x : RF) (v : Nat) : (s.setF x v).committed = s.committed := rfl
@[simp] theorem Mach.sel_setF (x : RF) (v : Nat) : (s.setF x v).sel = s.sel := rfl
@[simp] theorem Mach.heldLo_setF (x : RF) (v : Nat) : (s.setF x v).heldLo = s.heldLo := rfl
@[simp] theorem Mach.latch_setF (x : RF) (v : Nat) : (s.setF x v).latch = s.latch := rfl
@[simp] theorem Mach.now_setF (x : RF) (v : Nat) : (s.setF x v).now = s.now := rfl
@[simp] theorem Mach.sub_setF (x : RF) (v : Nat) : (s.setF x v).sub = s.sub := rfl
@[simp] theorem Mach.freeCtr_setF (x : RF) (v : Nat) : (s.setF x v).freeCtr = s.freeCtr := rfl
@[simp] theorem Mach.work_setF (x : RF) (v : Nat) : (s.setF x v).work = s.work := rfl
@[simp] theorem Mach.out_setF (x : RF) (v : Nat) : (s.setF x v).out = s.out := rfl
@[simp] theorem Mach.log_setF (x : RF) (v : Nat) : (s.setF x v).log = s.log := rfl
@[simp] theorem Mach.folds_setF (x : RF) (v : Nat) : (s.setF x v).folds = s.folds := rfl
@[simp] theorem Mach.heldLogs_setF (x : RF) (v : Nat) : (s.setF x v).heldLogs = s.heldLogs := rfl
@[simp] theorem Mach.heldLogLost_setF (x : RF) (v : Nat) : (s.setF x v).heldLogLost = s.heldLogLost := rfl
@[simp] theorem Mach.heldPosts_setF (x : RF) (v : Nat) : (s.setF x v).heldPosts = s.heldPosts := rfl
@[simp] theorem Mach.heldPostsLost_setF (x : RF) (v : Nat) : (s.setF x v).heldPostsLost = s.heldPostsLost := rfl
@[simp] theorem Mach.hReset_setF (x : RF) (v : Nat) : (s.setF x v).hReset = s.hReset := rfl
@[simp] theorem Mach.mpuClear_setF (x : RF) (v : Nat) : (s.setF x v).mpuClear = s.mpuClear := rfl
@[simp] theorem Mach.jq_setF (x : RF) (v : Nat) : (s.setF x v).jq = s.jq := rfl
@[simp] theorem Mach.jStarted_setF (x : RF) (v : Nat) : (s.setF x v).jStarted = s.jStarted := rfl
@[simp] theorem Mach.jDropBoot_setF (x : RF) (v : Nat) : (s.setF x v).jDropBoot = s.jDropBoot := rfl
@[simp] theorem Mach.jDropNojrn_setF (x : RF) (v : Nat) : (s.setF x v).jDropNojrn = s.jDropNojrn := rfl
@[simp] theorem Mach.jDropDis_setF (x : RF) (v : Nat) : (s.setF x v).jDropDis = s.jDropDis := rfl
@[simp] theorem Mach.jDropFull_setF (x : RF) (v : Nat) : (s.setF x v).jDropFull = s.jDropFull := rfl
@[simp] theorem Mach.evSlots_setF (x : RF) (v : Nat) : (s.setF x v).evSlots = s.evSlots := rfl
@[simp] theorem Mach.evHeld_setF (x : RF) (v : Nat) : (s.setF x v).evHeld = s.evHeld := rfl
@[simp] theorem Mach.mxAcc_setF (x : RF) (v : Nat) : (s.setF x v).mxAcc = s.mxAcc := rfl
@[simp] theorem Mach.mxHeld_setF (x : RF) (v : Nat) : (s.setF x v).mxHeld = s.mxHeld := rfl
@[simp] theorem Mach.mxEpisode_setF (x : RF) (v : Nat) : (s.setF x v).mxEpisode = s.mxEpisode := rfl
@[simp] theorem Mach.pcie_setF (x : RF) (v : Nat) : (s.setF x v).pcie = s.pcie := rfl
@[simp] theorem Mach.dram_setF (x : RF) (v : Nat) : (s.setF x v).dram = s.dram := rfl
@[simp] theorem Mach.dramBad_setF (x : RF) (v : Nat) : (s.setF x v).dramBad = s.dramBad := rfl
@[simp] theorem Mach.scratch_setF (x : RF) (v : Nat) : (s.setF x v).scratch = s.scratch := rfl
@[simp] theorem Mach.csram_setF (x : RF) (v : Nat) : (s.setF x v).csram = s.csram := rfl
@[simp] theorem Mach.isram_setF (x : RF) (v : Nat) : (s.setF x v).isram = s.isram := rfl
@[simp] theorem Mach.portQ_setF (x : RF) (v : Nat) : (s.setF x v).portQ = s.portQ := rfl
@[simp] theorem Mach.engines_setF (x : RF) (v : Nat) : (s.setF x v).engines = s.engines := rfl
@[simp] theorem Mach.cycles_setF (x : RF) (v : Nat) : (s.setF x v).cycles = s.cycles := rfl
@[simp] theorem Mach.engBase_setF (x : RF) (v : Nat) : (s.setF x v).engBase = s.engBase := rfl
@[simp] theorem Mach.hSkew_setF (x : RF) (v : Nat) : (s.setF x v).hSkew = s.hSkew := rfl
@[simp] theorem Mach.reqs_setF (x : RF) (v : Nat) : (s.setF x v).reqs = s.reqs := rfl
@[simp] theorem Mach.orphans_setF (x : RF) (v : Nat) : (s.setF x v).orphans = s.orphans := rfl
@[simp] theorem Mach.lateResp_setF (x : RF) (v : Nat) : (s.setF x v).lateResp = s.lateResp := rfl
@[simp] theorem Mach.noc_setF (x : RF) (v : Nat) : (s.setF x v).noc = s.noc := rfl
@[simp] theorem Mach.ring_setF (x : RF) (v : Nat) : (s.setF x v).ring = s.ring := rfl
@[simp] theorem Mach.beat_setF (x : RF) (v : Nat) : (s.setF x v).beat = s.beat := rfl
@[simp] theorem Mach.ux_setF (x : RF) (v : Nat) : (s.setF x v).ux = s.ux := rfl
@[simp] theorem Mach.fenced_setF (x : RF) (v : Nat) : (s.setF x v).fenced = s.fenced := rfl
@[simp] theorem Mach.img_setF (x : RF) (v : Nat) : (s.setF x v).img = s.img := rfl
@[simp] theorem Mach.movers_setF (x : RF) (v : Nat) : (s.setF x v).movers = s.movers := rfl
@[simp] theorem Mach.mvWords_setF (x : RF) (v : Nat) : (s.setF x v).mvWords = s.mvWords := rfl
@[simp] theorem Mach.jLatch_setF (x : RF) (v : Nat) : (s.setF x v).jLatch = s.jLatch := rfl
@[simp] theorem Mach.mig_setF (x : RF) (v : Nat) : (s.setF x v).mig = s.mig := rfl
@[simp] theorem Mach.dv_setF (x : RF) (v : Nat) : (s.setF x v).dv = s.dv := rfl
@[simp] theorem Mach.pw_setF (x : RF) (v : Nat) : (s.setF x v).pw = s.pw := rfl
@[simp] theorem Mach.nvLog_setF (x : RF) (v : Nat) : (s.setF x v).nvLog = s.nvLog := rfl
@[simp] theorem Mach.shadow_setF (x : RF) (v : Nat) : (s.setF x v).shadow = s.shadow := rfl
@[simp] theorem Mach.heldWrites_setF (x : RF) (v : Nat) : (s.setF x v).heldWrites = s.heldWrites := rfl
@[simp] theorem Mach.stopped_setF (x : RF) (v : Nat) : (s.setF x v).stopped = s.stopped := rfl
@[simp] theorem Mach.test_setF (x : RF) (v : Nat) : (s.setF x v).test = s.test := rfl
@[simp] theorem Mach.twin_setF (x : RF) (v : Nat) : (s.setF x v).twin = s.twin := rfl
@[simp] theorem Mach.strike_setF (x : RF) (v : Nat) : (s.setF x v).strike = s.strike := rfl
@[simp] theorem Mach.tocsin_setF (x : RF) (v : Nat) : (s.setF x v).tocsin = s.tocsin := rfl

/-! ### setSt -/

@[simp] theorem Mach.regs_setSt (k : Nat) (v : U64) : (s.setSt k v).regs = s.regs := rfl
@[simp] theorem Mach.committed_setSt (k : Nat) (v : U64) : (s.setSt k v).committed = s.committed := rfl
@[simp] theorem Mach.sel_setSt (k : Nat) (v : U64) : (s.setSt k v).sel = s.sel := rfl
@[simp] theorem Mach.heldLo_setSt (k : Nat) (v : U64) : (s.setSt k v).heldLo = s.heldLo := rfl
@[simp] theorem Mach.latch_setSt (k : Nat) (v : U64) : (s.setSt k v).latch = s.latch := rfl
@[simp] theorem Mach.now_setSt (k : Nat) (v : U64) : (s.setSt k v).now = s.now := rfl
@[simp] theorem Mach.sub_setSt (k : Nat) (v : U64) : (s.setSt k v).sub = s.sub := rfl
@[simp] theorem Mach.freeCtr_setSt (k : Nat) (v : U64) : (s.setSt k v).freeCtr = s.freeCtr := rfl
@[simp] theorem Mach.work_setSt (k : Nat) (v : U64) : (s.setSt k v).work = s.work := rfl
@[simp] theorem Mach.out_setSt (k : Nat) (v : U64) : (s.setSt k v).out = s.out := rfl
@[simp] theorem Mach.log_setSt (k : Nat) (v : U64) : (s.setSt k v).log = s.log := rfl
@[simp] theorem Mach.folds_setSt (k : Nat) (v : U64) : (s.setSt k v).folds = s.folds := rfl
@[simp] theorem Mach.heldLogs_setSt (k : Nat) (v : U64) : (s.setSt k v).heldLogs = s.heldLogs := rfl
@[simp] theorem Mach.heldLogLost_setSt (k : Nat) (v : U64) : (s.setSt k v).heldLogLost = s.heldLogLost := rfl
@[simp] theorem Mach.heldPosts_setSt (k : Nat) (v : U64) : (s.setSt k v).heldPosts = s.heldPosts := rfl
@[simp] theorem Mach.heldPostsLost_setSt (k : Nat) (v : U64) : (s.setSt k v).heldPostsLost = s.heldPostsLost := rfl
@[simp] theorem Mach.hReset_setSt (k : Nat) (v : U64) : (s.setSt k v).hReset = s.hReset := rfl
@[simp] theorem Mach.mpuClear_setSt (k : Nat) (v : U64) : (s.setSt k v).mpuClear = s.mpuClear := rfl
@[simp] theorem Mach.jq_setSt (k : Nat) (v : U64) : (s.setSt k v).jq = s.jq := rfl
@[simp] theorem Mach.jStarted_setSt (k : Nat) (v : U64) : (s.setSt k v).jStarted = s.jStarted := rfl
@[simp] theorem Mach.jDropBoot_setSt (k : Nat) (v : U64) : (s.setSt k v).jDropBoot = s.jDropBoot := rfl
@[simp] theorem Mach.jDropNojrn_setSt (k : Nat) (v : U64) : (s.setSt k v).jDropNojrn = s.jDropNojrn := rfl
@[simp] theorem Mach.jDropDis_setSt (k : Nat) (v : U64) : (s.setSt k v).jDropDis = s.jDropDis := rfl
@[simp] theorem Mach.jDropFull_setSt (k : Nat) (v : U64) : (s.setSt k v).jDropFull = s.jDropFull := rfl
@[simp] theorem Mach.evSlots_setSt (k : Nat) (v : U64) : (s.setSt k v).evSlots = s.evSlots := rfl
@[simp] theorem Mach.evHeld_setSt (k : Nat) (v : U64) : (s.setSt k v).evHeld = s.evHeld := rfl
@[simp] theorem Mach.mxAcc_setSt (k : Nat) (v : U64) : (s.setSt k v).mxAcc = s.mxAcc := rfl
@[simp] theorem Mach.mxHeld_setSt (k : Nat) (v : U64) : (s.setSt k v).mxHeld = s.mxHeld := rfl
@[simp] theorem Mach.mxEpisode_setSt (k : Nat) (v : U64) : (s.setSt k v).mxEpisode = s.mxEpisode := rfl
@[simp] theorem Mach.pcie_setSt (k : Nat) (v : U64) : (s.setSt k v).pcie = s.pcie := rfl
@[simp] theorem Mach.dram_setSt (k : Nat) (v : U64) : (s.setSt k v).dram = s.dram := rfl
@[simp] theorem Mach.dramBad_setSt (k : Nat) (v : U64) : (s.setSt k v).dramBad = s.dramBad := rfl
@[simp] theorem Mach.scratch_setSt (k : Nat) (v : U64) : (s.setSt k v).scratch = s.scratch := rfl
@[simp] theorem Mach.csram_setSt (k : Nat) (v : U64) : (s.setSt k v).csram = s.csram := rfl
@[simp] theorem Mach.isram_setSt (k : Nat) (v : U64) : (s.setSt k v).isram = s.isram := rfl
@[simp] theorem Mach.portQ_setSt (k : Nat) (v : U64) : (s.setSt k v).portQ = s.portQ := rfl
@[simp] theorem Mach.engines_setSt (k : Nat) (v : U64) : (s.setSt k v).engines = s.engines := rfl
@[simp] theorem Mach.cycles_setSt (k : Nat) (v : U64) : (s.setSt k v).cycles = s.cycles := rfl
@[simp] theorem Mach.engBase_setSt (k : Nat) (v : U64) : (s.setSt k v).engBase = s.engBase := rfl
@[simp] theorem Mach.hSkew_setSt (k : Nat) (v : U64) : (s.setSt k v).hSkew = s.hSkew := rfl
@[simp] theorem Mach.reqs_setSt (k : Nat) (v : U64) : (s.setSt k v).reqs = s.reqs := rfl
@[simp] theorem Mach.orphans_setSt (k : Nat) (v : U64) : (s.setSt k v).orphans = s.orphans := rfl
@[simp] theorem Mach.lateResp_setSt (k : Nat) (v : U64) : (s.setSt k v).lateResp = s.lateResp := rfl
@[simp] theorem Mach.noc_setSt (k : Nat) (v : U64) : (s.setSt k v).noc = s.noc := rfl
@[simp] theorem Mach.ring_setSt (k : Nat) (v : U64) : (s.setSt k v).ring = s.ring := rfl
@[simp] theorem Mach.beat_setSt (k : Nat) (v : U64) : (s.setSt k v).beat = s.beat := rfl
@[simp] theorem Mach.ux_setSt (k : Nat) (v : U64) : (s.setSt k v).ux = s.ux := rfl
@[simp] theorem Mach.fenced_setSt (k : Nat) (v : U64) : (s.setSt k v).fenced = s.fenced := rfl
@[simp] theorem Mach.img_setSt (k : Nat) (v : U64) : (s.setSt k v).img = s.img := rfl
@[simp] theorem Mach.movers_setSt (k : Nat) (v : U64) : (s.setSt k v).movers = s.movers := rfl
@[simp] theorem Mach.mvWords_setSt (k : Nat) (v : U64) : (s.setSt k v).mvWords = s.mvWords := rfl
@[simp] theorem Mach.jLatch_setSt (k : Nat) (v : U64) : (s.setSt k v).jLatch = s.jLatch := rfl
@[simp] theorem Mach.mig_setSt (k : Nat) (v : U64) : (s.setSt k v).mig = s.mig := rfl
@[simp] theorem Mach.dv_setSt (k : Nat) (v : U64) : (s.setSt k v).dv = s.dv := rfl
@[simp] theorem Mach.pw_setSt (k : Nat) (v : U64) : (s.setSt k v).pw = s.pw := rfl
@[simp] theorem Mach.nvLog_setSt (k : Nat) (v : U64) : (s.setSt k v).nvLog = s.nvLog := rfl
@[simp] theorem Mach.shadow_setSt (k : Nat) (v : U64) : (s.setSt k v).shadow = s.shadow := rfl
@[simp] theorem Mach.heldWrites_setSt (k : Nat) (v : U64) : (s.setSt k v).heldWrites = s.heldWrites := rfl
@[simp] theorem Mach.stopped_setSt (k : Nat) (v : U64) : (s.setSt k v).stopped = s.stopped := rfl
@[simp] theorem Mach.test_setSt (k : Nat) (v : U64) : (s.setSt k v).test = s.test := rfl
@[simp] theorem Mach.twin_setSt (k : Nat) (v : U64) : (s.setSt k v).twin = s.twin := rfl
@[simp] theorem Mach.strike_setSt (k : Nat) (v : U64) : (s.setSt k v).strike = s.strike := rfl
@[simp] theorem Mach.tocsin_setSt (k : Nat) (v : U64) : (s.setSt k v).tocsin = s.tocsin := rfl

/-! ### setEng -/

@[simp] theorem Mach.regs_setEng (e : Nat) (x : Engine) : (s.setEng e x).regs = s.regs := rfl
@[simp] theorem Mach.staged_setEng (e : Nat) (x : Engine) : (s.setEng e x).staged = s.staged := rfl
@[simp] theorem Mach.committed_setEng (e : Nat) (x : Engine) : (s.setEng e x).committed = s.committed := rfl
@[simp] theorem Mach.sel_setEng (e : Nat) (x : Engine) : (s.setEng e x).sel = s.sel := rfl
@[simp] theorem Mach.heldLo_setEng (e : Nat) (x : Engine) : (s.setEng e x).heldLo = s.heldLo := rfl
@[simp] theorem Mach.latch_setEng (e : Nat) (x : Engine) : (s.setEng e x).latch = s.latch := rfl
@[simp] theorem Mach.now_setEng (e : Nat) (x : Engine) : (s.setEng e x).now = s.now := rfl
@[simp] theorem Mach.sub_setEng (e : Nat) (x : Engine) : (s.setEng e x).sub = s.sub := rfl
@[simp] theorem Mach.freeCtr_setEng (e : Nat) (x : Engine) : (s.setEng e x).freeCtr = s.freeCtr := rfl
@[simp] theorem Mach.work_setEng (e : Nat) (x : Engine) : (s.setEng e x).work = s.work := rfl
@[simp] theorem Mach.out_setEng (e : Nat) (x : Engine) : (s.setEng e x).out = s.out := rfl
@[simp] theorem Mach.log_setEng (e : Nat) (x : Engine) : (s.setEng e x).log = s.log := rfl
@[simp] theorem Mach.folds_setEng (e : Nat) (x : Engine) : (s.setEng e x).folds = s.folds := rfl
@[simp] theorem Mach.heldLogs_setEng (e : Nat) (x : Engine) : (s.setEng e x).heldLogs = s.heldLogs := rfl
@[simp] theorem Mach.heldLogLost_setEng (e : Nat) (x : Engine) : (s.setEng e x).heldLogLost = s.heldLogLost := rfl
@[simp] theorem Mach.heldPosts_setEng (e : Nat) (x : Engine) : (s.setEng e x).heldPosts = s.heldPosts := rfl
@[simp] theorem Mach.heldPostsLost_setEng (e : Nat) (x : Engine) : (s.setEng e x).heldPostsLost = s.heldPostsLost := rfl
@[simp] theorem Mach.hReset_setEng (e : Nat) (x : Engine) : (s.setEng e x).hReset = s.hReset := rfl
@[simp] theorem Mach.mpuClear_setEng (e : Nat) (x : Engine) : (s.setEng e x).mpuClear = s.mpuClear := rfl
@[simp] theorem Mach.jq_setEng (e : Nat) (x : Engine) : (s.setEng e x).jq = s.jq := rfl
@[simp] theorem Mach.jStarted_setEng (e : Nat) (x : Engine) : (s.setEng e x).jStarted = s.jStarted := rfl
@[simp] theorem Mach.jDropBoot_setEng (e : Nat) (x : Engine) : (s.setEng e x).jDropBoot = s.jDropBoot := rfl
@[simp] theorem Mach.jDropNojrn_setEng (e : Nat) (x : Engine) : (s.setEng e x).jDropNojrn = s.jDropNojrn := rfl
@[simp] theorem Mach.jDropDis_setEng (e : Nat) (x : Engine) : (s.setEng e x).jDropDis = s.jDropDis := rfl
@[simp] theorem Mach.jDropFull_setEng (e : Nat) (x : Engine) : (s.setEng e x).jDropFull = s.jDropFull := rfl
@[simp] theorem Mach.evSlots_setEng (e : Nat) (x : Engine) : (s.setEng e x).evSlots = s.evSlots := rfl
@[simp] theorem Mach.evHeld_setEng (e : Nat) (x : Engine) : (s.setEng e x).evHeld = s.evHeld := rfl
@[simp] theorem Mach.mxAcc_setEng (e : Nat) (x : Engine) : (s.setEng e x).mxAcc = s.mxAcc := rfl
@[simp] theorem Mach.mxHeld_setEng (e : Nat) (x : Engine) : (s.setEng e x).mxHeld = s.mxHeld := rfl
@[simp] theorem Mach.mxEpisode_setEng (e : Nat) (x : Engine) : (s.setEng e x).mxEpisode = s.mxEpisode := rfl
@[simp] theorem Mach.pcie_setEng (e : Nat) (x : Engine) : (s.setEng e x).pcie = s.pcie := rfl
@[simp] theorem Mach.dram_setEng (e : Nat) (x : Engine) : (s.setEng e x).dram = s.dram := rfl
@[simp] theorem Mach.dramBad_setEng (e : Nat) (x : Engine) : (s.setEng e x).dramBad = s.dramBad := rfl
@[simp] theorem Mach.scratch_setEng (e : Nat) (x : Engine) : (s.setEng e x).scratch = s.scratch := rfl
@[simp] theorem Mach.csram_setEng (e : Nat) (x : Engine) : (s.setEng e x).csram = s.csram := rfl
@[simp] theorem Mach.isram_setEng (e : Nat) (x : Engine) : (s.setEng e x).isram = s.isram := rfl
@[simp] theorem Mach.portQ_setEng (e : Nat) (x : Engine) : (s.setEng e x).portQ = s.portQ := rfl
@[simp] theorem Mach.cycles_setEng (e : Nat) (x : Engine) : (s.setEng e x).cycles = s.cycles := rfl
@[simp] theorem Mach.engBase_setEng (e : Nat) (x : Engine) : (s.setEng e x).engBase = s.engBase := rfl
@[simp] theorem Mach.hSkew_setEng (e : Nat) (x : Engine) : (s.setEng e x).hSkew = s.hSkew := rfl
@[simp] theorem Mach.reqs_setEng (e : Nat) (x : Engine) : (s.setEng e x).reqs = s.reqs := rfl
@[simp] theorem Mach.orphans_setEng (e : Nat) (x : Engine) : (s.setEng e x).orphans = s.orphans := rfl
@[simp] theorem Mach.lateResp_setEng (e : Nat) (x : Engine) : (s.setEng e x).lateResp = s.lateResp := rfl
@[simp] theorem Mach.noc_setEng (e : Nat) (x : Engine) : (s.setEng e x).noc = s.noc := rfl
@[simp] theorem Mach.ring_setEng (e : Nat) (x : Engine) : (s.setEng e x).ring = s.ring := rfl
@[simp] theorem Mach.beat_setEng (e : Nat) (x : Engine) : (s.setEng e x).beat = s.beat := rfl
@[simp] theorem Mach.ux_setEng (e : Nat) (x : Engine) : (s.setEng e x).ux = s.ux := rfl
@[simp] theorem Mach.fenced_setEng (e : Nat) (x : Engine) : (s.setEng e x).fenced = s.fenced := rfl
@[simp] theorem Mach.img_setEng (e : Nat) (x : Engine) : (s.setEng e x).img = s.img := rfl
@[simp] theorem Mach.movers_setEng (e : Nat) (x : Engine) : (s.setEng e x).movers = s.movers := rfl
@[simp] theorem Mach.mvWords_setEng (e : Nat) (x : Engine) : (s.setEng e x).mvWords = s.mvWords := rfl
@[simp] theorem Mach.jLatch_setEng (e : Nat) (x : Engine) : (s.setEng e x).jLatch = s.jLatch := rfl
@[simp] theorem Mach.mig_setEng (e : Nat) (x : Engine) : (s.setEng e x).mig = s.mig := rfl
@[simp] theorem Mach.dv_setEng (e : Nat) (x : Engine) : (s.setEng e x).dv = s.dv := rfl
@[simp] theorem Mach.pw_setEng (e : Nat) (x : Engine) : (s.setEng e x).pw = s.pw := rfl
@[simp] theorem Mach.nvLog_setEng (e : Nat) (x : Engine) : (s.setEng e x).nvLog = s.nvLog := rfl
@[simp] theorem Mach.shadow_setEng (e : Nat) (x : Engine) : (s.setEng e x).shadow = s.shadow := rfl
@[simp] theorem Mach.heldWrites_setEng (e : Nat) (x : Engine) : (s.setEng e x).heldWrites = s.heldWrites := rfl
@[simp] theorem Mach.stopped_setEng (e : Nat) (x : Engine) : (s.setEng e x).stopped = s.stopped := rfl
@[simp] theorem Mach.test_setEng (e : Nat) (x : Engine) : (s.setEng e x).test = s.test := rfl
@[simp] theorem Mach.twin_setEng (e : Nat) (x : Engine) : (s.setEng e x).twin = s.twin := rfl
@[simp] theorem Mach.strike_setEng (e : Nat) (x : Engine) : (s.setEng e x).strike = s.strike := rfl
@[simp] theorem Mach.tocsin_setEng (e : Nat) (x : Engine) : (s.setEng e x).tocsin = s.tocsin := rfl

/-! ### push -/

@[simp] theorem Mach.regs_push (w : Work) : (s.push w).regs = s.regs := rfl
@[simp] theorem Mach.staged_push (w : Work) : (s.push w).staged = s.staged := rfl
@[simp] theorem Mach.committed_push (w : Work) : (s.push w).committed = s.committed := rfl
@[simp] theorem Mach.sel_push (w : Work) : (s.push w).sel = s.sel := rfl
@[simp] theorem Mach.heldLo_push (w : Work) : (s.push w).heldLo = s.heldLo := rfl
@[simp] theorem Mach.latch_push (w : Work) : (s.push w).latch = s.latch := rfl
@[simp] theorem Mach.now_push (w : Work) : (s.push w).now = s.now := rfl
@[simp] theorem Mach.sub_push (w : Work) : (s.push w).sub = s.sub := rfl
@[simp] theorem Mach.freeCtr_push (w : Work) : (s.push w).freeCtr = s.freeCtr := rfl
@[simp] theorem Mach.out_push (w : Work) : (s.push w).out = s.out := rfl
@[simp] theorem Mach.log_push (w : Work) : (s.push w).log = s.log := rfl
@[simp] theorem Mach.folds_push (w : Work) : (s.push w).folds = s.folds := rfl
@[simp] theorem Mach.heldLogs_push (w : Work) : (s.push w).heldLogs = s.heldLogs := rfl
@[simp] theorem Mach.heldLogLost_push (w : Work) : (s.push w).heldLogLost = s.heldLogLost := rfl
@[simp] theorem Mach.heldPosts_push (w : Work) : (s.push w).heldPosts = s.heldPosts := rfl
@[simp] theorem Mach.heldPostsLost_push (w : Work) : (s.push w).heldPostsLost = s.heldPostsLost := rfl
@[simp] theorem Mach.hReset_push (w : Work) : (s.push w).hReset = s.hReset := rfl
@[simp] theorem Mach.mpuClear_push (w : Work) : (s.push w).mpuClear = s.mpuClear := rfl
@[simp] theorem Mach.jq_push (w : Work) : (s.push w).jq = s.jq := rfl
@[simp] theorem Mach.jStarted_push (w : Work) : (s.push w).jStarted = s.jStarted := rfl
@[simp] theorem Mach.jDropBoot_push (w : Work) : (s.push w).jDropBoot = s.jDropBoot := rfl
@[simp] theorem Mach.jDropNojrn_push (w : Work) : (s.push w).jDropNojrn = s.jDropNojrn := rfl
@[simp] theorem Mach.jDropDis_push (w : Work) : (s.push w).jDropDis = s.jDropDis := rfl
@[simp] theorem Mach.jDropFull_push (w : Work) : (s.push w).jDropFull = s.jDropFull := rfl
@[simp] theorem Mach.evSlots_push (w : Work) : (s.push w).evSlots = s.evSlots := rfl
@[simp] theorem Mach.evHeld_push (w : Work) : (s.push w).evHeld = s.evHeld := rfl
@[simp] theorem Mach.mxAcc_push (w : Work) : (s.push w).mxAcc = s.mxAcc := rfl
@[simp] theorem Mach.mxHeld_push (w : Work) : (s.push w).mxHeld = s.mxHeld := rfl
@[simp] theorem Mach.mxEpisode_push (w : Work) : (s.push w).mxEpisode = s.mxEpisode := rfl
@[simp] theorem Mach.pcie_push (w : Work) : (s.push w).pcie = s.pcie := rfl
@[simp] theorem Mach.dram_push (w : Work) : (s.push w).dram = s.dram := rfl
@[simp] theorem Mach.dramBad_push (w : Work) : (s.push w).dramBad = s.dramBad := rfl
@[simp] theorem Mach.scratch_push (w : Work) : (s.push w).scratch = s.scratch := rfl
@[simp] theorem Mach.csram_push (w : Work) : (s.push w).csram = s.csram := rfl
@[simp] theorem Mach.isram_push (w : Work) : (s.push w).isram = s.isram := rfl
@[simp] theorem Mach.portQ_push (w : Work) : (s.push w).portQ = s.portQ := rfl
@[simp] theorem Mach.engines_push (w : Work) : (s.push w).engines = s.engines := rfl
@[simp] theorem Mach.cycles_push (w : Work) : (s.push w).cycles = s.cycles := rfl
@[simp] theorem Mach.engBase_push (w : Work) : (s.push w).engBase = s.engBase := rfl
@[simp] theorem Mach.hSkew_push (w : Work) : (s.push w).hSkew = s.hSkew := rfl
@[simp] theorem Mach.reqs_push (w : Work) : (s.push w).reqs = s.reqs := rfl
@[simp] theorem Mach.orphans_push (w : Work) : (s.push w).orphans = s.orphans := rfl
@[simp] theorem Mach.lateResp_push (w : Work) : (s.push w).lateResp = s.lateResp := rfl
@[simp] theorem Mach.noc_push (w : Work) : (s.push w).noc = s.noc := rfl
@[simp] theorem Mach.ring_push (w : Work) : (s.push w).ring = s.ring := rfl
@[simp] theorem Mach.beat_push (w : Work) : (s.push w).beat = s.beat := rfl
@[simp] theorem Mach.ux_push (w : Work) : (s.push w).ux = s.ux := rfl
@[simp] theorem Mach.fenced_push (w : Work) : (s.push w).fenced = s.fenced := rfl
@[simp] theorem Mach.img_push (w : Work) : (s.push w).img = s.img := rfl
@[simp] theorem Mach.movers_push (w : Work) : (s.push w).movers = s.movers := rfl
@[simp] theorem Mach.mvWords_push (w : Work) : (s.push w).mvWords = s.mvWords := rfl
@[simp] theorem Mach.jLatch_push (w : Work) : (s.push w).jLatch = s.jLatch := rfl
@[simp] theorem Mach.mig_push (w : Work) : (s.push w).mig = s.mig := rfl
@[simp] theorem Mach.dv_push (w : Work) : (s.push w).dv = s.dv := rfl
@[simp] theorem Mach.pw_push (w : Work) : (s.push w).pw = s.pw := rfl
@[simp] theorem Mach.nvLog_push (w : Work) : (s.push w).nvLog = s.nvLog := rfl
@[simp] theorem Mach.shadow_push (w : Work) : (s.push w).shadow = s.shadow := rfl
@[simp] theorem Mach.heldWrites_push (w : Work) : (s.push w).heldWrites = s.heldWrites := rfl
@[simp] theorem Mach.stopped_push (w : Work) : (s.push w).stopped = s.stopped := rfl
@[simp] theorem Mach.test_push (w : Work) : (s.push w).test = s.test := rfl
@[simp] theorem Mach.twin_push (w : Work) : (s.push w).twin = s.twin := rfl
@[simp] theorem Mach.strike_push (w : Work) : (s.push w).strike = s.strike := rfl
@[simp] theorem Mach.tocsin_push (w : Work) : (s.push w).tocsin = s.tocsin := rfl

/-! ### emit -/

@[simp] theorem Mach.regs_emit (x : Out) : (s.emit x).regs = s.regs := rfl
@[simp] theorem Mach.staged_emit (x : Out) : (s.emit x).staged = s.staged := rfl
@[simp] theorem Mach.committed_emit (x : Out) : (s.emit x).committed = s.committed := rfl
@[simp] theorem Mach.sel_emit (x : Out) : (s.emit x).sel = s.sel := rfl
@[simp] theorem Mach.heldLo_emit (x : Out) : (s.emit x).heldLo = s.heldLo := rfl
@[simp] theorem Mach.latch_emit (x : Out) : (s.emit x).latch = s.latch := rfl
@[simp] theorem Mach.now_emit (x : Out) : (s.emit x).now = s.now := rfl
@[simp] theorem Mach.sub_emit (x : Out) : (s.emit x).sub = s.sub := rfl
@[simp] theorem Mach.freeCtr_emit (x : Out) : (s.emit x).freeCtr = s.freeCtr := rfl
@[simp] theorem Mach.work_emit (x : Out) : (s.emit x).work = s.work := rfl
@[simp] theorem Mach.log_emit (x : Out) : (s.emit x).log = s.log := rfl
@[simp] theorem Mach.folds_emit (x : Out) : (s.emit x).folds = s.folds := rfl
@[simp] theorem Mach.heldLogs_emit (x : Out) : (s.emit x).heldLogs = s.heldLogs := rfl
@[simp] theorem Mach.heldLogLost_emit (x : Out) : (s.emit x).heldLogLost = s.heldLogLost := rfl
@[simp] theorem Mach.heldPosts_emit (x : Out) : (s.emit x).heldPosts = s.heldPosts := rfl
@[simp] theorem Mach.heldPostsLost_emit (x : Out) : (s.emit x).heldPostsLost = s.heldPostsLost := rfl
@[simp] theorem Mach.hReset_emit (x : Out) : (s.emit x).hReset = s.hReset := rfl
@[simp] theorem Mach.mpuClear_emit (x : Out) : (s.emit x).mpuClear = s.mpuClear := rfl
@[simp] theorem Mach.jq_emit (x : Out) : (s.emit x).jq = s.jq := rfl
@[simp] theorem Mach.jStarted_emit (x : Out) : (s.emit x).jStarted = s.jStarted := rfl
@[simp] theorem Mach.jDropBoot_emit (x : Out) : (s.emit x).jDropBoot = s.jDropBoot := rfl
@[simp] theorem Mach.jDropNojrn_emit (x : Out) : (s.emit x).jDropNojrn = s.jDropNojrn := rfl
@[simp] theorem Mach.jDropDis_emit (x : Out) : (s.emit x).jDropDis = s.jDropDis := rfl
@[simp] theorem Mach.jDropFull_emit (x : Out) : (s.emit x).jDropFull = s.jDropFull := rfl
@[simp] theorem Mach.evSlots_emit (x : Out) : (s.emit x).evSlots = s.evSlots := rfl
@[simp] theorem Mach.evHeld_emit (x : Out) : (s.emit x).evHeld = s.evHeld := rfl
@[simp] theorem Mach.mxAcc_emit (x : Out) : (s.emit x).mxAcc = s.mxAcc := rfl
@[simp] theorem Mach.mxHeld_emit (x : Out) : (s.emit x).mxHeld = s.mxHeld := rfl
@[simp] theorem Mach.mxEpisode_emit (x : Out) : (s.emit x).mxEpisode = s.mxEpisode := rfl
@[simp] theorem Mach.pcie_emit (x : Out) : (s.emit x).pcie = s.pcie := rfl
@[simp] theorem Mach.dram_emit (x : Out) : (s.emit x).dram = s.dram := rfl
@[simp] theorem Mach.dramBad_emit (x : Out) : (s.emit x).dramBad = s.dramBad := rfl
@[simp] theorem Mach.scratch_emit (x : Out) : (s.emit x).scratch = s.scratch := rfl
@[simp] theorem Mach.csram_emit (x : Out) : (s.emit x).csram = s.csram := rfl
@[simp] theorem Mach.isram_emit (x : Out) : (s.emit x).isram = s.isram := rfl
@[simp] theorem Mach.portQ_emit (x : Out) : (s.emit x).portQ = s.portQ := rfl
@[simp] theorem Mach.engines_emit (x : Out) : (s.emit x).engines = s.engines := rfl
@[simp] theorem Mach.cycles_emit (x : Out) : (s.emit x).cycles = s.cycles := rfl
@[simp] theorem Mach.engBase_emit (x : Out) : (s.emit x).engBase = s.engBase := rfl
@[simp] theorem Mach.hSkew_emit (x : Out) : (s.emit x).hSkew = s.hSkew := rfl
@[simp] theorem Mach.reqs_emit (x : Out) : (s.emit x).reqs = s.reqs := rfl
@[simp] theorem Mach.orphans_emit (x : Out) : (s.emit x).orphans = s.orphans := rfl
@[simp] theorem Mach.lateResp_emit (x : Out) : (s.emit x).lateResp = s.lateResp := rfl
@[simp] theorem Mach.noc_emit (x : Out) : (s.emit x).noc = s.noc := rfl
@[simp] theorem Mach.ring_emit (x : Out) : (s.emit x).ring = s.ring := rfl
@[simp] theorem Mach.beat_emit (x : Out) : (s.emit x).beat = s.beat := rfl
@[simp] theorem Mach.ux_emit (x : Out) : (s.emit x).ux = s.ux := rfl
@[simp] theorem Mach.fenced_emit (x : Out) : (s.emit x).fenced = s.fenced := rfl
@[simp] theorem Mach.img_emit (x : Out) : (s.emit x).img = s.img := rfl
@[simp] theorem Mach.movers_emit (x : Out) : (s.emit x).movers = s.movers := rfl
@[simp] theorem Mach.mvWords_emit (x : Out) : (s.emit x).mvWords = s.mvWords := rfl
@[simp] theorem Mach.jLatch_emit (x : Out) : (s.emit x).jLatch = s.jLatch := rfl
@[simp] theorem Mach.mig_emit (x : Out) : (s.emit x).mig = s.mig := rfl
@[simp] theorem Mach.dv_emit (x : Out) : (s.emit x).dv = s.dv := rfl
@[simp] theorem Mach.pw_emit (x : Out) : (s.emit x).pw = s.pw := rfl
@[simp] theorem Mach.nvLog_emit (x : Out) : (s.emit x).nvLog = s.nvLog := rfl
@[simp] theorem Mach.shadow_emit (x : Out) : (s.emit x).shadow = s.shadow := rfl
@[simp] theorem Mach.heldWrites_emit (x : Out) : (s.emit x).heldWrites = s.heldWrites := rfl
@[simp] theorem Mach.stopped_emit (x : Out) : (s.emit x).stopped = s.stopped := rfl
@[simp] theorem Mach.test_emit (x : Out) : (s.emit x).test = s.test := rfl
@[simp] theorem Mach.twin_emit (x : Out) : (s.emit x).twin = s.twin := rfl
@[simp] theorem Mach.strike_emit (x : Out) : (s.emit x).strike = s.strike := rfl
@[simp] theorem Mach.tocsin_emit (x : Out) : (s.emit x).tocsin = s.tocsin := rfl

/-! ### raise -/

@[simp] theorem Mach.staged_raise (x : RF) : (s.raise x).staged = s.staged := rfl
@[simp] theorem Mach.committed_raise (x : RF) : (s.raise x).committed = s.committed := rfl
@[simp] theorem Mach.sel_raise (x : RF) : (s.raise x).sel = s.sel := rfl
@[simp] theorem Mach.heldLo_raise (x : RF) : (s.raise x).heldLo = s.heldLo := rfl
@[simp] theorem Mach.latch_raise (x : RF) : (s.raise x).latch = s.latch := rfl
@[simp] theorem Mach.now_raise (x : RF) : (s.raise x).now = s.now := rfl
@[simp] theorem Mach.sub_raise (x : RF) : (s.raise x).sub = s.sub := rfl
@[simp] theorem Mach.freeCtr_raise (x : RF) : (s.raise x).freeCtr = s.freeCtr := rfl
@[simp] theorem Mach.out_raise (x : RF) : (s.raise x).out = s.out := rfl
@[simp] theorem Mach.log_raise (x : RF) : (s.raise x).log = s.log := rfl
@[simp] theorem Mach.folds_raise (x : RF) : (s.raise x).folds = s.folds := rfl
@[simp] theorem Mach.heldLogs_raise (x : RF) : (s.raise x).heldLogs = s.heldLogs := rfl
@[simp] theorem Mach.heldLogLost_raise (x : RF) : (s.raise x).heldLogLost = s.heldLogLost := rfl
@[simp] theorem Mach.heldPosts_raise (x : RF) : (s.raise x).heldPosts = s.heldPosts := rfl
@[simp] theorem Mach.heldPostsLost_raise (x : RF) : (s.raise x).heldPostsLost = s.heldPostsLost := rfl
@[simp] theorem Mach.hReset_raise (x : RF) : (s.raise x).hReset = s.hReset := rfl
@[simp] theorem Mach.mpuClear_raise (x : RF) : (s.raise x).mpuClear = s.mpuClear := rfl
@[simp] theorem Mach.jq_raise (x : RF) : (s.raise x).jq = s.jq := rfl
@[simp] theorem Mach.jStarted_raise (x : RF) : (s.raise x).jStarted = s.jStarted := rfl
@[simp] theorem Mach.jDropBoot_raise (x : RF) : (s.raise x).jDropBoot = s.jDropBoot := rfl
@[simp] theorem Mach.jDropNojrn_raise (x : RF) : (s.raise x).jDropNojrn = s.jDropNojrn := rfl
@[simp] theorem Mach.jDropDis_raise (x : RF) : (s.raise x).jDropDis = s.jDropDis := rfl
@[simp] theorem Mach.jDropFull_raise (x : RF) : (s.raise x).jDropFull = s.jDropFull := rfl
@[simp] theorem Mach.evSlots_raise (x : RF) : (s.raise x).evSlots = s.evSlots := rfl
@[simp] theorem Mach.evHeld_raise (x : RF) : (s.raise x).evHeld = s.evHeld := rfl
@[simp] theorem Mach.mxAcc_raise (x : RF) : (s.raise x).mxAcc = s.mxAcc := rfl
@[simp] theorem Mach.mxHeld_raise (x : RF) : (s.raise x).mxHeld = s.mxHeld := rfl
@[simp] theorem Mach.mxEpisode_raise (x : RF) : (s.raise x).mxEpisode = s.mxEpisode := rfl
@[simp] theorem Mach.pcie_raise (x : RF) : (s.raise x).pcie = s.pcie := rfl
@[simp] theorem Mach.dram_raise (x : RF) : (s.raise x).dram = s.dram := rfl
@[simp] theorem Mach.dramBad_raise (x : RF) : (s.raise x).dramBad = s.dramBad := rfl
@[simp] theorem Mach.scratch_raise (x : RF) : (s.raise x).scratch = s.scratch := rfl
@[simp] theorem Mach.csram_raise (x : RF) : (s.raise x).csram = s.csram := rfl
@[simp] theorem Mach.isram_raise (x : RF) : (s.raise x).isram = s.isram := rfl
@[simp] theorem Mach.portQ_raise (x : RF) : (s.raise x).portQ = s.portQ := rfl
@[simp] theorem Mach.engines_raise (x : RF) : (s.raise x).engines = s.engines := rfl
@[simp] theorem Mach.cycles_raise (x : RF) : (s.raise x).cycles = s.cycles := rfl
@[simp] theorem Mach.engBase_raise (x : RF) : (s.raise x).engBase = s.engBase := rfl
@[simp] theorem Mach.hSkew_raise (x : RF) : (s.raise x).hSkew = s.hSkew := rfl
@[simp] theorem Mach.reqs_raise (x : RF) : (s.raise x).reqs = s.reqs := rfl
@[simp] theorem Mach.orphans_raise (x : RF) : (s.raise x).orphans = s.orphans := rfl
@[simp] theorem Mach.lateResp_raise (x : RF) : (s.raise x).lateResp = s.lateResp := rfl
@[simp] theorem Mach.noc_raise (x : RF) : (s.raise x).noc = s.noc := rfl
@[simp] theorem Mach.ring_raise (x : RF) : (s.raise x).ring = s.ring := rfl
@[simp] theorem Mach.beat_raise (x : RF) : (s.raise x).beat = s.beat := rfl
@[simp] theorem Mach.ux_raise (x : RF) : (s.raise x).ux = s.ux := rfl
@[simp] theorem Mach.fenced_raise (x : RF) : (s.raise x).fenced = s.fenced := rfl
@[simp] theorem Mach.img_raise (x : RF) : (s.raise x).img = s.img := rfl
@[simp] theorem Mach.movers_raise (x : RF) : (s.raise x).movers = s.movers := rfl
@[simp] theorem Mach.mvWords_raise (x : RF) : (s.raise x).mvWords = s.mvWords := rfl
@[simp] theorem Mach.jLatch_raise (x : RF) : (s.raise x).jLatch = s.jLatch := rfl
@[simp] theorem Mach.mig_raise (x : RF) : (s.raise x).mig = s.mig := rfl
@[simp] theorem Mach.dv_raise (x : RF) : (s.raise x).dv = s.dv := rfl
@[simp] theorem Mach.pw_raise (x : RF) : (s.raise x).pw = s.pw := rfl
@[simp] theorem Mach.nvLog_raise (x : RF) : (s.raise x).nvLog = s.nvLog := rfl
@[simp] theorem Mach.shadow_raise (x : RF) : (s.raise x).shadow = s.shadow := rfl
@[simp] theorem Mach.heldWrites_raise (x : RF) : (s.raise x).heldWrites = s.heldWrites := rfl
@[simp] theorem Mach.stopped_raise (x : RF) : (s.raise x).stopped = s.stopped := rfl
@[simp] theorem Mach.test_raise (x : RF) : (s.raise x).test = s.test := rfl
@[simp] theorem Mach.twin_raise (x : RF) : (s.raise x).twin = s.twin := rfl
@[simp] theorem Mach.strike_raise (x : RF) : (s.raise x).strike = s.strike := rfl
@[simp] theorem Mach.tocsin_raise (x : RF) : (s.raise x).tocsin = s.tocsin := rfl

/-! ### logE -/

@[simp] theorem Mach.regs_logE (e : LogEntry) : (s.logE e).regs = s.regs := rfl
@[simp] theorem Mach.staged_logE (e : LogEntry) : (s.logE e).staged = s.staged := rfl
@[simp] theorem Mach.committed_logE (e : LogEntry) : (s.logE e).committed = s.committed := rfl
@[simp] theorem Mach.sel_logE (e : LogEntry) : (s.logE e).sel = s.sel := rfl
@[simp] theorem Mach.heldLo_logE (e : LogEntry) : (s.logE e).heldLo = s.heldLo := rfl
@[simp] theorem Mach.latch_logE (e : LogEntry) : (s.logE e).latch = s.latch := rfl
@[simp] theorem Mach.now_logE (e : LogEntry) : (s.logE e).now = s.now := rfl
@[simp] theorem Mach.sub_logE (e : LogEntry) : (s.logE e).sub = s.sub := rfl
@[simp] theorem Mach.freeCtr_logE (e : LogEntry) : (s.logE e).freeCtr = s.freeCtr := rfl
@[simp] theorem Mach.out_logE (e : LogEntry) : (s.logE e).out = s.out := rfl
@[simp] theorem Mach.log_logE (e : LogEntry) : (s.logE e).log = s.log := rfl
@[simp] theorem Mach.folds_logE (e : LogEntry) : (s.logE e).folds = s.folds := rfl
@[simp] theorem Mach.heldLogs_logE (e : LogEntry) : (s.logE e).heldLogs = s.heldLogs := rfl
@[simp] theorem Mach.heldLogLost_logE (e : LogEntry) : (s.logE e).heldLogLost = s.heldLogLost := rfl
@[simp] theorem Mach.heldPosts_logE (e : LogEntry) : (s.logE e).heldPosts = s.heldPosts := rfl
@[simp] theorem Mach.heldPostsLost_logE (e : LogEntry) : (s.logE e).heldPostsLost = s.heldPostsLost := rfl
@[simp] theorem Mach.hReset_logE (e : LogEntry) : (s.logE e).hReset = s.hReset := rfl
@[simp] theorem Mach.mpuClear_logE (e : LogEntry) : (s.logE e).mpuClear = s.mpuClear := rfl
@[simp] theorem Mach.jq_logE (e : LogEntry) : (s.logE e).jq = s.jq := rfl
@[simp] theorem Mach.jStarted_logE (e : LogEntry) : (s.logE e).jStarted = s.jStarted := rfl
@[simp] theorem Mach.jDropBoot_logE (e : LogEntry) : (s.logE e).jDropBoot = s.jDropBoot := rfl
@[simp] theorem Mach.jDropNojrn_logE (e : LogEntry) : (s.logE e).jDropNojrn = s.jDropNojrn := rfl
@[simp] theorem Mach.jDropDis_logE (e : LogEntry) : (s.logE e).jDropDis = s.jDropDis := rfl
@[simp] theorem Mach.jDropFull_logE (e : LogEntry) : (s.logE e).jDropFull = s.jDropFull := rfl
@[simp] theorem Mach.evSlots_logE (e : LogEntry) : (s.logE e).evSlots = s.evSlots := rfl
@[simp] theorem Mach.evHeld_logE (e : LogEntry) : (s.logE e).evHeld = s.evHeld := rfl
@[simp] theorem Mach.mxAcc_logE (e : LogEntry) : (s.logE e).mxAcc = s.mxAcc := rfl
@[simp] theorem Mach.mxHeld_logE (e : LogEntry) : (s.logE e).mxHeld = s.mxHeld := rfl
@[simp] theorem Mach.mxEpisode_logE (e : LogEntry) : (s.logE e).mxEpisode = s.mxEpisode := rfl
@[simp] theorem Mach.pcie_logE (e : LogEntry) : (s.logE e).pcie = s.pcie := rfl
@[simp] theorem Mach.dram_logE (e : LogEntry) : (s.logE e).dram = s.dram := rfl
@[simp] theorem Mach.dramBad_logE (e : LogEntry) : (s.logE e).dramBad = s.dramBad := rfl
@[simp] theorem Mach.scratch_logE (e : LogEntry) : (s.logE e).scratch = s.scratch := rfl
@[simp] theorem Mach.csram_logE (e : LogEntry) : (s.logE e).csram = s.csram := rfl
@[simp] theorem Mach.isram_logE (e : LogEntry) : (s.logE e).isram = s.isram := rfl
@[simp] theorem Mach.portQ_logE (e : LogEntry) : (s.logE e).portQ = s.portQ := rfl
@[simp] theorem Mach.engines_logE (e : LogEntry) : (s.logE e).engines = s.engines := rfl
@[simp] theorem Mach.cycles_logE (e : LogEntry) : (s.logE e).cycles = s.cycles := rfl
@[simp] theorem Mach.engBase_logE (e : LogEntry) : (s.logE e).engBase = s.engBase := rfl
@[simp] theorem Mach.hSkew_logE (e : LogEntry) : (s.logE e).hSkew = s.hSkew := rfl
@[simp] theorem Mach.reqs_logE (e : LogEntry) : (s.logE e).reqs = s.reqs := rfl
@[simp] theorem Mach.orphans_logE (e : LogEntry) : (s.logE e).orphans = s.orphans := rfl
@[simp] theorem Mach.lateResp_logE (e : LogEntry) : (s.logE e).lateResp = s.lateResp := rfl
@[simp] theorem Mach.noc_logE (e : LogEntry) : (s.logE e).noc = s.noc := rfl
@[simp] theorem Mach.ring_logE (e : LogEntry) : (s.logE e).ring = s.ring := rfl
@[simp] theorem Mach.beat_logE (e : LogEntry) : (s.logE e).beat = s.beat := rfl
@[simp] theorem Mach.ux_logE (e : LogEntry) : (s.logE e).ux = s.ux := rfl
@[simp] theorem Mach.fenced_logE (e : LogEntry) : (s.logE e).fenced = s.fenced := rfl
@[simp] theorem Mach.img_logE (e : LogEntry) : (s.logE e).img = s.img := rfl
@[simp] theorem Mach.movers_logE (e : LogEntry) : (s.logE e).movers = s.movers := rfl
@[simp] theorem Mach.mvWords_logE (e : LogEntry) : (s.logE e).mvWords = s.mvWords := rfl
@[simp] theorem Mach.jLatch_logE (e : LogEntry) : (s.logE e).jLatch = s.jLatch := rfl
@[simp] theorem Mach.mig_logE (e : LogEntry) : (s.logE e).mig = s.mig := rfl
@[simp] theorem Mach.dv_logE (e : LogEntry) : (s.logE e).dv = s.dv := rfl
@[simp] theorem Mach.pw_logE (e : LogEntry) : (s.logE e).pw = s.pw := rfl
@[simp] theorem Mach.nvLog_logE (e : LogEntry) : (s.logE e).nvLog = s.nvLog := rfl
@[simp] theorem Mach.shadow_logE (e : LogEntry) : (s.logE e).shadow = s.shadow := rfl
@[simp] theorem Mach.heldWrites_logE (e : LogEntry) : (s.logE e).heldWrites = s.heldWrites := rfl
@[simp] theorem Mach.stopped_logE (e : LogEntry) : (s.logE e).stopped = s.stopped := rfl
@[simp] theorem Mach.test_logE (e : LogEntry) : (s.logE e).test = s.test := rfl
@[simp] theorem Mach.twin_logE (e : LogEntry) : (s.logE e).twin = s.twin := rfl
@[simp] theorem Mach.strike_logE (e : LogEntry) : (s.logE e).strike = s.strike := rfl
@[simp] theorem Mach.tocsin_logE (e : LogEntry) : (s.logE e).tocsin = s.tocsin := rfl

/-! ### The queue and the firmware store -/

@[simp] theorem State.pending_with_m (s : State) (m : Mach) : ({ s with m := m } : State).pending = s.pending := rfl
@[simp] theorem State.nv_with_m (s : State) (m : Mach) : ({ s with m := m } : State).nv = s.nv := rfl
@[simp] theorem State.m_with_m (s : State) (m : Mach) : ({ s with m := m } : State).m = m := rfl
@[simp] theorem State.m_with_pending (s : State) (l : List Instr) : ({ s with pending := l } : State).m = s.m := rfl
@[simp] theorem State.nv_with_pending (s : State) (l : List Instr) : ({ s with pending := l } : State).nv = s.nv := rfl

end Sys2Proof.Machine
end

