-- ==== Sys2Proof/Laws/Frames.lean ====
section
/-!
SUPPORT. Frames: what `Only` gives for each part, how frames join, and the frame of each shared operation.
-/
namespace Sys2Proof.Machine

/-! ### One part -/

theorem copyPart_regs (b t : Mach) {p : Part} (h : p ≠ .regs) : (copyPart b t p).regs = t.regs := by cases p <;> first | rfl | exact absurd rfl h
theorem copyPart_staged (b t : Mach) {p : Part} (h : p ≠ .staged) : (copyPart b t p).staged = t.staged := by cases p <;> first | rfl | exact absurd rfl h
theorem copyPart_committed (b t : Mach) {p : Part} (h : p ≠ .committed) : (copyPart b t p).committed = t.committed := by cases p <;> first | rfl | exact absurd rfl h
theorem copyPart_sel (b t : Mach) {p : Part} (h : p ≠ .sel) : (copyPart b t p).sel = t.sel := by cases p <;> first | rfl | exact absurd rfl h
theorem copyPart_heldLo (b t : Mach) {p : Part} (h : p ≠ .heldLo) : (copyPart b t p).heldLo = t.heldLo := by cases p <;> first | rfl | exact absurd rfl h
theorem copyPart_latch (b t : Mach) {p : Part} (h : p ≠ .latch) : (copyPart b t p).latch = t.latch := by cases p <;> first | rfl | exact absurd rfl h
theorem copyPart_now (b t : Mach) {p : Part} (h : p ≠ .now) : (copyPart b t p).now = t.now := by cases p <;> first | rfl | exact absurd rfl h
theorem copyPart_sub (b t : Mach) {p : Part} (h : p ≠ .sub) : (copyPart b t p).sub = t.sub := by cases p <;> first | rfl | exact absurd rfl h
theorem copyPart_freeCtr (b t : Mach) {p : Part} (h : p ≠ .freeCtr) : (copyPart b t p).freeCtr = t.freeCtr := by cases p <;> first | rfl | exact absurd rfl h
theorem copyPart_work (b t : Mach) {p : Part} (h : p ≠ .work) : (copyPart b t p).work = t.work := by cases p <;> first | rfl | exact absurd rfl h
theorem copyPart_out (b t : Mach) {p : Part} (h : p ≠ .out) : (copyPart b t p).out = t.out := by cases p <;> first | rfl | exact absurd rfl h
theorem copyPart_log (b t : Mach) {p : Part} (h : p ≠ .log) : (copyPart b t p).log = t.log := by cases p <;> first | rfl | exact absurd rfl h
theorem copyPart_folds (b t : Mach) {p : Part} (h : p ≠ .folds) : (copyPart b t p).folds = t.folds := by cases p <;> first | rfl | exact absurd rfl h
theorem copyPart_heldLogs (b t : Mach) {p : Part} (h : p ≠ .heldLogs) : (copyPart b t p).heldLogs = t.heldLogs := by cases p <;> first | rfl | exact absurd rfl h
theorem copyPart_heldLogLost (b t : Mach) {p : Part} (h : p ≠ .heldLogLost) : (copyPart b t p).heldLogLost = t.heldLogLost := by cases p <;> first | rfl | exact absurd rfl h
theorem copyPart_heldPosts (b t : Mach) {p : Part} (h : p ≠ .heldPosts) : (copyPart b t p).heldPosts = t.heldPosts := by cases p <;> first | rfl | exact absurd rfl h
theorem copyPart_heldPostsLost (b t : Mach) {p : Part} (h : p ≠ .heldPostsLost) : (copyPart b t p).heldPostsLost = t.heldPostsLost := by cases p <;> first | rfl | exact absurd rfl h
theorem copyPart_hReset (b t : Mach) {p : Part} (h : p ≠ .hReset) : (copyPart b t p).hReset = t.hReset := by cases p <;> first | rfl | exact absurd rfl h
theorem copyPart_mpuClear (b t : Mach) {p : Part} (h : p ≠ .mpuClear) : (copyPart b t p).mpuClear = t.mpuClear := by cases p <;> first | rfl | exact absurd rfl h
theorem copyPart_jq (b t : Mach) {p : Part} (h : p ≠ .jq) : (copyPart b t p).jq = t.jq := by cases p <;> first | rfl | exact absurd rfl h
theorem copyPart_jStarted (b t : Mach) {p : Part} (h : p ≠ .jStarted) : (copyPart b t p).jStarted = t.jStarted := by cases p <;> first | rfl | exact absurd rfl h
theorem copyPart_jDropBoot (b t : Mach) {p : Part} (h : p ≠ .jDropBoot) : (copyPart b t p).jDropBoot = t.jDropBoot := by cases p <;> first | rfl | exact absurd rfl h
theorem copyPart_jDropNojrn (b t : Mach) {p : Part} (h : p ≠ .jDropNojrn) : (copyPart b t p).jDropNojrn = t.jDropNojrn := by cases p <;> first | rfl | exact absurd rfl h
theorem copyPart_jDropDis (b t : Mach) {p : Part} (h : p ≠ .jDropDis) : (copyPart b t p).jDropDis = t.jDropDis := by cases p <;> first | rfl | exact absurd rfl h
theorem copyPart_jDropFull (b t : Mach) {p : Part} (h : p ≠ .jDropFull) : (copyPart b t p).jDropFull = t.jDropFull := by cases p <;> first | rfl | exact absurd rfl h
theorem copyPart_evSlots (b t : Mach) {p : Part} (h : p ≠ .evSlots) : (copyPart b t p).evSlots = t.evSlots := by cases p <;> first | rfl | exact absurd rfl h
theorem copyPart_evHeld (b t : Mach) {p : Part} (h : p ≠ .evHeld) : (copyPart b t p).evHeld = t.evHeld := by cases p <;> first | rfl | exact absurd rfl h
theorem copyPart_mxAcc (b t : Mach) {p : Part} (h : p ≠ .mxAcc) : (copyPart b t p).mxAcc = t.mxAcc := by cases p <;> first | rfl | exact absurd rfl h
theorem copyPart_mxHeld (b t : Mach) {p : Part} (h : p ≠ .mxHeld) : (copyPart b t p).mxHeld = t.mxHeld := by cases p <;> first | rfl | exact absurd rfl h
theorem copyPart_mxEpisode (b t : Mach) {p : Part} (h : p ≠ .mxEpisode) : (copyPart b t p).mxEpisode = t.mxEpisode := by cases p <;> first | rfl | exact absurd rfl h
theorem copyPart_pcie (b t : Mach) {p : Part} (h : p ≠ .pcie) : (copyPart b t p).pcie = t.pcie := by cases p <;> first | rfl | exact absurd rfl h
theorem copyPart_dram (b t : Mach) {p : Part} (h : p ≠ .dram) : (copyPart b t p).dram = t.dram := by cases p <;> first | rfl | exact absurd rfl h
theorem copyPart_dramBad (b t : Mach) {p : Part} (h : p ≠ .dramBad) : (copyPart b t p).dramBad = t.dramBad := by cases p <;> first | rfl | exact absurd rfl h
theorem copyPart_scratch (b t : Mach) {p : Part} (h : p ≠ .scratch) : (copyPart b t p).scratch = t.scratch := by cases p <;> first | rfl | exact absurd rfl h
theorem copyPart_csram (b t : Mach) {p : Part} (h : p ≠ .csram) : (copyPart b t p).csram = t.csram := by cases p <;> first | rfl | exact absurd rfl h
theorem copyPart_isram (b t : Mach) {p : Part} (h : p ≠ .isram) : (copyPart b t p).isram = t.isram := by cases p <;> first | rfl | exact absurd rfl h
theorem copyPart_portQ (b t : Mach) {p : Part} (h : p ≠ .portQ) : (copyPart b t p).portQ = t.portQ := by cases p <;> first | rfl | exact absurd rfl h
theorem copyPart_engines (b t : Mach) {p : Part} (h : p ≠ .engines) : (copyPart b t p).engines = t.engines := by cases p <;> first | rfl | exact absurd rfl h
theorem copyPart_cycles (b t : Mach) {p : Part} (h : p ≠ .cycles) : (copyPart b t p).cycles = t.cycles := by cases p <;> first | rfl | exact absurd rfl h
theorem copyPart_engBase (b t : Mach) {p : Part} (h : p ≠ .engBase) : (copyPart b t p).engBase = t.engBase := by cases p <;> first | rfl | exact absurd rfl h
theorem copyPart_hSkew (b t : Mach) {p : Part} (h : p ≠ .hSkew) : (copyPart b t p).hSkew = t.hSkew := by cases p <;> first | rfl | exact absurd rfl h
theorem copyPart_reqs (b t : Mach) {p : Part} (h : p ≠ .reqs) : (copyPart b t p).reqs = t.reqs := by cases p <;> first | rfl | exact absurd rfl h
theorem copyPart_orphans (b t : Mach) {p : Part} (h : p ≠ .orphans) : (copyPart b t p).orphans = t.orphans := by cases p <;> first | rfl | exact absurd rfl h
theorem copyPart_lateResp (b t : Mach) {p : Part} (h : p ≠ .lateResp) : (copyPart b t p).lateResp = t.lateResp := by cases p <;> first | rfl | exact absurd rfl h
theorem copyPart_noc (b t : Mach) {p : Part} (h : p ≠ .noc) : (copyPart b t p).noc = t.noc := by cases p <;> first | rfl | exact absurd rfl h
theorem copyPart_ring (b t : Mach) {p : Part} (h : p ≠ .ring) : (copyPart b t p).ring = t.ring := by cases p <;> first | rfl | exact absurd rfl h
theorem copyPart_beat (b t : Mach) {p : Part} (h : p ≠ .beat) : (copyPart b t p).beat = t.beat := by cases p <;> first | rfl | exact absurd rfl h
theorem copyPart_ux (b t : Mach) {p : Part} (h : p ≠ .ux) : (copyPart b t p).ux = t.ux := by cases p <;> first | rfl | exact absurd rfl h
theorem copyPart_fenced (b t : Mach) {p : Part} (h : p ≠ .fenced) : (copyPart b t p).fenced = t.fenced := by cases p <;> first | rfl | exact absurd rfl h
theorem copyPart_img (b t : Mach) {p : Part} (h : p ≠ .img) : (copyPart b t p).img = t.img := by cases p <;> first | rfl | exact absurd rfl h
theorem copyPart_movers (b t : Mach) {p : Part} (h : p ≠ .movers) : (copyPart b t p).movers = t.movers := by cases p <;> first | rfl | exact absurd rfl h
theorem copyPart_mvWords (b t : Mach) {p : Part} (h : p ≠ .mvWords) : (copyPart b t p).mvWords = t.mvWords := by cases p <;> first | rfl | exact absurd rfl h
theorem copyPart_jLatch (b t : Mach) {p : Part} (h : p ≠ .jLatch) : (copyPart b t p).jLatch = t.jLatch := by cases p <;> first | rfl | exact absurd rfl h
theorem copyPart_mig (b t : Mach) {p : Part} (h : p ≠ .mig) : (copyPart b t p).mig = t.mig := by cases p <;> first | rfl | exact absurd rfl h
theorem copyPart_dv (b t : Mach) {p : Part} (h : p ≠ .dv) : (copyPart b t p).dv = t.dv := by cases p <;> first | rfl | exact absurd rfl h
theorem copyPart_pw (b t : Mach) {p : Part} (h : p ≠ .pw) : (copyPart b t p).pw = t.pw := by cases p <;> first | rfl | exact absurd rfl h
theorem copyPart_nvLog (b t : Mach) {p : Part} (h : p ≠ .nvLog) : (copyPart b t p).nvLog = t.nvLog := by cases p <;> first | rfl | exact absurd rfl h
theorem copyPart_shadow (b t : Mach) {p : Part} (h : p ≠ .shadow) : (copyPart b t p).shadow = t.shadow := by cases p <;> first | rfl | exact absurd rfl h
theorem copyPart_heldWrites (b t : Mach) {p : Part} (h : p ≠ .heldWrites) : (copyPart b t p).heldWrites = t.heldWrites := by cases p <;> first | rfl | exact absurd rfl h
theorem copyPart_stopped (b t : Mach) {p : Part} (h : p ≠ .stopped) : (copyPart b t p).stopped = t.stopped := by cases p <;> first | rfl | exact absurd rfl h
theorem copyPart_test (b t : Mach) {p : Part} (h : p ≠ .test) : (copyPart b t p).test = t.test := by cases p <;> first | rfl | exact absurd rfl h
theorem copyPart_twin (b t : Mach) {p : Part} (h : p ≠ .twin) : (copyPart b t p).twin = t.twin := by cases p <;> first | rfl | exact absurd rfl h
theorem copyPart_strike (b t : Mach) {p : Part} (h : p ≠ .strike) : (copyPart b t p).strike = t.strike := by cases p <;> first | rfl | exact absurd rfl h
theorem copyPart_tocsin (b t : Mach) {p : Part} (h : p ≠ .tocsin) : (copyPart b t p).tocsin = t.tocsin := by cases p <;> first | rfl | exact absurd rfl h

/-! ### A part that is not named reads as before -/

theorem foldCopy_regs (b : Mach) : ∀ (ps : List Part) (t : Mach), .regs ∉ ps → (ps.foldl (copyPart b) t).regs = t.regs
  | [], _, _ => rfl
  | p :: ps, t, h => by
    rw [List.foldl_cons, foldCopy_regs b ps _ (fun x => h (List.mem_cons_of_mem _ x)), copyPart_regs b t (fun x => h (x ▸ List.mem_cons_self))]
theorem Only.regs {ps : List Part} {a b : Mach} (h : Only ps a b) (hp : Part.regs ∉ ps) : b.regs = a.regs := by
  rw [show b = _ from h, foldCopy_regs b ps a hp]
theorem foldCopy_staged (b : Mach) : ∀ (ps : List Part) (t : Mach), .staged ∉ ps → (ps.foldl (copyPart b) t).staged = t.staged
  | [], _, _ => rfl
  | p :: ps, t, h => by
    rw [List.foldl_cons, foldCopy_staged b ps _ (fun x => h (List.mem_cons_of_mem _ x)), copyPart_staged b t (fun x => h (x ▸ List.mem_cons_self))]
theorem Only.staged {ps : List Part} {a b : Mach} (h : Only ps a b) (hp : Part.staged ∉ ps) : b.staged = a.staged := by
  rw [show b = _ from h, foldCopy_staged b ps a hp]
theorem foldCopy_committed (b : Mach) : ∀ (ps : List Part) (t : Mach), .committed ∉ ps → (ps.foldl (copyPart b) t).committed = t.committed
  | [], _, _ => rfl
  | p :: ps, t, h => by
    rw [List.foldl_cons, foldCopy_committed b ps _ (fun x => h (List.mem_cons_of_mem _ x)), copyPart_committed b t (fun x => h (x ▸ List.mem_cons_self))]
theorem Only.committed {ps : List Part} {a b : Mach} (h : Only ps a b) (hp : Part.committed ∉ ps) : b.committed = a.committed := by
  rw [show b = _ from h, foldCopy_committed b ps a hp]
theorem foldCopy_sel (b : Mach) : ∀ (ps : List Part) (t : Mach), .sel ∉ ps → (ps.foldl (copyPart b) t).sel = t.sel
  | [], _, _ => rfl
  | p :: ps, t, h => by
    rw [List.foldl_cons, foldCopy_sel b ps _ (fun x => h (List.mem_cons_of_mem _ x)), copyPart_sel b t (fun x => h (x ▸ List.mem_cons_self))]
theorem Only.sel {ps : List Part} {a b : Mach} (h : Only ps a b) (hp : Part.sel ∉ ps) : b.sel = a.sel := by
  rw [show b = _ from h, foldCopy_sel b ps a hp]
theorem foldCopy_heldLo (b : Mach) : ∀ (ps : List Part) (t : Mach), .heldLo ∉ ps → (ps.foldl (copyPart b) t).heldLo = t.heldLo
  | [], _, _ => rfl
  | p :: ps, t, h => by
    rw [List.foldl_cons, foldCopy_heldLo b ps _ (fun x => h (List.mem_cons_of_mem _ x)), copyPart_heldLo b t (fun x => h (x ▸ List.mem_cons_self))]
theorem Only.heldLo {ps : List Part} {a b : Mach} (h : Only ps a b) (hp : Part.heldLo ∉ ps) : b.heldLo = a.heldLo := by
  rw [show b = _ from h, foldCopy_heldLo b ps a hp]
theorem foldCopy_latch (b : Mach) : ∀ (ps : List Part) (t : Mach), .latch ∉ ps → (ps.foldl (copyPart b) t).latch = t.latch
  | [], _, _ => rfl
  | p :: ps, t, h => by
    rw [List.foldl_cons, foldCopy_latch b ps _ (fun x => h (List.mem_cons_of_mem _ x)), copyPart_latch b t (fun x => h (x ▸ List.mem_cons_self))]
theorem Only.latch {ps : List Part} {a b : Mach} (h : Only ps a b) (hp : Part.latch ∉ ps) : b.latch = a.latch := by
  rw [show b = _ from h, foldCopy_latch b ps a hp]
theorem foldCopy_now (b : Mach) : ∀ (ps : List Part) (t : Mach), .now ∉ ps → (ps.foldl (copyPart b) t).now = t.now
  | [], _, _ => rfl
  | p :: ps, t, h => by
    rw [List.foldl_cons, foldCopy_now b ps _ (fun x => h (List.mem_cons_of_mem _ x)), copyPart_now b t (fun x => h (x ▸ List.mem_cons_self))]
theorem Only.now {ps : List Part} {a b : Mach} (h : Only ps a b) (hp : Part.now ∉ ps) : b.now = a.now := by
  rw [show b = _ from h, foldCopy_now b ps a hp]
theorem foldCopy_sub (b : Mach) : ∀ (ps : List Part) (t : Mach), .sub ∉ ps → (ps.foldl (copyPart b) t).sub = t.sub
  | [], _, _ => rfl
  | p :: ps, t, h => by
    rw [List.foldl_cons, foldCopy_sub b ps _ (fun x => h (List.mem_cons_of_mem _ x)), copyPart_sub b t (fun x => h (x ▸ List.mem_cons_self))]
theorem Only.sub {ps : List Part} {a b : Mach} (h : Only ps a b) (hp : Part.sub ∉ ps) : b.sub = a.sub := by
  rw [show b = _ from h, foldCopy_sub b ps a hp]
theorem foldCopy_freeCtr (b : Mach) : ∀ (ps : List Part) (t : Mach), .freeCtr ∉ ps → (ps.foldl (copyPart b) t).freeCtr = t.freeCtr
  | [], _, _ => rfl
  | p :: ps, t, h => by
    rw [List.foldl_cons, foldCopy_freeCtr b ps _ (fun x => h (List.mem_cons_of_mem _ x)), copyPart_freeCtr b t (fun x => h (x ▸ List.mem_cons_self))]
theorem Only.freeCtr {ps : List Part} {a b : Mach} (h : Only ps a b) (hp : Part.freeCtr ∉ ps) : b.freeCtr = a.freeCtr := by
  rw [show b = _ from h, foldCopy_freeCtr b ps a hp]
theorem foldCopy_work (b : Mach) : ∀ (ps : List Part) (t : Mach), .work ∉ ps → (ps.foldl (copyPart b) t).work = t.work
  | [], _, _ => rfl
  | p :: ps, t, h => by
    rw [List.foldl_cons, foldCopy_work b ps _ (fun x => h (List.mem_cons_of_mem _ x)), copyPart_work b t (fun x => h (x ▸ List.mem_cons_self))]
theorem Only.work {ps : List Part} {a b : Mach} (h : Only ps a b) (hp : Part.work ∉ ps) : b.work = a.work := by
  rw [show b = _ from h, foldCopy_work b ps a hp]
theorem foldCopy_out (b : Mach) : ∀ (ps : List Part) (t : Mach), .out ∉ ps → (ps.foldl (copyPart b) t).out = t.out
  | [], _, _ => rfl
  | p :: ps, t, h => by
    rw [List.foldl_cons, foldCopy_out b ps _ (fun x => h (List.mem_cons_of_mem _ x)), copyPart_out b t (fun x => h (x ▸ List.mem_cons_self))]
theorem Only.out {ps : List Part} {a b : Mach} (h : Only ps a b) (hp : Part.out ∉ ps) : b.out = a.out := by
  rw [show b = _ from h, foldCopy_out b ps a hp]
theorem foldCopy_log (b : Mach) : ∀ (ps : List Part) (t : Mach), .log ∉ ps → (ps.foldl (copyPart b) t).log = t.log
  | [], _, _ => rfl
  | p :: ps, t, h => by
    rw [List.foldl_cons, foldCopy_log b ps _ (fun x => h (List.mem_cons_of_mem _ x)), copyPart_log b t (fun x => h (x ▸ List.mem_cons_self))]
theorem Only.log {ps : List Part} {a b : Mach} (h : Only ps a b) (hp : Part.log ∉ ps) : b.log = a.log := by
  rw [show b = _ from h, foldCopy_log b ps a hp]
theorem foldCopy_folds (b : Mach) : ∀ (ps : List Part) (t : Mach), .folds ∉ ps → (ps.foldl (copyPart b) t).folds = t.folds
  | [], _, _ => rfl
  | p :: ps, t, h => by
    rw [List.foldl_cons, foldCopy_folds b ps _ (fun x => h (List.mem_cons_of_mem _ x)), copyPart_folds b t (fun x => h (x ▸ List.mem_cons_self))]
theorem Only.folds {ps : List Part} {a b : Mach} (h : Only ps a b) (hp : Part.folds ∉ ps) : b.folds = a.folds := by
  rw [show b = _ from h, foldCopy_folds b ps a hp]
theorem foldCopy_heldLogs (b : Mach) : ∀ (ps : List Part) (t : Mach), .heldLogs ∉ ps → (ps.foldl (copyPart b) t).heldLogs = t.heldLogs
  | [], _, _ => rfl
  | p :: ps, t, h => by
    rw [List.foldl_cons, foldCopy_heldLogs b ps _ (fun x => h (List.mem_cons_of_mem _ x)), copyPart_heldLogs b t (fun x => h (x ▸ List.mem_cons_self))]
theorem Only.heldLogs {ps : List Part} {a b : Mach} (h : Only ps a b) (hp : Part.heldLogs ∉ ps) : b.heldLogs = a.heldLogs := by
  rw [show b = _ from h, foldCopy_heldLogs b ps a hp]
theorem foldCopy_heldLogLost (b : Mach) : ∀ (ps : List Part) (t : Mach), .heldLogLost ∉ ps → (ps.foldl (copyPart b) t).heldLogLost = t.heldLogLost
  | [], _, _ => rfl
  | p :: ps, t, h => by
    rw [List.foldl_cons, foldCopy_heldLogLost b ps _ (fun x => h (List.mem_cons_of_mem _ x)), copyPart_heldLogLost b t (fun x => h (x ▸ List.mem_cons_self))]
theorem Only.heldLogLost {ps : List Part} {a b : Mach} (h : Only ps a b) (hp : Part.heldLogLost ∉ ps) : b.heldLogLost = a.heldLogLost := by
  rw [show b = _ from h, foldCopy_heldLogLost b ps a hp]
theorem foldCopy_heldPosts (b : Mach) : ∀ (ps : List Part) (t : Mach), .heldPosts ∉ ps → (ps.foldl (copyPart b) t).heldPosts = t.heldPosts
  | [], _, _ => rfl
  | p :: ps, t, h => by
    rw [List.foldl_cons, foldCopy_heldPosts b ps _ (fun x => h (List.mem_cons_of_mem _ x)), copyPart_heldPosts b t (fun x => h (x ▸ List.mem_cons_self))]
theorem Only.heldPosts {ps : List Part} {a b : Mach} (h : Only ps a b) (hp : Part.heldPosts ∉ ps) : b.heldPosts = a.heldPosts := by
  rw [show b = _ from h, foldCopy_heldPosts b ps a hp]
theorem foldCopy_heldPostsLost (b : Mach) : ∀ (ps : List Part) (t : Mach), .heldPostsLost ∉ ps → (ps.foldl (copyPart b) t).heldPostsLost = t.heldPostsLost
  | [], _, _ => rfl
  | p :: ps, t, h => by
    rw [List.foldl_cons, foldCopy_heldPostsLost b ps _ (fun x => h (List.mem_cons_of_mem _ x)), copyPart_heldPostsLost b t (fun x => h (x ▸ List.mem_cons_self))]
theorem Only.heldPostsLost {ps : List Part} {a b : Mach} (h : Only ps a b) (hp : Part.heldPostsLost ∉ ps) : b.heldPostsLost = a.heldPostsLost := by
  rw [show b = _ from h, foldCopy_heldPostsLost b ps a hp]
theorem foldCopy_hReset (b : Mach) : ∀ (ps : List Part) (t : Mach), .hReset ∉ ps → (ps.foldl (copyPart b) t).hReset = t.hReset
  | [], _, _ => rfl
  | p :: ps, t, h => by
    rw [List.foldl_cons, foldCopy_hReset b ps _ (fun x => h (List.mem_cons_of_mem _ x)), copyPart_hReset b t (fun x => h (x ▸ List.mem_cons_self))]
theorem Only.hReset {ps : List Part} {a b : Mach} (h : Only ps a b) (hp : Part.hReset ∉ ps) : b.hReset = a.hReset := by
  rw [show b = _ from h, foldCopy_hReset b ps a hp]
theorem foldCopy_mpuClear (b : Mach) : ∀ (ps : List Part) (t : Mach), .mpuClear ∉ ps → (ps.foldl (copyPart b) t).mpuClear = t.mpuClear
  | [], _, _ => rfl
  | p :: ps, t, h => by
    rw [List.foldl_cons, foldCopy_mpuClear b ps _ (fun x => h (List.mem_cons_of_mem _ x)), copyPart_mpuClear b t (fun x => h (x ▸ List.mem_cons_self))]
theorem Only.mpuClear {ps : List Part} {a b : Mach} (h : Only ps a b) (hp : Part.mpuClear ∉ ps) : b.mpuClear = a.mpuClear := by
  rw [show b = _ from h, foldCopy_mpuClear b ps a hp]
theorem foldCopy_jq (b : Mach) : ∀ (ps : List Part) (t : Mach), .jq ∉ ps → (ps.foldl (copyPart b) t).jq = t.jq
  | [], _, _ => rfl
  | p :: ps, t, h => by
    rw [List.foldl_cons, foldCopy_jq b ps _ (fun x => h (List.mem_cons_of_mem _ x)), copyPart_jq b t (fun x => h (x ▸ List.mem_cons_self))]
theorem Only.jq {ps : List Part} {a b : Mach} (h : Only ps a b) (hp : Part.jq ∉ ps) : b.jq = a.jq := by
  rw [show b = _ from h, foldCopy_jq b ps a hp]
theorem foldCopy_jStarted (b : Mach) : ∀ (ps : List Part) (t : Mach), .jStarted ∉ ps → (ps.foldl (copyPart b) t).jStarted = t.jStarted
  | [], _, _ => rfl
  | p :: ps, t, h => by
    rw [List.foldl_cons, foldCopy_jStarted b ps _ (fun x => h (List.mem_cons_of_mem _ x)), copyPart_jStarted b t (fun x => h (x ▸ List.mem_cons_self))]
theorem Only.jStarted {ps : List Part} {a b : Mach} (h : Only ps a b) (hp : Part.jStarted ∉ ps) : b.jStarted = a.jStarted := by
  rw [show b = _ from h, foldCopy_jStarted b ps a hp]
theorem foldCopy_jDropBoot (b : Mach) : ∀ (ps : List Part) (t : Mach), .jDropBoot ∉ ps → (ps.foldl (copyPart b) t).jDropBoot = t.jDropBoot
  | [], _, _ => rfl
  | p :: ps, t, h => by
    rw [List.foldl_cons, foldCopy_jDropBoot b ps _ (fun x => h (List.mem_cons_of_mem _ x)), copyPart_jDropBoot b t (fun x => h (x ▸ List.mem_cons_self))]
theorem Only.jDropBoot {ps : List Part} {a b : Mach} (h : Only ps a b) (hp : Part.jDropBoot ∉ ps) : b.jDropBoot = a.jDropBoot := by
  rw [show b = _ from h, foldCopy_jDropBoot b ps a hp]
theorem foldCopy_jDropNojrn (b : Mach) : ∀ (ps : List Part) (t : Mach), .jDropNojrn ∉ ps → (ps.foldl (copyPart b) t).jDropNojrn = t.jDropNojrn
  | [], _, _ => rfl
  | p :: ps, t, h => by
    rw [List.foldl_cons, foldCopy_jDropNojrn b ps _ (fun x => h (List.mem_cons_of_mem _ x)), copyPart_jDropNojrn b t (fun x => h (x ▸ List.mem_cons_self))]
theorem Only.jDropNojrn {ps : List Part} {a b : Mach} (h : Only ps a b) (hp : Part.jDropNojrn ∉ ps) : b.jDropNojrn = a.jDropNojrn := by
  rw [show b = _ from h, foldCopy_jDropNojrn b ps a hp]
theorem foldCopy_jDropDis (b : Mach) : ∀ (ps : List Part) (t : Mach), .jDropDis ∉ ps → (ps.foldl (copyPart b) t).jDropDis = t.jDropDis
  | [], _, _ => rfl
  | p :: ps, t, h => by
    rw [List.foldl_cons, foldCopy_jDropDis b ps _ (fun x => h (List.mem_cons_of_mem _ x)), copyPart_jDropDis b t (fun x => h (x ▸ List.mem_cons_self))]
theorem Only.jDropDis {ps : List Part} {a b : Mach} (h : Only ps a b) (hp : Part.jDropDis ∉ ps) : b.jDropDis = a.jDropDis := by
  rw [show b = _ from h, foldCopy_jDropDis b ps a hp]
theorem foldCopy_jDropFull (b : Mach) : ∀ (ps : List Part) (t : Mach), .jDropFull ∉ ps → (ps.foldl (copyPart b) t).jDropFull = t.jDropFull
  | [], _, _ => rfl
  | p :: ps, t, h => by
    rw [List.foldl_cons, foldCopy_jDropFull b ps _ (fun x => h (List.mem_cons_of_mem _ x)), copyPart_jDropFull b t (fun x => h (x ▸ List.mem_cons_self))]
theorem Only.jDropFull {ps : List Part} {a b : Mach} (h : Only ps a b) (hp : Part.jDropFull ∉ ps) : b.jDropFull = a.jDropFull := by
  rw [show b = _ from h, foldCopy_jDropFull b ps a hp]
theorem foldCopy_evSlots (b : Mach) : ∀ (ps : List Part) (t : Mach), .evSlots ∉ ps → (ps.foldl (copyPart b) t).evSlots = t.evSlots
  | [], _, _ => rfl
  | p :: ps, t, h => by
    rw [List.foldl_cons, foldCopy_evSlots b ps _ (fun x => h (List.mem_cons_of_mem _ x)), copyPart_evSlots b t (fun x => h (x ▸ List.mem_cons_self))]
theorem Only.evSlots {ps : List Part} {a b : Mach} (h : Only ps a b) (hp : Part.evSlots ∉ ps) : b.evSlots = a.evSlots := by
  rw [show b = _ from h, foldCopy_evSlots b ps a hp]
theorem foldCopy_evHeld (b : Mach) : ∀ (ps : List Part) (t : Mach), .evHeld ∉ ps → (ps.foldl (copyPart b) t).evHeld = t.evHeld
  | [], _, _ => rfl
  | p :: ps, t, h => by
    rw [List.foldl_cons, foldCopy_evHeld b ps _ (fun x => h (List.mem_cons_of_mem _ x)), copyPart_evHeld b t (fun x => h (x ▸ List.mem_cons_self))]
theorem Only.evHeld {ps : List Part} {a b : Mach} (h : Only ps a b) (hp : Part.evHeld ∉ ps) : b.evHeld = a.evHeld := by
  rw [show b = _ from h, foldCopy_evHeld b ps a hp]
theorem foldCopy_mxAcc (b : Mach) : ∀ (ps : List Part) (t : Mach), .mxAcc ∉ ps → (ps.foldl (copyPart b) t).mxAcc = t.mxAcc
  | [], _, _ => rfl
  | p :: ps, t, h => by
    rw [List.foldl_cons, foldCopy_mxAcc b ps _ (fun x => h (List.mem_cons_of_mem _ x)), copyPart_mxAcc b t (fun x => h (x ▸ List.mem_cons_self))]
theorem Only.mxAcc {ps : List Part} {a b : Mach} (h : Only ps a b) (hp : Part.mxAcc ∉ ps) : b.mxAcc = a.mxAcc := by
  rw [show b = _ from h, foldCopy_mxAcc b ps a hp]
theorem foldCopy_mxHeld (b : Mach) : ∀ (ps : List Part) (t : Mach), .mxHeld ∉ ps → (ps.foldl (copyPart b) t).mxHeld = t.mxHeld
  | [], _, _ => rfl
  | p :: ps, t, h => by
    rw [List.foldl_cons, foldCopy_mxHeld b ps _ (fun x => h (List.mem_cons_of_mem _ x)), copyPart_mxHeld b t (fun x => h (x ▸ List.mem_cons_self))]
theorem Only.mxHeld {ps : List Part} {a b : Mach} (h : Only ps a b) (hp : Part.mxHeld ∉ ps) : b.mxHeld = a.mxHeld := by
  rw [show b = _ from h, foldCopy_mxHeld b ps a hp]
theorem foldCopy_mxEpisode (b : Mach) : ∀ (ps : List Part) (t : Mach), .mxEpisode ∉ ps → (ps.foldl (copyPart b) t).mxEpisode = t.mxEpisode
  | [], _, _ => rfl
  | p :: ps, t, h => by
    rw [List.foldl_cons, foldCopy_mxEpisode b ps _ (fun x => h (List.mem_cons_of_mem _ x)), copyPart_mxEpisode b t (fun x => h (x ▸ List.mem_cons_self))]
theorem Only.mxEpisode {ps : List Part} {a b : Mach} (h : Only ps a b) (hp : Part.mxEpisode ∉ ps) : b.mxEpisode = a.mxEpisode := by
  rw [show b = _ from h, foldCopy_mxEpisode b ps a hp]
theorem foldCopy_pcie (b : Mach) : ∀ (ps : List Part) (t : Mach), .pcie ∉ ps → (ps.foldl (copyPart b) t).pcie = t.pcie
  | [], _, _ => rfl
  | p :: ps, t, h => by
    rw [List.foldl_cons, foldCopy_pcie b ps _ (fun x => h (List.mem_cons_of_mem _ x)), copyPart_pcie b t (fun x => h (x ▸ List.mem_cons_self))]
theorem Only.pcie {ps : List Part} {a b : Mach} (h : Only ps a b) (hp : Part.pcie ∉ ps) : b.pcie = a.pcie := by
  rw [show b = _ from h, foldCopy_pcie b ps a hp]
theorem foldCopy_dram (b : Mach) : ∀ (ps : List Part) (t : Mach), .dram ∉ ps → (ps.foldl (copyPart b) t).dram = t.dram
  | [], _, _ => rfl
  | p :: ps, t, h => by
    rw [List.foldl_cons, foldCopy_dram b ps _ (fun x => h (List.mem_cons_of_mem _ x)), copyPart_dram b t (fun x => h (x ▸ List.mem_cons_self))]
theorem Only.dram {ps : List Part} {a b : Mach} (h : Only ps a b) (hp : Part.dram ∉ ps) : b.dram = a.dram := by
  rw [show b = _ from h, foldCopy_dram b ps a hp]
theorem foldCopy_dramBad (b : Mach) : ∀ (ps : List Part) (t : Mach), .dramBad ∉ ps → (ps.foldl (copyPart b) t).dramBad = t.dramBad
  | [], _, _ => rfl
  | p :: ps, t, h => by
    rw [List.foldl_cons, foldCopy_dramBad b ps _ (fun x => h (List.mem_cons_of_mem _ x)), copyPart_dramBad b t (fun x => h (x ▸ List.mem_cons_self))]
theorem Only.dramBad {ps : List Part} {a b : Mach} (h : Only ps a b) (hp : Part.dramBad ∉ ps) : b.dramBad = a.dramBad := by
  rw [show b = _ from h, foldCopy_dramBad b ps a hp]
theorem foldCopy_scratch (b : Mach) : ∀ (ps : List Part) (t : Mach), .scratch ∉ ps → (ps.foldl (copyPart b) t).scratch = t.scratch
  | [], _, _ => rfl
  | p :: ps, t, h => by
    rw [List.foldl_cons, foldCopy_scratch b ps _ (fun x => h (List.mem_cons_of_mem _ x)), copyPart_scratch b t (fun x => h (x ▸ List.mem_cons_self))]
theorem Only.scratch {ps : List Part} {a b : Mach} (h : Only ps a b) (hp : Part.scratch ∉ ps) : b.scratch = a.scratch := by
  rw [show b = _ from h, foldCopy_scratch b ps a hp]
theorem foldCopy_csram (b : Mach) : ∀ (ps : List Part) (t : Mach), .csram ∉ ps → (ps.foldl (copyPart b) t).csram = t.csram
  | [], _, _ => rfl
  | p :: ps, t, h => by
    rw [List.foldl_cons, foldCopy_csram b ps _ (fun x => h (List.mem_cons_of_mem _ x)), copyPart_csram b t (fun x => h (x ▸ List.mem_cons_self))]
theorem Only.csram {ps : List Part} {a b : Mach} (h : Only ps a b) (hp : Part.csram ∉ ps) : b.csram = a.csram := by
  rw [show b = _ from h, foldCopy_csram b ps a hp]
theorem foldCopy_isram (b : Mach) : ∀ (ps : List Part) (t : Mach), .isram ∉ ps → (ps.foldl (copyPart b) t).isram = t.isram
  | [], _, _ => rfl
  | p :: ps, t, h => by
    rw [List.foldl_cons, foldCopy_isram b ps _ (fun x => h (List.mem_cons_of_mem _ x)), copyPart_isram b t (fun x => h (x ▸ List.mem_cons_self))]
theorem Only.isram {ps : List Part} {a b : Mach} (h : Only ps a b) (hp : Part.isram ∉ ps) : b.isram = a.isram := by
  rw [show b = _ from h, foldCopy_isram b ps a hp]
theorem foldCopy_portQ (b : Mach) : ∀ (ps : List Part) (t : Mach), .portQ ∉ ps → (ps.foldl (copyPart b) t).portQ = t.portQ
  | [], _, _ => rfl
  | p :: ps, t, h => by
    rw [List.foldl_cons, foldCopy_portQ b ps _ (fun x => h (List.mem_cons_of_mem _ x)), copyPart_portQ b t (fun x => h (x ▸ List.mem_cons_self))]
theorem Only.portQ {ps : List Part} {a b : Mach} (h : Only ps a b) (hp : Part.portQ ∉ ps) : b.portQ = a.portQ := by
  rw [show b = _ from h, foldCopy_portQ b ps a hp]
theorem foldCopy_engines (b : Mach) : ∀ (ps : List Part) (t : Mach), .engines ∉ ps → (ps.foldl (copyPart b) t).engines = t.engines
  | [], _, _ => rfl
  | p :: ps, t, h => by
    rw [List.foldl_cons, foldCopy_engines b ps _ (fun x => h (List.mem_cons_of_mem _ x)), copyPart_engines b t (fun x => h (x ▸ List.mem_cons_self))]
theorem Only.engines {ps : List Part} {a b : Mach} (h : Only ps a b) (hp : Part.engines ∉ ps) : b.engines = a.engines := by
  rw [show b = _ from h, foldCopy_engines b ps a hp]
theorem foldCopy_cycles (b : Mach) : ∀ (ps : List Part) (t : Mach), .cycles ∉ ps → (ps.foldl (copyPart b) t).cycles = t.cycles
  | [], _, _ => rfl
  | p :: ps, t, h => by
    rw [List.foldl_cons, foldCopy_cycles b ps _ (fun x => h (List.mem_cons_of_mem _ x)), copyPart_cycles b t (fun x => h (x ▸ List.mem_cons_self))]
theorem Only.cycles {ps : List Part} {a b : Mach} (h : Only ps a b) (hp : Part.cycles ∉ ps) : b.cycles = a.cycles := by
  rw [show b = _ from h, foldCopy_cycles b ps a hp]
theorem foldCopy_engBase (b : Mach) : ∀ (ps : List Part) (t : Mach), .engBase ∉ ps → (ps.foldl (copyPart b) t).engBase = t.engBase
  | [], _, _ => rfl
  | p :: ps, t, h => by
    rw [List.foldl_cons, foldCopy_engBase b ps _ (fun x => h (List.mem_cons_of_mem _ x)), copyPart_engBase b t (fun x => h (x ▸ List.mem_cons_self))]
theorem Only.engBase {ps : List Part} {a b : Mach} (h : Only ps a b) (hp : Part.engBase ∉ ps) : b.engBase = a.engBase := by
  rw [show b = _ from h, foldCopy_engBase b ps a hp]
theorem foldCopy_hSkew (b : Mach) : ∀ (ps : List Part) (t : Mach), .hSkew ∉ ps → (ps.foldl (copyPart b) t).hSkew = t.hSkew
  | [], _, _ => rfl
  | p :: ps, t, h => by
    rw [List.foldl_cons, foldCopy_hSkew b ps _ (fun x => h (List.mem_cons_of_mem _ x)), copyPart_hSkew b t (fun x => h (x ▸ List.mem_cons_self))]
theorem Only.hSkew {ps : List Part} {a b : Mach} (h : Only ps a b) (hp : Part.hSkew ∉ ps) : b.hSkew = a.hSkew := by
  rw [show b = _ from h, foldCopy_hSkew b ps a hp]
theorem foldCopy_reqs (b : Mach) : ∀ (ps : List Part) (t : Mach), .reqs ∉ ps → (ps.foldl (copyPart b) t).reqs = t.reqs
  | [], _, _ => rfl
  | p :: ps, t, h => by
    rw [List.foldl_cons, foldCopy_reqs b ps _ (fun x => h (List.mem_cons_of_mem _ x)), copyPart_reqs b t (fun x => h (x ▸ List.mem_cons_self))]
theorem Only.reqs {ps : List Part} {a b : Mach} (h : Only ps a b) (hp : Part.reqs ∉ ps) : b.reqs = a.reqs := by
  rw [show b = _ from h, foldCopy_reqs b ps a hp]
theorem foldCopy_orphans (b : Mach) : ∀ (ps : List Part) (t : Mach), .orphans ∉ ps → (ps.foldl (copyPart b) t).orphans = t.orphans
  | [], _, _ => rfl
  | p :: ps, t, h => by
    rw [List.foldl_cons, foldCopy_orphans b ps _ (fun x => h (List.mem_cons_of_mem _ x)), copyPart_orphans b t (fun x => h (x ▸ List.mem_cons_self))]
theorem Only.orphans {ps : List Part} {a b : Mach} (h : Only ps a b) (hp : Part.orphans ∉ ps) : b.orphans = a.orphans := by
  rw [show b = _ from h, foldCopy_orphans b ps a hp]
theorem foldCopy_lateResp (b : Mach) : ∀ (ps : List Part) (t : Mach), .lateResp ∉ ps → (ps.foldl (copyPart b) t).lateResp = t.lateResp
  | [], _, _ => rfl
  | p :: ps, t, h => by
    rw [List.foldl_cons, foldCopy_lateResp b ps _ (fun x => h (List.mem_cons_of_mem _ x)), copyPart_lateResp b t (fun x => h (x ▸ List.mem_cons_self))]
theorem Only.lateResp {ps : List Part} {a b : Mach} (h : Only ps a b) (hp : Part.lateResp ∉ ps) : b.lateResp = a.lateResp := by
  rw [show b = _ from h, foldCopy_lateResp b ps a hp]
theorem foldCopy_noc (b : Mach) : ∀ (ps : List Part) (t : Mach), .noc ∉ ps → (ps.foldl (copyPart b) t).noc = t.noc
  | [], _, _ => rfl
  | p :: ps, t, h => by
    rw [List.foldl_cons, foldCopy_noc b ps _ (fun x => h (List.mem_cons_of_mem _ x)), copyPart_noc b t (fun x => h (x ▸ List.mem_cons_self))]
theorem Only.noc {ps : List Part} {a b : Mach} (h : Only ps a b) (hp : Part.noc ∉ ps) : b.noc = a.noc := by
  rw [show b = _ from h, foldCopy_noc b ps a hp]
theorem foldCopy_ring (b : Mach) : ∀ (ps : List Part) (t : Mach), .ring ∉ ps → (ps.foldl (copyPart b) t).ring = t.ring
  | [], _, _ => rfl
  | p :: ps, t, h => by
    rw [List.foldl_cons, foldCopy_ring b ps _ (fun x => h (List.mem_cons_of_mem _ x)), copyPart_ring b t (fun x => h (x ▸ List.mem_cons_self))]
theorem Only.ring {ps : List Part} {a b : Mach} (h : Only ps a b) (hp : Part.ring ∉ ps) : b.ring = a.ring := by
  rw [show b = _ from h, foldCopy_ring b ps a hp]
theorem foldCopy_beat (b : Mach) : ∀ (ps : List Part) (t : Mach), .beat ∉ ps → (ps.foldl (copyPart b) t).beat = t.beat
  | [], _, _ => rfl
  | p :: ps, t, h => by
    rw [List.foldl_cons, foldCopy_beat b ps _ (fun x => h (List.mem_cons_of_mem _ x)), copyPart_beat b t (fun x => h (x ▸ List.mem_cons_self))]
theorem Only.beat {ps : List Part} {a b : Mach} (h : Only ps a b) (hp : Part.beat ∉ ps) : b.beat = a.beat := by
  rw [show b = _ from h, foldCopy_beat b ps a hp]
theorem foldCopy_ux (b : Mach) : ∀ (ps : List Part) (t : Mach), .ux ∉ ps → (ps.foldl (copyPart b) t).ux = t.ux
  | [], _, _ => rfl
  | p :: ps, t, h => by
    rw [List.foldl_cons, foldCopy_ux b ps _ (fun x => h (List.mem_cons_of_mem _ x)), copyPart_ux b t (fun x => h (x ▸ List.mem_cons_self))]
theorem Only.ux {ps : List Part} {a b : Mach} (h : Only ps a b) (hp : Part.ux ∉ ps) : b.ux = a.ux := by
  rw [show b = _ from h, foldCopy_ux b ps a hp]
theorem foldCopy_fenced (b : Mach) : ∀ (ps : List Part) (t : Mach), .fenced ∉ ps → (ps.foldl (copyPart b) t).fenced = t.fenced
  | [], _, _ => rfl
  | p :: ps, t, h => by
    rw [List.foldl_cons, foldCopy_fenced b ps _ (fun x => h (List.mem_cons_of_mem _ x)), copyPart_fenced b t (fun x => h (x ▸ List.mem_cons_self))]
theorem Only.fenced {ps : List Part} {a b : Mach} (h : Only ps a b) (hp : Part.fenced ∉ ps) : b.fenced = a.fenced := by
  rw [show b = _ from h, foldCopy_fenced b ps a hp]
theorem foldCopy_img (b : Mach) : ∀ (ps : List Part) (t : Mach), .img ∉ ps → (ps.foldl (copyPart b) t).img = t.img
  | [], _, _ => rfl
  | p :: ps, t, h => by
    rw [List.foldl_cons, foldCopy_img b ps _ (fun x => h (List.mem_cons_of_mem _ x)), copyPart_img b t (fun x => h (x ▸ List.mem_cons_self))]
theorem Only.img {ps : List Part} {a b : Mach} (h : Only ps a b) (hp : Part.img ∉ ps) : b.img = a.img := by
  rw [show b = _ from h, foldCopy_img b ps a hp]
theorem foldCopy_movers (b : Mach) : ∀ (ps : List Part) (t : Mach), .movers ∉ ps → (ps.foldl (copyPart b) t).movers = t.movers
  | [], _, _ => rfl
  | p :: ps, t, h => by
    rw [List.foldl_cons, foldCopy_movers b ps _ (fun x => h (List.mem_cons_of_mem _ x)), copyPart_movers b t (fun x => h (x ▸ List.mem_cons_self))]
theorem Only.movers {ps : List Part} {a b : Mach} (h : Only ps a b) (hp : Part.movers ∉ ps) : b.movers = a.movers := by
  rw [show b = _ from h, foldCopy_movers b ps a hp]
theorem foldCopy_mvWords (b : Mach) : ∀ (ps : List Part) (t : Mach), .mvWords ∉ ps → (ps.foldl (copyPart b) t).mvWords = t.mvWords
  | [], _, _ => rfl
  | p :: ps, t, h => by
    rw [List.foldl_cons, foldCopy_mvWords b ps _ (fun x => h (List.mem_cons_of_mem _ x)), copyPart_mvWords b t (fun x => h (x ▸ List.mem_cons_self))]
theorem Only.mvWords {ps : List Part} {a b : Mach} (h : Only ps a b) (hp : Part.mvWords ∉ ps) : b.mvWords = a.mvWords := by
  rw [show b = _ from h, foldCopy_mvWords b ps a hp]
theorem foldCopy_jLatch (b : Mach) : ∀ (ps : List Part) (t : Mach), .jLatch ∉ ps → (ps.foldl (copyPart b) t).jLatch = t.jLatch
  | [], _, _ => rfl
  | p :: ps, t, h => by
    rw [List.foldl_cons, foldCopy_jLatch b ps _ (fun x => h (List.mem_cons_of_mem _ x)), copyPart_jLatch b t (fun x => h (x ▸ List.mem_cons_self))]
theorem Only.jLatch {ps : List Part} {a b : Mach} (h : Only ps a b) (hp : Part.jLatch ∉ ps) : b.jLatch = a.jLatch := by
  rw [show b = _ from h, foldCopy_jLatch b ps a hp]
theorem foldCopy_mig (b : Mach) : ∀ (ps : List Part) (t : Mach), .mig ∉ ps → (ps.foldl (copyPart b) t).mig = t.mig
  | [], _, _ => rfl
  | p :: ps, t, h => by
    rw [List.foldl_cons, foldCopy_mig b ps _ (fun x => h (List.mem_cons_of_mem _ x)), copyPart_mig b t (fun x => h (x ▸ List.mem_cons_self))]
theorem Only.mig {ps : List Part} {a b : Mach} (h : Only ps a b) (hp : Part.mig ∉ ps) : b.mig = a.mig := by
  rw [show b = _ from h, foldCopy_mig b ps a hp]
theorem foldCopy_dv (b : Mach) : ∀ (ps : List Part) (t : Mach), .dv ∉ ps → (ps.foldl (copyPart b) t).dv = t.dv
  | [], _, _ => rfl
  | p :: ps, t, h => by
    rw [List.foldl_cons, foldCopy_dv b ps _ (fun x => h (List.mem_cons_of_mem _ x)), copyPart_dv b t (fun x => h (x ▸ List.mem_cons_self))]
theorem Only.dv {ps : List Part} {a b : Mach} (h : Only ps a b) (hp : Part.dv ∉ ps) : b.dv = a.dv := by
  rw [show b = _ from h, foldCopy_dv b ps a hp]
theorem foldCopy_pw (b : Mach) : ∀ (ps : List Part) (t : Mach), .pw ∉ ps → (ps.foldl (copyPart b) t).pw = t.pw
  | [], _, _ => rfl
  | p :: ps, t, h => by
    rw [List.foldl_cons, foldCopy_pw b ps _ (fun x => h (List.mem_cons_of_mem _ x)), copyPart_pw b t (fun x => h (x ▸ List.mem_cons_self))]
theorem Only.pw {ps : List Part} {a b : Mach} (h : Only ps a b) (hp : Part.pw ∉ ps) : b.pw = a.pw := by
  rw [show b = _ from h, foldCopy_pw b ps a hp]
theorem foldCopy_nvLog (b : Mach) : ∀ (ps : List Part) (t : Mach), .nvLog ∉ ps → (ps.foldl (copyPart b) t).nvLog = t.nvLog
  | [], _, _ => rfl
  | p :: ps, t, h => by
    rw [List.foldl_cons, foldCopy_nvLog b ps _ (fun x => h (List.mem_cons_of_mem _ x)), copyPart_nvLog b t (fun x => h (x ▸ List.mem_cons_self))]
theorem Only.nvLog {ps : List Part} {a b : Mach} (h : Only ps a b) (hp : Part.nvLog ∉ ps) : b.nvLog = a.nvLog := by
  rw [show b = _ from h, foldCopy_nvLog b ps a hp]
theorem foldCopy_shadow (b : Mach) : ∀ (ps : List Part) (t : Mach), .shadow ∉ ps → (ps.foldl (copyPart b) t).shadow = t.shadow
  | [], _, _ => rfl
  | p :: ps, t, h => by
    rw [List.foldl_cons, foldCopy_shadow b ps _ (fun x => h (List.mem_cons_of_mem _ x)), copyPart_shadow b t (fun x => h (x ▸ List.mem_cons_self))]
theorem Only.shadow {ps : List Part} {a b : Mach} (h : Only ps a b) (hp : Part.shadow ∉ ps) : b.shadow = a.shadow := by
  rw [show b = _ from h, foldCopy_shadow b ps a hp]
theorem foldCopy_heldWrites (b : Mach) : ∀ (ps : List Part) (t : Mach), .heldWrites ∉ ps → (ps.foldl (copyPart b) t).heldWrites = t.heldWrites
  | [], _, _ => rfl
  | p :: ps, t, h => by
    rw [List.foldl_cons, foldCopy_heldWrites b ps _ (fun x => h (List.mem_cons_of_mem _ x)), copyPart_heldWrites b t (fun x => h (x ▸ List.mem_cons_self))]
theorem Only.heldWrites {ps : List Part} {a b : Mach} (h : Only ps a b) (hp : Part.heldWrites ∉ ps) : b.heldWrites = a.heldWrites := by
  rw [show b = _ from h, foldCopy_heldWrites b ps a hp]
theorem foldCopy_stopped (b : Mach) : ∀ (ps : List Part) (t : Mach), .stopped ∉ ps → (ps.foldl (copyPart b) t).stopped = t.stopped
  | [], _, _ => rfl
  | p :: ps, t, h => by
    rw [List.foldl_cons, foldCopy_stopped b ps _ (fun x => h (List.mem_cons_of_mem _ x)), copyPart_stopped b t (fun x => h (x ▸ List.mem_cons_self))]
theorem Only.stopped {ps : List Part} {a b : Mach} (h : Only ps a b) (hp : Part.stopped ∉ ps) : b.stopped = a.stopped := by
  rw [show b = _ from h, foldCopy_stopped b ps a hp]
theorem foldCopy_test (b : Mach) : ∀ (ps : List Part) (t : Mach), .test ∉ ps → (ps.foldl (copyPart b) t).test = t.test
  | [], _, _ => rfl
  | p :: ps, t, h => by
    rw [List.foldl_cons, foldCopy_test b ps _ (fun x => h (List.mem_cons_of_mem _ x)), copyPart_test b t (fun x => h (x ▸ List.mem_cons_self))]
theorem Only.test {ps : List Part} {a b : Mach} (h : Only ps a b) (hp : Part.test ∉ ps) : b.test = a.test := by
  rw [show b = _ from h, foldCopy_test b ps a hp]
theorem foldCopy_twin (b : Mach) : ∀ (ps : List Part) (t : Mach), .twin ∉ ps → (ps.foldl (copyPart b) t).twin = t.twin
  | [], _, _ => rfl
  | p :: ps, t, h => by
    rw [List.foldl_cons, foldCopy_twin b ps _ (fun x => h (List.mem_cons_of_mem _ x)), copyPart_twin b t (fun x => h (x ▸ List.mem_cons_self))]
theorem Only.twin {ps : List Part} {a b : Mach} (h : Only ps a b) (hp : Part.twin ∉ ps) : b.twin = a.twin := by
  rw [show b = _ from h, foldCopy_twin b ps a hp]
theorem foldCopy_strike (b : Mach) : ∀ (ps : List Part) (t : Mach), .strike ∉ ps → (ps.foldl (copyPart b) t).strike = t.strike
  | [], _, _ => rfl
  | p :: ps, t, h => by
    rw [List.foldl_cons, foldCopy_strike b ps _ (fun x => h (List.mem_cons_of_mem _ x)), copyPart_strike b t (fun x => h (x ▸ List.mem_cons_self))]
theorem Only.strike {ps : List Part} {a b : Mach} (h : Only ps a b) (hp : Part.strike ∉ ps) : b.strike = a.strike := by
  rw [show b = _ from h, foldCopy_strike b ps a hp]
theorem foldCopy_tocsin (b : Mach) : ∀ (ps : List Part) (t : Mach), .tocsin ∉ ps → (ps.foldl (copyPart b) t).tocsin = t.tocsin
  | [], _, _ => rfl
  | p :: ps, t, h => by
    rw [List.foldl_cons, foldCopy_tocsin b ps _ (fun x => h (List.mem_cons_of_mem _ x)), copyPart_tocsin b t (fun x => h (x ▸ List.mem_cons_self))]
theorem Only.tocsin {ps : List Part} {a b : Mach} (h : Only ps a b) (hp : Part.tocsin ∉ ps) : b.tocsin = a.tocsin := by
  rw [show b = _ from h, foldCopy_tocsin b ps a hp]

/-! ### Every part named, or equal already -/

/-- A change confined to one part. -/
theorem Only.refl (ps : List Part) (a : Mach) : Only ps a a := by
  have h : ∀ (qs : List Part), qs.foldl (copyPart a) a = a := by
    intro qs
    induction qs with
    | nil => rfl
    | cons p qs ih => rw [List.foldl_cons, show copyPart a a p = a by cases p <;> rfl, ih]
  exact (h ps).symm

/-- A register outside those written reads as before. -/
theorem OnlyRegs.refl (ks : List Nat) (a : Mach) : OnlyRegs ks a a := fun _ _ => rfl
theorem OnlyRegs.trans {ks ls : List Nat} {a b c : Mach} (h : OnlyRegs ks a b) (g : OnlyRegs ls b c) : OnlyRegs (ks ++ ls) a c := fun k hk =>
  (g k (fun x => hk (List.mem_append_right _ x))).trans (h k (fun x => hk (List.mem_append_left _ x)))
theorem OnlyRegs.mono {ks ls : List Nat} {a b : Mach} (h : OnlyRegs ks a b) (hs : ∀ k, k ∈ ks → k ∈ ls) : OnlyRegs ls a b := fun k hk =>
  h k (fun x => hk (hs k x))

/-! ### The shared operations -/

theorem only_setR (s : Mach) (k : Nat) (v : U64) : Only [.regs] s (s.setR k v) := rfl
theorem only_setN (s : Mach) (k x : Nat) : Only [.regs] s (s.setN k x) := rfl
theorem only_setF (s : Mach) (x : RF) (v : Nat) : Only [.regs] s (s.setF x v) := rfl
theorem only_setSt (s : Mach) (k : Nat) (v : U64) : Only [.staged] s (s.setSt k v) := rfl
theorem only_inc (s : Mach) (k : Nat) : Only [.regs] s (s.inc k) := rfl
theorem only_push (s : Mach) (w : Work) : Only [.work] s (s.push w) := rfl
theorem only_logE (s : Mach) (e : LogEntry) : Only [.work] s (s.logE e) := rfl
theorem only_raise (s : Mach) (x : RF) : Only [.regs, .work] s (s.raise x) := rfl
theorem only_raiseEng (s : Mach) (x : RF) (e : Nat) : Only [.regs, .work] s (s.raiseEng x e) := rfl
theorem only_raiseStn (s : Mach) (x : RF) (e : Nat) : Only [.regs, .work] s (s.raiseStn x e) := rfl
theorem only_emit (s : Mach) (o : Out) : Only [.out] s (s.emit o) := rfl
theorem only_setEng (s : Mach) (e : Nat) (x : Engine) : Only [.engines] s (s.setEng e x) := rfl
theorem only_setPortq (s : Mach) (c : Nat) (l : List PortStore) : Only [.portQ] s (s.setPortq c l) := rfl
theorem only_setUxp (s : Mach) (p : Nat) (x : UxPort) : Only [.ux] s (s.setUxp p x) := rfl
theorem only_setRport (s : Mach) (p : Nat) (x : PortSt) : Only [.ring] s (s.setRport p x) := rfl
theorem only_setRst (s : Mach) (n : Nat) (x : RingSt) : Only [.ring] s (s.setRst n x) := rfl
theorem only_setMover (s : Mach) (c : Nat) (x : Mover) : Only [.regs, .movers] s (s.setMover c x) := rfl
theorem only_setEvSlot (s : Mach) (id : Nat) (x : EvSlot) : Only [.evSlots] s (s.setEvSlot id x) := rfl
theorem only_setSrc (s : Mach) (c : Nat) (q : SrcQ) : Only [.beat] s (s.setSrc c q) := rfl
theorem only_setDvDir (s : Mach) (d : Nat) (x : DvDir) : Only [.regs, .dv] s (s.setDvDir d x) := rfl
theorem only_setClPower (s : Mach) (c ph : Nat) : Only [.noc] s (s.setClPower c ph) := rfl
theorem only_updReq (s : Mach) (b : Nat) (h : Req → Req) : Only [.reqs] s (s.updReq b h) := rfl
theorem only_dropReq (s : Mach) (b : Nat) : Only [.reqs] s (s.dropReq b) := rfl
theorem only_dramPut (s : Mach) (a : Nat) (bs : List Byte) : Only [.dram, .dramBad] s (s.dramPut a bs) := rfl
theorem only_pass (s : Mach) (c t f : Nat) : Only [.now, .sub, .cycles, .hSkew] s (s.pass c t f) := rfl
theorem only_upTo (s : Mach) (t : Nat) : Only [.now, .sub, .cycles, .hSkew] s (s.upTo t) := by
  unfold Mach.upTo; split
  · exact only_pass _ _ _ _
  · exact Only.refl _ _
theorem only_upToC (s : Mach) (t : Nat) : Only [.now, .sub, .cycles, .hSkew] s (s.upToC t) := by
  unfold Mach.upToC; split
  · exact only_pass _ _ _ _
  · exact Only.refl _ _

/-- Time reaches a deadline and does not run back. -/
theorem upTo_now (s : Mach) (t : Nat) : (s.upTo t).now = max s.now t := by
  unfold Mach.upTo; split
  · rename_i h; exact (Nat.max_eq_right (Nat.le_of_lt h)).symm
  · rename_i h; exact (Nat.max_eq_left (Nat.le_of_not_lt h)).symm

theorem onlyRegs_setR (s : Mach) (k : Nat) (v : U64) : OnlyRegs [k] s (s.setR k v) := fun j h => by
  simp only [List.mem_singleton] at h; exact Mach.r_setR_other s v h
theorem onlyRegs_setN (s : Mach) (k x : Nat) : OnlyRegs [k] s (s.setN k x) := onlyRegs_setR s k _
theorem onlyRegs_setF (s : Mach) (x : RF) (v : Nat) : OnlyRegs [x.reg] s (s.setF x v) := onlyRegs_setR s x.reg _
theorem onlyRegs_inc (s : Mach) (k : Nat) : OnlyRegs [k] s (s.inc k) := onlyRegs_setR s k _
theorem onlyRegs_raise (s : Mach) (x : RF) : OnlyRegs [x.reg] s (s.raise x) := onlyRegs_setF s x 1

/-! ### The services at the end of a step -/

/-- With no work raised, nothing is left to do. -/
theorem settle_of_noWork (s : Mach) (h : s.work = []) : settle s = s := by
  unfold settle; rw [h]; unfold settleN; simp [h]

/-! ### Memory keeps its canonical form -/

theorem memWf_of_same {s t : Mach} (h : MemWf s) (h1 : t.dram = s.dram) (h2 : t.scratch = s.scratch) (h3 : t.csram = s.csram)
    (h4 : t.isram = s.isram) : MemWf t := by unfold MemWf; rw [h1, h2, h3, h4]; exact h
theorem dramPut_memWf (s : Mach) (a : Nat) (bs : List Byte) (h : MemWf s) : MemWf (s.dramPut a bs) :=
  ⟨mapSetRange_wf memReset s.dram a bs h.1, h.2⟩
theorem scratchWrite_memWf (s : Mach) (a : Nat) (bs : List Byte) (h : MemWf s) :
    MemWf { s with scratch := mapSetRange memReset s.scratch a bs } := ⟨h.1, mapSetRange_wf memReset s.scratch a bs h.2.1, h.2.2⟩
theorem csramWrite_memWf (s : Mach) (a : Nat) (bs : List Byte) (h : MemWf s) :
    MemWf { s with csram := mapSetRange memReset s.csram a bs } := ⟨h.1, h.2.1, mapSetRange_wf memReset s.csram a bs h.2.2.1, h.2.2.2⟩
theorem isramWrite_memWf (s : Mach) (a : Nat) (bs : List Byte) (h : MemWf s) :
    MemWf { s with isram := mapSetRange memReset s.isram a bs } := ⟨h.1, h.2.1, h.2.2.1, mapSetRange_wf memReset s.isram a bs h.2.2.2⟩
theorem reset_memWf : MemWf State.reset.m := ⟨rfl, rfl, rfl, rfl⟩

end Sys2Proof.Machine
end

