-- ==== Sys2Proof/Laws/Memory.lean ====
section
/-!
SUPPORT. Every operation that writes one of the module's memories keeps their canonical form.
-/
namespace Sys2Proof.Machine

/-! ### Operations that write no memory -/

/-- The four memories are the same. -/
def SameMem (s t : Mach) : Prop := t.dram = s.dram ∧ t.scratch = s.scratch ∧ t.csram = s.csram ∧ t.isram = s.isram

theorem SameMem.refl (s : Mach) : SameMem s s := ⟨rfl, rfl, rfl, rfl⟩
theorem SameMem.trans {s t u : Mach} (h : SameMem s t) (g : SameMem t u) : SameMem s u :=
  ⟨g.1.trans h.1, g.2.1.trans h.2.1, g.2.2.1.trans h.2.2.1, g.2.2.2.trans h.2.2.2⟩
theorem SameMem.memWf {s t : Mach} (h : SameMem s t) (w : MemWf s) : MemWf t := memWf_of_same w h.1 h.2.1 h.2.2.1 h.2.2.2

/-! Updates of registers, events, log entries and engines touch no memory: each is peeled off in turn. -/

variable {s t : Mach}

@[simp] theorem sameMem_setR_iff (k : Nat) (v : U64) : SameMem s (t.setR k v) ↔ SameMem s t := Iff.rfl
@[simp] theorem sameMem_setN_iff (k x : Nat) : SameMem s (t.setN k x) ↔ SameMem s t := Iff.rfl
@[simp] theorem sameMem_setF_iff (x : RF) (v : Nat) : SameMem s (t.setF x v) ↔ SameMem s t := Iff.rfl
@[simp] theorem sameMem_inc_iff (k : Nat) : SameMem s (t.inc k) ↔ SameMem s t := Iff.rfl
@[simp] theorem sameMem_add_iff (k x : Nat) : SameMem s (t.add k x) ↔ SameMem s t := Iff.rfl
@[simp] theorem sameMem_incF_iff (x : RF) : SameMem s (t.incF x) ↔ SameMem s t := Iff.rfl
@[simp] theorem sameMem_satF_iff (x : RF) : SameMem s (t.satF x) ↔ SameMem s t := Iff.rfl
@[simp] theorem sameMem_raise_iff (x : RF) : SameMem s (t.raise x) ↔ SameMem s t := Iff.rfl
@[simp] theorem sameMem_raiseEng_iff (x : RF) (e : Nat) : SameMem s (t.raiseEng x e) ↔ SameMem s t := Iff.rfl
@[simp] theorem sameMem_logE_iff (x : LogEntry) : SameMem s (t.logE x) ↔ SameMem s t := Iff.rfl
@[simp] theorem sameMem_logC_iff (c d : Nat) : SameMem s (t.logC c d) ↔ SameMem s t := Iff.rfl
@[simp] theorem sameMem_logFold_iff (k : Nat) (x : LogEntry) : SameMem s (t.logFold k x) ↔ SameMem s t := Iff.rfl
@[simp] theorem sameMem_jpush_iff (a k : Nat) (b : List Byte) : SameMem s (t.jpush a k b) ↔ SameMem s t := Iff.rfl
@[simp] theorem sameMem_emit_iff (x : Out) : SameMem s (t.emit x) ↔ SameMem s t := Iff.rfl
@[simp] theorem sameMem_setEng_iff (e : Nat) (x : Engine) : SameMem s (t.setEng e x) ↔ SameMem s t := Iff.rfl
@[simp] theorem sameMem_updEng_iff (e : Nat) (h : Engine → Engine) : SameMem s (t.updEng e h) ↔ SameMem s t := Iff.rfl
@[simp] theorem sameMem_self : SameMem s s := SameMem.refl s

/-- A relation that every step of a fold keeps, the fold keeps. -/
theorem foldl_sameMem {α : Type} (f : Mach → α → Mach) (h : ∀ t x, SameMem t (f t x)) : ∀ (l : List α) (s : Mach), SameMem s (l.foldl f s)
  | [], s => SameMem.refl s
  | x :: l, s => (h s x).trans (foldl_sameMem f h l (f s x))

/-- A fold whose every step keeps the canonical form keeps it. -/
theorem foldl_memWf {α : Type} (f : Mach → α → Mach) (h : ∀ t x, MemWf t → MemWf (f t x)) : ∀ (l : List α) (s : Mach), MemWf s → MemWf (l.foldl f s)
  | [], _, w => w
  | x :: l, s, w => foldl_memWf f h l (f s x) (h s x w)

theorem forEach_sameMem (f : Nat → Mach → Mach) (h : ∀ k t, SameMem t (f k t)) (l : List Nat) (s : Mach) : SameMem s (forEach l f s) :=
  foldl_sameMem _ (fun t x => h x t) l s

theorem sameMem_setEng (s : Mach) (e : Nat) (x : Engine) : SameMem s (s.setEng e x) := ⟨rfl, rfl, rfl, rfl⟩
theorem sameMem_updEng (s : Mach) (e : Nat) (h : Engine → Engine) : SameMem s (s.updEng e h) := ⟨rfl, rfl, rfl, rfl⟩
theorem sameMem_add (s : Mach) (k n : Nat) : SameMem s (s.add k n) := ⟨rfl, rfl, rfl, rfl⟩

theorem sameMem_breakResv (s : Mach) (w sp k n : Nat) : SameMem s (breakResv s w sp k n) := by
  unfold breakResv
  refine forEach_sameMem _ (fun e t => ?_) _ s
  dsimp only
  split <;> exact ⟨rfl, rfl, rfl, rfl⟩

theorem sameMem_orphanPut (s : Mach) (o : Orphan) : SameMem s (orphanPut s o) := by
  unfold orphanPut; dsimp only; split <;> exact ⟨rfl, rfl, rfl, rfl⟩

theorem sameMem_robOrphan (s : Mach) (e cause : Nat) (r : RobEntry) (d : List Byte) : SameMem s (robOrphan s e cause r d) := by
  unfold robOrphan
  split
  · exact SameMem.trans (t := s.free.2) ⟨rfl, rfl, rfl, rfl⟩ (sameMem_orphanPut _ _)
  · exact sameMem_orphanPut _ _

/-- A fold that carries the module beside a list. -/
theorem foldl_fst_sameMem {α β : Type} (f : Mach × β → α → Mach × β) (h : ∀ r x, SameMem r.1 (f r x).1) :
    ∀ (l : List α) (r : Mach × β), SameMem r.1 (l.foldl f r).1
  | [], r => SameMem.refl r.1
  | x :: l, r => (h r x).trans (foldl_fst_sameMem f h l (f r x))

theorem sameMem_takeFrames (s : Mach) (bar : TxFrame → Bool) : SameMem s (takeFrames s bar).1 := by
  unfold takeFrames; dsimp only
  refine SameMem.trans (t := (List.foldl _ (s, []) (keysFrom 0 8)).1) ?_ (foldl_fst_sameMem _ (fun r n => ?_) _ _)
  · refine foldl_fst_sameMem _ (fun r p => ?_) _ (s, [])
    exact ⟨rfl, rfl, rfl, rfl⟩
  · split <;> exact ⟨rfl, rfl, rfl, rfl⟩

theorem sameMem_discardRead (s : Mach) (b cause : Nat) : SameMem s (discardRead s b cause) := by
  unfold discardRead
  split
  · exact SameMem.refl s
  · refine SameMem.trans (sameMem_takeFrames s (fun t => t.carries b)) ?_
    dsimp only
    split
    · have h : ∀ (u : Mach) (p : Nat) (x : UxPort) (c : Bool), SameMem u ((if c then u.setUxp p x else u).dropReq b) := fun u p x c => by
        cases c <;> exact ⟨rfl, rfl, rfl, rfl⟩
      split
      · exact h _ _ _ _
      · exact (h _ _ _ _).trans (sameMem_orphanPut _ _)
    · exact ⟨rfl, rfl, rfl, rfl⟩

theorem sameMem_stallEnd (s : Mach) (e : Nat) : SameMem s (stallEnd s e) := by
  unfold stallEnd; split <;> exact ⟨rfl, rfl, rfl, rfl⟩

theorem sameMem_dropReads (s : Mach) (e cause : Nat) (ids : List RobEntry) : SameMem s (dropReads s e cause ids) := by
  unfold dropReads
  refine (sameMem_stallEnd s e).trans (foldl_sameMem _ (fun t r => ?_) _ _)
  dsimp only
  split
  · split
    · exact sameMem_robOrphan _ _ _ _ _
    · exact SameMem.refl t
  · split
    · exact sameMem_discardRead _ _ _
    · exact foldl_sameMem _ (fun u b => sameMem_discardRead u b cause) _ t
    · exact ⟨rfl, rfl, rfl, rfl⟩
    · exact SameMem.refl t

theorem sameMem_takeException (s : Mach) (e v : Nat) (a : Bool) (p d : Nat) : SameMem s (takeException s e v a p d) := by
  unfold takeException; dsimp only; split <;> exact ⟨rfl, rfl, rfl, rfl⟩

theorem sameMem_discardRob (s : Mach) (e cause : Nat) : SameMem s (discardRob s e cause) := by
  unfold discardRob; dsimp only
  split
  · exact SameMem.refl s
  · exact (sameMem_dropReads s e cause _).trans (sameMem_updEng _ _ _)

theorem sameMem_asyncException (s : Mach) (e v : Nat) : SameMem s (asyncException s e v) :=
  (sameMem_discardRob s e 3).trans (sameMem_takeException _ _ _ _ _ _)

theorem sameMem_leaveAct (s : Mach) (e : Nat) : SameMem s (leaveAct s e) := by
  unfold leaveAct; dsimp only; split
  · exact (sameMem_add _ _ _).trans (sameMem_setEng _ _ _)
  · exact SameMem.refl s

theorem sameMem_doubleFault (s : Mach) (e p v : Nat) : SameMem s (doubleFault s e p v) :=
  (sameMem_leaveAct s e).trans ⟨rfl, rfl, rfl, rfl⟩

theorem sameMem_machineCheck (s : Mach) (e : Nat) : SameMem s (machineCheck s e) := by
  unfold machineCheck
  extract_lets s1 s2 s3
  have h1 : SameMem s s1 := sameMem_updEng _ _ _
  have h2 : SameMem s1 s2 := by
    clear_value s1
    unfold s2
    split
    · exact ⟨rfl, rfl, rfl, rfl⟩
    · exact SameMem.refl s1
  have h3 : SameMem s2 s3 := sameMem_discardRob s2 e 3
  clear_value s3
  refine h1.trans (h2.trans (h3.trans ?_))
  split
  · exact sameMem_doubleFault _ _ _ _
  · refine (sameMem_takeException s3 e 1 true (s3.eng e).arch.pc 0).trans ?_
    exact ⟨rfl, rfl, rfl, rfl⟩

theorem sameMem_asyncCheck (s : Mach) (e : Nat) : SameMem s (asyncCheck s e) := by
  unfold asyncCheck; dsimp only
  split
  · exact sameMem_machineCheck s e
  · split
    · exact SameMem.refl s
    · split
      · exact (sameMem_setEng _ _ _).trans (sameMem_asyncException _ e 0x0C)
      · split
        · exact (sameMem_setEng _ _ _).trans (sameMem_asyncException _ e 0x0D)
        · exact SameMem.refl s

theorem sameMem_fabricErrorDue (s : Mach) (e : Nat) : SameMem s (fabricErrorDue s e) := by
  unfold fabricErrorDue; dsimp only
  split
  · exact SameMem.refl s
  · exact (sameMem_setEng _ _ _).trans (sameMem_asyncCheck _ e)

theorem sameMem_storeFailed (s : Mach) (e : Nat) (a b : Bool) : SameMem s (storeFailed s e a b) :=
  (sameMem_updEng s e _).trans (sameMem_fabricErrorDue _ e)

theorem sameMem_absorbLog (s : Mach) (r : Nat) (x : LogEntry) : SameMem s (absorbLog s r x) := by
  unfold absorbLog; dsimp only
  repeat' split
  all_goals exact ⟨rfl, rfl, rfl, rfl⟩

theorem sameMem_nocAbsorb (s : Mach) (r m : Nat) (b : Option Nat) : SameMem s (nocAbsorb s r m b) := sameMem_absorbLog _ _ _

theorem sameMem_mpuCheck (s : Mach) (m : Nat) (sup : Bool) (n : Need) (a len : Nat) : SameMem s (mpuCheck s m sup n a len).1 := by
  unfold mpuCheck
  split
  · exact SameMem.refl s
  · unfold mpuReport; dsimp only
    repeat' split
    all_goals simp

theorem sameMem_unitCheck (s : Mach) (m : Nat) (n : Need) (a len : Nat) : SameMem s (unitCheck s m n a len).1 := by
  unfold unitCheck; dsimp only
  split
  · exact SameMem.refl s
  · exact sameMem_mpuCheck _ _ _ _ _ _

/-! ### Operations that write -/

/-- A write of module DRAM. -/
theorem dramWriteBy_memWf (s : Mach) (m o : Nat) (bs : List Byte) (w : MemWf s) : MemWf (dramWriteBy s m o bs) :=
  dramPut_memWf _ o bs ((sameMem_breakResv s m 2 o bs.length).memWf w)

theorem dramWrite_memWf (s : Mach) (a : Nat) (bs : List Byte) (w : MemWf s) : MemWf (s.dramWrite a bs) := dramWriteBy_memWf s 0x51 a bs w

/-- A write of cluster SRAM. -/
theorem csramWriteBy_memWf (s : Mach) (m k : Nat) (bs : List Byte) (w : MemWf s) : MemWf (csramWriteBy s m k bs) :=
  csramWrite_memWf _ k bs ((sameMem_breakResv s m 1 k bs.length).memWf w)

/-- A write of an engine at its serialising point. -/
theorem performNormal_memWf (s : Mach) (e a : Nat) (bs : List Byte) (w : MemWf s) : MemWf (performNormal s e a bs) := by
  unfold performNormal
  split
  · exact scratchWrite_memWf s _ bs w
  · exact csramWriteBy_memWf s e _ bs w
  · split
    · exact dramWriteBy_memWf s e _ bs w
    · exact w
  · exact w

theorem payloadWrite_memWf (s : Mach) (r : EvRec) (w : MemWf s) : MemWf (payloadWrite s r).1 := by
  unfold payloadWrite; dsimp only
  have h : ∀ (c : Bool) (x : Mach), SameMem s x → MemWf (if c = true then x else s) := fun c x hx => by
    cases c
    · exact w
    · exact hx.memWf w
  split
  · split
    · exact memWf_of_same (dramWrite_memWf _ _ _ (h _ _ (sameMem_unitCheck _ _ _ _ _))) rfl rfl rfl rfl
    · exact memWf_of_same (h _ _ (sameMem_unitCheck _ _ _ _ _)) rfl rfl rfl rfl
  · exact w

theorem sameMem_setVrec (s : Mach) (v : Nat) (r : EvRec) : SameMem s (setVrec s v r) := by
  unfold setVrec
  refine forEach_sameMem _ (fun k t => ?_) _ s
  exact ⟨rfl, rfl, rfl, rfl⟩

theorem sameMem_issueMsix (s : Mach) (v : Nat) : SameMem s (issueMsix s v) := by
  unfold issueMsix; dsimp only
  repeat' split
  all_goals exact ⟨rfl, rfl, rfl, rfl⟩

theorem sameMem_sendMsix (s : Mach) (id : Nat) (r : EvRec) : SameMem s (sendMsix s id r) := by
  unfold sendMsix; dsimp only
  split
  · unfold setPba
    rw [sameMem_setF_iff]
    refine SameMem.trans ?_ (sameMem_setVrec _ _ _)
    exact (sameMem_setF_iff (t := s) (EV_E1_pending id) 0).2 (SameMem.refl s)
  · refine SameMem.trans ?_ (sameMem_issueMsix _ _)
    exact SameMem.trans (by simp) (sameMem_setVrec _ _ _)

theorem sameMem_onOccurrence (s : Mach) (id : Nat) (r : EvRec) : SameMem s (onOccurrence s id r) := by
  unfold onOccurrence; dsimp only
  split
  · refine SameMem.trans ?_ (show SameMem (sendMsix _ id r) _ from ⟨rfl, rfl, rfl, rfl⟩)
    exact SameMem.trans (by simp) (sameMem_sendMsix _ _ _)
  · rw [sameMem_inc_iff]
    exact (by simp : SameMem s ((s.satF (EV_E1_pending id)).incF (MX_VCNT_count ((s.satF (EV_E1_pending id)).f (EV_E0_vector id)))))

theorem sameMem_engineDeliver (s : Mach) (id e : Nat) (r : EvRec) : SameMem s (engineDeliver s id e r) := by
  unfold engineDeliver; dsimp only
  split
  · exact sameMem_nocAbsorb _ _ _ _
  · split
    · unfold postWaits; dsimp only; split <;> exact ⟨rfl, rfl, rfl, rfl⟩
    · repeat' split
      all_goals exact ⟨rfl, rfl, rfl, rfl⟩

theorem sameMem_routeEvent (s : Mach) (r : EvRec) : SameMem s (routeEvent s r) := by
  unfold routeEvent
  split
  · dsimp only
    split <;> simp
  · extract_lets route s1
    have h1 : SameMem s s1 := by
      unfold s1
      split
      · exact sameMem_onOccurrence _ _ _
      · exact SameMem.refl s
    clear_value s1
    split
    · exact h1.trans (sameMem_engineDeliver _ _ _ _)
    · exact h1

theorem postEvent_memWf (s : Mach) (r : EvRec) (w : MemWf s) : MemWf (postEvent s r) := by
  unfold postEvent; dsimp only
  refine (sameMem_routeEvent _ _).memWf (memWf_of_same (payloadWrite_memWf _ _ ?_) rfl rfl rfl rfl)
  exact memWf_of_same w rfl rfl rfl rfl

theorem sameMem_holdLog (s : Mach) (x : LogEntry) : SameMem s (holdLog s x) := by
  unfold holdLog; split <;> exact ⟨rfl, rfl, rfl, rfl⟩

theorem sameMem_logStore (s : Mach) (k : Option Nat) (x : LogEntry) : SameMem s (logStore s k x) := by
  unfold logStore
  extract_lets pos full s1 s2 s3 s4
  clear_value pos full
  have h1 : SameMem s s1 := by
    unfold s1 nvKeep
    split
    · simp [SameMem]
    · exact SameMem.refl s
  clear_value s1
  have h2 : SameMem s1 s2 := ⟨rfl, rfl, rfl, rfl⟩
  clear_value s2
  have h4 : SameMem s2 s4 := by unfold s4; split <;> simp [s3]
  exact h1.trans (h2.trans (h4.trans (by simp)))

theorem sameMem_doLog (s : Mach) (k : Option Nat) (x : LogEntry) : SameMem s (doLog s k x) := by
  unfold doLog
  split
  · exact sameMem_holdLog _ _
  · split
    · exact sameMem_logStore _ _ _
    · split
      · exact ⟨rfl, rfl, rfl, rfl⟩
      · exact sameMem_logStore _ _ _

theorem sameMem_doJournal (s : Mach) (t k : Nat) (b : List Byte) : SameMem s (doJournal s t k b) := by
  unfold doJournal; dsimp only
  repeat' split
  all_goals exact ⟨rfl, rfl, rfl, rfl⟩

theorem sameMem_crossEvent (s : Mach) (id : Nat) : SameMem s (crossEvent s id).1 := by
  unfold crossEvent; dsimp only
  repeat' split
  all_goals exact ⟨rfl, rfl, rfl, rfl⟩

theorem doEvent_memWf (s : Mach) (r : EvRec) (w : MemWf s) : MemWf (doEvent s r) := by
  unfold doEvent; dsimp only
  split
  · split
    · exact memWf_of_same w rfl rfl rfl rfl
    · exact (sameMem_holdLog _ _).memWf (memWf_of_same w rfl rfl rfl rfl)
  · exact postEvent_memWf s r w

theorem doWork_memWf (s : Mach) (x : Work) (w : MemWf s) : MemWf (doWork s x) := by
  unfold doWork
  split
  · exact (sameMem_doLog _ _ _).memWf w
  · dsimp only
    split
    · exact doEvent_memWf _ _ ((sameMem_crossEvent _ _).memWf w)
    · exact (sameMem_crossEvent _ _).memWf w
  · exact (sameMem_doJournal _ _ _ _).memWf w

theorem settleN_memWf : ∀ (n : Nat) (s : Mach), MemWf s → MemWf (settleN n s)
  | 0, _, w => w
  | n + 1, s, w => by
    unfold settleN
    split
    · exact w
    · exact settleN_memWf n _ (doWork_memWf _ _ (memWf_of_same w rfl rfl rfl rfl))

/-- The services at the end of a step keep the canonical form. -/
theorem settle_memWf (s : Mach) (w : MemWf s) : MemWf (settle s) := settleN_memWf _ s w

/-- A store that leaves a cluster port for DRAM (R330). -/
theorem drainPort_memWf (s : Mach) (c : Nat) (w : MemWf s) : MemWf (drainPort s c) := by
  unfold drainPort
  split
  · exact w
  · have h : MemWf (s.setPortq c ‹_›) := memWf_of_same w rfl rfl rfl rfl
    dsimp only
    split
    · exact dramWriteBy_memWf _ _ _ _ h
    · exact settle_memWf _ (((sameMem_nocAbsorb _ _ _ _).trans (sameMem_storeFailed _ _ _ _)).memWf h)

/-- Stores that leave a cluster port for DRAM before an atomic on a granule (R340). -/
theorem drainGranule_memWf (s : Mach) (c off : Nat) (w : MemWf s) : MemWf (drainGranule s c off) :=
  foldl_memWf _ (fun t _ wt => drainPort_memWf t c wt) _ s w

/-- The whole port write queue of a cluster (R352). -/
theorem drainPortAll_memWf (s : Mach) (c : Nat) (w : MemWf s) : MemWf (drainPortAll s c) :=
  foldl_memWf _ (fun t _ wt => drainPort_memWf t c wt) _ s w

/-- A write to an engine's instruction SRAM (R216). -/
theorem isramStore_memWf (s : Mach) (m e a : Nat) (bs : List Byte) (w : MemWf s) : MemWf (isramWrite s m e a bs) := by
  unfold isramWrite
  split
  · exact isramWrite_memWf s _ bs w
  · exact memWf_of_same w rfl rfl rfl rfl

/-- A write to a host window. -/
theorem windowWrite_memWf (s : Mach) (m : Nat) (x : Bool × Nat × Nat) (bs : List Byte) (w : MemWf s) : MemWf (windowWrite s m x bs) := by
  unfold windowWrite
  split
  · exact csramWriteBy_memWf s m _ bs w
  · exact isramStore_memWf s m _ _ bs w

/-- A host write of DRAM with byte flags (R362). -/
theorem dramWriteFlags_memWf (s : Mach) (m off : Nat) (be : List Bool) (d : List Byte) (w : MemWf s) : MemWf (dramWriteFlags s m off be d) :=
  foldl_memWf _ (fun t _ wt => dramWriteBy_memWf t m _ _ wt) _ s w

/-- A write to the image region, in cluster SRAM in the no-journal mode (R552). -/
theorem imgWriteBy_memWf (s : Mach) (m a : Nat) (bs : List Byte) (w : MemWf s) : MemWf (imgWriteBy s m a bs) := by
  unfold imgWriteBy
  split
  · exact csramWriteBy_memWf s m _ bs w
  · exact dramWriteBy_memWf s m a bs w

theorem imgWrite_memWf (s : Mach) (a : Nat) (bs : List Byte) (w : MemWf s) : MemWf (imgWrite s a bs) := by
  unfold imgWrite; dsimp only
  split
  · exact imgWriteBy_memWf _ 0x51 a bs ((sameMem_unitCheck _ _ _ _ _).memWf w)
  · exact (sameMem_unitCheck _ _ _ _ _).memWf w

/-- A copy between image buffers, poison included (R533, R554). -/
theorem imgCopy_memWf (s : Mach) (a b n : Nat) (w : MemWf s) : MemWf (imgCopy s a b n) := by
  unfold imgCopy; dsimp only
  have u := (sameMem_unitCheck s 0x51 needR (imgAddr s a) n).memWf w
  split
  · exact u
  · split
    · exact imgWrite_memWf _ _ _ u
    · exact memWf_of_same (imgWrite_memWf _ b (imgBytes s a n) u) rfl rfl rfl rfl

/-- The moves of the banks into and out of the no-journal mode (R552, R553). -/
theorem bankMove_memWf (s : Mach) (l : List Nat) (f : Mach → Nat → Nat → List Byte) (g : Mach → Nat → List Byte → Mach)
    (h : ∀ t a bs, MemWf t → MemWf (g t a bs)) (w : MemWf s) : MemWf (bankMove s l f g) := by
  unfold bankMove; dsimp only
  refine foldl_memWf _ (fun t j wt => ?_) _ _ (foldl_memWf _ (fun t k wt => h _ _ _ wt) _ _ w)
  exact h _ _ _ (h _ _ _ (h _ _ _ (h _ _ _ wt)))

theorem foldl_twinReg_sameMem (l : List (Nat × U64)) (s : Mach) : SameMem s (l.foldl twinReg s) :=
  foldl_sameMem _ (fun t x => by unfold twinReg; exact ⟨rfl, rfl, rfl, rfl⟩) l s

theorem foldl_twinState_sameMem (l : List (Nat × U64)) (s : Mach) : SameMem s (l.foldl twinState s) :=
  foldl_sameMem _ (fun t x => by unfold twinState; repeat' split
                                 all_goals exact ⟨rfl, rfl, rfl, rfl⟩) l s

/-- A message of a sealed set, applied on the standby (R574). -/
theorem twinApply_memWf (s : Mach) (m : TwMsg) (w : MemWf s) : MemWf (twinApply s m) := by
  unfold twinApply; dsimp only
  split
  · have u := (sameMem_unitCheck s 0x61 needW (imgAddr s (bankBase s m.a + m.off)) m.data.length).memWf w
    split
    · exact imgWriteBy_memWf _ _ _ _ u
    · exact u
  · exact (foldl_twinReg_sameMem m.pairs s).memWf w
  · split
    · exact (sameMem_unitCheck _ _ _ _ _).memWf w
    · split
      · split
        · split
          · exact dramWriteBy_memWf s _ _ _ w
          · exact w
        · exact csramWriteBy_memWf s _ _ _ w
        · exact w
      · exact w
  · exact memWf_of_same ((foldl_twinState_sameMem m.pairs s).memWf w) rfl rfl rfl rfl

/-- A journal entry's three writes (R547). -/
theorem jStore_memWf (s : Mach) (a : Nat) (b : List Byte) (w : MemWf s) : MemWf (jStore s a b) :=
  dramWriteBy_memWf _ _ _ _ (dramWriteBy_memWf _ _ _ _ (dramWriteBy_memWf _ _ _ _ w))

/-! ### A run of keys copied onto another -/

theorem mapWfFrom_iff (lo : Nat) (m : List (Nat × Byte)) :
    mapWfFrom memReset lo m = true ↔ (∀ p ∈ m, lo ≤ p.1 ∧ p.2 ≠ 0) ∧ m.Pairwise (fun p q => p.1 < q.1) := by
  induction m generalizing lo with
  | nil => simp [mapWfFrom]
  | cons p t ih =>
    obtain ⟨a, v⟩ := p
    simp only [mapWfFrom, Bool.and_eq_true, decide_eq_true_eq, ih, List.forall_mem_cons, List.pairwise_cons, memReset]
    constructor
    · rintro ⟨⟨h1, h2⟩, h3, h4⟩
      exact ⟨⟨⟨h1, of_decide_eq_true h2⟩, fun q hq => ⟨by have := (h3 q hq).1; omega, (h3 q hq).2⟩⟩, fun q hq => (h3 q hq).1, h4⟩
    · rintro ⟨⟨⟨h1, h2⟩, h3⟩, h4, h5⟩
      exact ⟨⟨h1, decide_eq_true h2⟩, fun q hq => ⟨h4 q hq, (h3 q hq).2⟩, h5⟩

/-- The copy of a run keeps the canonical form. -/
theorem copyKeys_wf (m : List (Nat × Byte)) (src dst n : Nat) (h : mapWf memReset m = true) :
    mapWf memReset (copyKeys m src dst n) = true := by
  unfold mapWf at h ⊢
  rw [mapWfFrom_iff] at h ⊢
  obtain ⟨hv, hp⟩ := h
  unfold copyKeys
  constructor
  · intro p hq
    refine ⟨Nat.zero_le _, ?_⟩
    simp only [List.mem_append, List.mem_filter, List.mem_map] at hq
    rcases hq with (hq | ⟨q, hq, rfl⟩) | hq
    · exact (hv p hq.1).2
    · exact (hv q hq.1).2
    · exact (hv p hq.1).2
  · rw [List.pairwise_append, List.pairwise_append, List.pairwise_map]
    refine ⟨⟨hp.filter _, ?_, ?_⟩, hp.filter _, ?_⟩
    · refine (hp.filter (fun x => decide (src ≤ x.1) && decide (x.1 < src + n))).imp_of_mem ?_
      intro a b ha hb hab
      simp only [List.mem_filter, Bool.and_eq_true, decide_eq_true_eq] at ha hb
      dsimp only; omega
    · intro a ha b hb
      simp only [List.mem_filter, List.mem_map, Bool.and_eq_true, decide_eq_true_eq] at ha hb
      obtain ⟨q, hq, rfl⟩ := hb
      dsimp only; omega
    · intro a ha b hb
      simp only [List.mem_append, List.mem_filter, List.mem_map, Bool.and_eq_true, decide_eq_true_eq] at ha hb
      rcases ha with ha | ⟨q, hq, rfl⟩
      · omega
      · dsimp only; omega

/-- The contents left on the old physical cluster of a migration (R221). -/
theorem leaveBehind_memWf (s : Mach) (m : Migration) (w : MemWf s) : MemWf (leaveBehind s m) := by
  unfold leaveBehind; dsimp only
  refine (foldl_sameMem _ (fun t i => ?_) _ _).memWf
    (⟨w.1, copyKeys_wf _ _ _ _ w.2.1, copyKeys_wf _ _ _ _ w.2.2.1, copyKeys_wf _ _ _ _ w.2.2.2⟩)
  exact ⟨rfl, rfl, rfl, rfl⟩

/-! ### Resets -/

theorem sameMem_timeFree (s : Mach) : SameMem s (timeFree s) := ⟨rfl, rfl, rfl, rfl⟩

theorem sameMem_nocEndPacket (s : Mach) (k : NocPacket) : SameMem s (nocEndPacket s k) := by
  unfold nocEndPacket
  split
  · exact sameMem_nocAbsorb _ _ _ _
  · simp
  · simp

theorem sameMem_dvForget (s : Mach) (id : Nat) : SameMem s (dvForget s id) := by
  unfold dvForget
  refine foldl_sameMem _ (fun t d => ?_) _ s
  exact ⟨rfl, rfl, rfl, rfl⟩

theorem sameMem_dvEnd (s : Mach) (id : Nat) : SameMem s (dvEnd s id) := by
  unfold dvEnd
  split
  · refine SameMem.trans ?_ (sameMem_nocEndPacket _ _)
    exact sameMem_dvForget s id
  · refine SameMem.trans ?_ (sameMem_nocEndPacket _ _)
    unfold nocTake
    have h : SameMem s (nocForget s id) := by simp [nocForget, SameMem]
    refine (h.trans (sameMem_dvForget (nocForget s id) id)).trans ?_
    simp [SameMem]
  · exact SameMem.refl s

theorem sameMem_dvClear (s : Mach) : SameMem s (dvClear s).1 := by
  unfold dvClear; dsimp only
  rw [sameMem_add_iff]
  refine SameMem.trans ?_ (foldl_sameMem _ sameMem_dvEnd _ _)
  exact ⟨rfl, rfl, rfl, rfl⟩

theorem sameMem_dvGoDown (s : Mach) : SameMem s (dvGoDown s) := by
  unfold dvGoDown
  extract_lets s1 c s2
  have h1 : SameMem s s1 := by unfold s1; split; exact sameMem_timeFree s; exact SameMem.refl s
  clear_value s1
  have hc : SameMem s1 c.1 := SameMem.trans (t := dvEnter s1 dvDown) ⟨rfl, rfl, rfl, rfl⟩ (sameMem_dvClear _)
  have h2 : SameMem s s2 := by
    unfold s2
    simp only [sameMem_logC_iff, sameMem_setF_iff]
    exact h1.trans hc
  exact (sameMem_raise_iff (s := s) (t := s2) DV_EVENT_down).2 h2

theorem sameMem_stopDomains (s : Mach) (l : List Nat) : SameMem s (stopDomains s l) := by
  unfold stopDomains
  refine foldl_sameMem _ (fun t d => ?_) l s
  exact ⟨rfl, rfl, rfl, rfl⟩

theorem sameMem_clampHeld (s : Mach) : SameMem s (clampHeld s) := by
  unfold clampHeld
  split
  · refine foldl_sameMem _ (fun t c => ?_) _ s
    exact SameMem.trans (t := t.setF (EN_CL_CLAMP_clamp c) 1) ⟨rfl, rfl, rfl, rfl⟩ (foldl_sameMem _ (fun u e => sameMem_updEng u e _) _ _)
  · exact SameMem.refl s

/-- What every reset of a die ends with touches no memory. -/
theorem sameMem_resetEnd (s : Mach) (l : List Nat) (k src : Nat) : SameMem s (resetCause (stopDomains s l) k src) :=
  (sameMem_stopDomains s l).trans ⟨rfl, rfl, rfl, rfl⟩

/-- An H-die reset empties the SRAMs and keeps DRAM (Table 20-1). -/
theorem hdieReset_mem (s : Mach) (src : Nat) :
    (hdieReset s src).dram = s.dram ∧ (hdieReset s src).scratch = [] ∧ (hdieReset s src).csram = [] ∧ (hdieReset s src).isram = [] := by
  have h : SameMem _ (hdieReset s src) := (sameMem_clampHeld _).trans (sameMem_resetEnd _ [0, 1, 2, 3] 3 src)
  have g : SameMem s (if s.dvState = dvDown then s else dvGoDown s) := by
    split
    · exact SameMem.refl s
    · exact sameMem_dvGoDown s
  exact ⟨h.1.trans g.1, h.2.1, h.2.2.1, h.2.2.2⟩

theorem hdieReset_memWf (s : Mach) (src : Nat) (w : MemWf s) : MemWf (hdieReset s src) := by
  obtain ⟨h1, h2, h3, h4⟩ := hdieReset_mem s src
  unfold MemWf
  rw [h1, h2, h3, h4]
  exact ⟨w.1, rfl, rfl, rfl⟩

/-- A reset of the F-die's main domain touches no memory. -/
theorem sameMem_fmainReset (s : Mach) (src : Nat) : SameMem s (fmainReset s src) := by
  have h : SameMem _ (fmainReset s src) := sameMem_resetEnd _ [4, 5, 6, 7, 8] 4 src
  have g : SameMem s (if s.dvState = dvDown then s else dvGoDown s) := by
    split
    · exact SameMem.refl s
    · exact sameMem_dvGoDown s
  exact ⟨h.1.trans g.1, h.2.1.trans g.2.1, h.2.2.1.trans g.2.2.1, h.2.2.2.trans g.2.2.2⟩

theorem sameMem_roleStart (s : Mach) : SameMem s (roleStart s) := by
  unfold roleStart; dsimp only; split <;> exact ⟨rfl, rfl, rfl, rfl⟩

/-- After a power-on reset the memories list nothing (log entry 1). -/
theorem powerOnReset_memWf (s : Mach) : MemWf (powerOnReset s) := by
  have h : SameMem _ (powerOnReset s) := (sameMem_roleStart _).trans (t := roleStart _) ⟨rfl, rfl, rfl, rfl⟩
  exact h.memWf ⟨rfl, rfl, rfl, rfl⟩

theorem sameMem_resetCause (s : Mach) (k src : Nat) : SameMem s (resetCause s k src) := by simp [resetCause]

/-- Both dies held in reset. -/
theorem holdDies_memWf (s : Mach) (w : MemWf s) : MemWf (holdDies s) := by
  have h : SameMem (hdieReset (fmainReset s 0x60) 0x60) (holdDies s) := by
    unfold holdDies
    generalize hdieReset (fmainReset s 0x60) 0x60 = t
    simp [SameMem]
  exact h.memWf (hdieReset_memWf _ 0x60 ((sameMem_fmainReset s 0x60).memWf w))

/-- So after a module reset. -/
theorem moduleReset_memWf (s : Mach) (src : Nat) : MemWf (moduleReset s src) := by
  unfold moduleReset
  extract_lets keep fresh q s1 s2 s3
  have h1 : MemWf s1 := ⟨rfl, rfl, rfl, rfl⟩
  clear_value s1
  have h2 : MemWf s2 := by
    refine (sameMem_clampHeld _).memWf (SameMem.memWf (s := s1) ?_ h1)
    simp
  clear_value s2
  have h3 : MemWf s3 := (sameMem_roleStart s2).memWf h2
  clear_value s3
  refine (sameMem_resetCause _ _ _).memWf ?_
  split
  · exact holdDies_memWf s3 h3
  · exact h3

end Sys2Proof.Machine
end

