-- ==== Sys2Proof/Laws/PerInstr.lean ====
section
/-!
SUPPORT. One family of facts about every command as syntax: the frame that a well-formed command brings into the module carries as
many payload bytes as its length field says, and its fields fit the header (Table 03-4). A command that brings no intact frame has
nothing to show.
-/
namespace Sys2Proof.Laws.Payload
open Sys2Proof.Machine (Frame)

/-- The intact frame a command brings. -/
def carried (c : Instr) : Option Frame :=
  match c with
  | .downbeatLoopReturn _ f => some f
  | .calDownbeatReceive _ f => some f
  | .linkFrameReceive _ f _ => some f
  | .imageInReceive _ f => some f
  | .readResponseReceive _ f => some f
  | .writeAckReceive _ f => some f
  | .eventFrameTc0 _ f _ => some f
  | .eventFrameTc2 _ f => some f
  | .voteReceive _ f => some f
  | .enumAnswerReceive _ f => some f
  | .enumProbeReturn _ f => some f
  | .delayAnswerReceive _ f => some f
  | .transitFrameForward _ f => some f
  | _ => none

/-- The carried frame of a well-formed command. -/
def Statement (c : Instr) : Prop :=
  wellFormed c = true → ∀ f, carried c = some f → f.payload.length = f.len ∧ f.len < 2 ^ 16 ∧ f.seq < 2 ^ 16 ∧ f.type < 2 ^ 4

/-- A frame within the limits has the facts. -/
theorem of_wf {f : Frame} (h : Frame.wf f = true) : f.payload.length = f.len ∧ f.len < 2 ^ 16 ∧ f.seq < 2 ^ 16 ∧ f.type < 2 ^ 4 := by
  simp only [Frame.wf, Bool.and_eq_true, decide_eq_true_eq] at h
  simp_all

theorem registerWrite (master : BitVec 7) (off : BitVec 26) (n : Nat) (enabled : Bool) (value : U64) : Statement (.registerWrite master off n enabled value) := fun _ _ g => nomatch g
theorem registerLowerHalfRead (master : BitVec 7) (word : BitVec 23) : Statement (.registerLowerHalfRead master word) := fun _ _ g => nomatch g
theorem rcFieldRead (master : BitVec 7) (word : BitVec 24) : Statement (.rcFieldRead master word) := fun _ _ g => nomatch g
theorem stagingCheckComplete : Statement .stagingCheckComplete := fun _ _ g => nomatch g
theorem stageCommit (master : BitVec 7) (tag : BitVec 16) : Statement (.stageCommit master tag) := fun _ _ g => nomatch g
theorem stageDiscard : Statement .stageDiscard := fun _ _ g => nomatch g
theorem commitApplyBeatsOff : Statement .commitApplyBeatsOff := fun _ _ g => nomatch g
theorem glResetModule (master : BitVec 7) : Statement (.glResetModule master) := fun _ _ g => nomatch g
theorem glResetHdie (master : BitVec 7) : Statement (.glResetHdie master) := fun _ _ g => nomatch g
theorem beatStart : Statement .beatStart := fun _ _ g => nomatch g
theorem beatStop : Statement .beatStop := fun _ _ g => nomatch g
theorem finalEdge : Statement .finalEdge := fun _ _ g => nomatch g
theorem timeStep : Statement .timeStep := fun _ _ g => nomatch g
theorem beatEdge : Statement .beatEdge := fun _ _ g => nomatch g
theorem downbeatContentFix : Statement .downbeatContentFix := fun _ _ g => nomatch g
theorem downbeatLaunch : Statement .downbeatLaunch := fun _ _ g => nomatch g
theorem downbeatLoopReturn (p : Fin 8) (f : Frame) : Statement (.downbeatLoopReturn p f) := fun h _ g => by cases g; exact of_wf h
theorem phaseInputComplete : Statement .phaseInputComplete := fun _ _ g => nomatch g
theorem phaseOutputDeadline : Statement .phaseOutputDeadline := fun _ _ g => nomatch g
theorem decisionDeadline : Statement .decisionDeadline := fun _ _ g => nomatch g
theorem ppsPulseStart : Statement .ppsPulseStart := fun _ _ g => nomatch g
theorem ppsPulseEnd : Statement .ppsPulseEnd := fun _ _ g => nomatch g
theorem strikeMirrorPulseEnd : Statement .strikeMirrorPulseEnd := fun _ _ g => nomatch g
theorem hdieTimeSample (agree : Bool) : Statement (.hdieTimeSample agree) := fun _ _ g => nomatch g
theorem ptmRequest : Statement .ptmRequest := fun _ _ g => nomatch g
theorem ptmDialogComplete (ok : Bool) (rtt : Nat) (host : Int) : Statement (.ptmDialogComplete ok rtt host) := fun _ _ g => nomatch g
theorem ptpSyncReceive (domain : Nat) (l2 : Bool) (t1 : Nat) (t3 : Nat) (t4 : Nat) : Statement (.ptpSyncReceive domain l2 t1 t3 t4) := fun _ _ g => nomatch g
theorem ptpAnnounceReceive (domain : Nat) (l2 : Bool) : Statement (.ptpAnnounceReceive domain l2) := fun _ _ g => nomatch g
theorem ptpAnnounceTimeout : Statement .ptpAnnounceTimeout := fun _ _ g => nomatch g
theorem ppsEdge (t : Nat) (falling : Bool) (ref : Bool) : Statement (.ppsEdge t falling ref) := fun _ _ g => nomatch g
theorem ppsMissing : Statement .ppsMissing := fun _ _ g => nomatch g
theorem ref10Loss : Statement .ref10Loss := fun _ _ g => nomatch g
theorem waitToRestoreExpire : Statement .waitToRestoreExpire := fun _ _ g => nomatch g
theorem calibrateRing (ring : Fin 4) : Statement (.calibrateRing ring) := fun _ _ g => nomatch g
theorem calDownbeatReceive (p : Fin 8) (f : Frame) : Statement (.calDownbeatReceive p f) := fun h _ g => by cases g; exact of_wf h
theorem sfpInsert (p : Fin 8) (code : Nat) : Statement (.sfpInsert p code) := fun _ _ g => nomatch g
theorem sfpRemove (p : Fin 8) : Statement (.sfpRemove p) := fun _ _ g => nomatch g
theorem sfpTxFault (p : Fin 8) : Statement (.sfpTxFault p) := fun _ _ g => nomatch g
theorem sfpLosAssert (p : Fin 8) : Statement (.sfpLosAssert p) := fun _ _ g => nomatch g
theorem sfpLosDeassert (p : Fin 8) : Statement (.sfpLosDeassert p) := fun _ _ g => nomatch g
theorem sfpTempPoll (p : Fin 8) (temp : BitVec 16) : Statement (.sfpTempPoll p temp) := fun _ _ g => nomatch g
theorem pcsLockLoss (p : Fin 8) (hiBer : Bool) : Statement (.pcsLockLoss p hiBer) := fun _ _ g => nomatch g
theorem portLockHoldExpire (p : Fin 8) : Statement (.portLockHoldExpire p) := fun _ _ g => nomatch g
theorem portTrainingTimeout (p : Fin 8) : Statement (.portTrainingTimeout p) := fun _ _ g => nomatch g
theorem fecAutoAttemptExpire (p : Fin 8) : Statement (.fecAutoAttemptExpire p) := fun _ _ g => nomatch g
theorem portSilenceTimeout (p : Fin 8) : Statement (.portSilenceTimeout p) := fun _ _ g => nomatch g
theorem linkFrameReceive (p : Fin 8) (f : Frame) (corrected : Nat) : Statement (.linkFrameReceive p f corrected) := fun h _ g => by cases g; exact of_wf h
theorem linkFrameSend (p : Fin 8) : Statement (.linkFrameSend p) := fun _ _ g => nomatch g
theorem replayTimeout (p : Fin 8) : Statement (.replayTimeout p) := fun _ _ g => nomatch g
theorem frameTransmit (p : Fin 8) (cut : Option Nat) : Statement (.frameTransmit p cut) := fun _ _ g => nomatch g
theorem imageInReceive (p : Fin 8) (f : Frame) : Statement (.imageInReceive p f) := fun h _ g => by cases g; exact of_wf h
theorem readResponseReceive (p : Fin 8) (f : Frame) : Statement (.readResponseReceive p f) := fun h _ g => by cases g; exact of_wf h
theorem writeAckReceive (p : Fin 8) (f : Frame) : Statement (.writeAckReceive p f) := fun h _ g => by cases g; exact of_wf h
theorem eventFrameTc0 (p : Fin 8) (f : Frame) (upset : Option (Fin 2 × Fin 4096 × Fin 10 × U64)) : Statement (.eventFrameTc0 p f upset) := fun h _ g => by cases g; exact of_wf h
theorem eventFrameTc2 (p : Fin 8) (f : Frame) : Statement (.eventFrameTc2 p f) := fun h _ g => by cases g; exact of_wf h
theorem voteReceive (p : Fin 8) (f : Frame) : Statement (.voteReceive p f) := fun h _ g => by cases g; exact of_wf h
theorem enumStart (ring : Fin 4) : Statement (.enumStart ring) := fun _ _ g => nomatch g
theorem enumAnswerReceive (p : Fin 8) (f : Frame) : Statement (.enumAnswerReceive p f) := fun h _ g => by cases g; exact of_wf h
theorem enumProbeTimeout (ring : Fin 4) : Statement (.enumProbeTimeout ring) := fun _ _ g => nomatch g
theorem enumProbeReturn (p : Fin 8) (f : Frame) : Statement (.enumProbeReturn p f) := fun h _ g => by cases g; exact of_wf h
theorem delayAnswerReceive (p : Fin 8) (f : Frame) : Statement (.delayAnswerReceive p f) := fun h _ g => by cases g; exact of_wf h
theorem delayRequestTimeout (k : BitVec 14) : Statement (.delayRequestTimeout k) := fun _ _ g => nomatch g
theorem adoptionStepTimeout (k : BitVec 14) : Statement (.adoptionStepTimeout k) := fun _ _ g => nomatch g
theorem stationAbsentTimeout (k : BitVec 14) : Statement (.stationAbsentTimeout k) := fun _ _ g => nomatch g
theorem stClampSet (k : BitVec 14) : Statement (.stClampSet k) := fun _ _ g => nomatch g
theorem stClampClr (k : BitVec 14) : Statement (.stClampClr k) := fun _ _ g => nomatch g
theorem rerouteTimerExpire (ring : Fin 4) : Statement (.rerouteTimerExpire ring) := fun _ _ g => nomatch g
theorem routeChangeWaitExpire (k : BitVec 14) : Statement (.routeChangeWaitExpire k) := fun _ _ g => nomatch g
theorem skForceHoldWrite (k : Fin 4) (v : U64) : Statement (.skForceHoldWrite k v) := fun _ _ g => nomatch g
theorem engineStart (e : Fin 64) : Statement (.engineStart e) := fun _ _ g => nomatch g
theorem engineStop (e : Fin 64) : Statement (.engineStop e) := fun _ _ g => nomatch g
theorem engineStopComplete (e : Fin 64) : Statement (.engineStopComplete e) := fun _ _ g => nomatch g
theorem clusterClamp (c : Fin 16) (set : Bool) : Statement (.clusterClamp c set) := fun _ _ g => nomatch g
theorem isramWrite (e : Fin 64) (a : BitVec 16) (data : List Byte) : Statement (.isramWrite e a data) := fun _ _ g => nomatch g
theorem migrateRequest (src : Fin 16) : Statement (.migrateRequest src) := fun _ _ g => nomatch g
theorem migrationGraceExpire : Statement .migrationGraceExpire := fun _ _ g => nomatch g
theorem migrationCopyDone : Statement .migrationCopyDone := fun _ _ g => nomatch g
theorem bindingFire (e : Fin 64) (k : Fin 16) : Statement (.bindingFire e k) := fun _ _ g => nomatch g
theorem bindingDispatch (e : Fin 64) : Statement (.bindingDispatch e) := fun _ _ g => nomatch g
theorem budgetExpire (e : Fin 64) : Statement (.budgetExpire e) := fun _ _ g => nomatch g
theorem machineCheck (e : Fin 64) : Statement (.machineCheck e) := fun _ _ g => nomatch g
theorem storeBufferDrain (e : Fin 64) (port : Bool) : Statement (.storeBufferDrain e port) := fun _ _ g => nomatch g
theorem fabricReadResponse (e : Fin 64) : Statement (.fabricReadResponse e) := fun _ _ g => nomatch g
theorem barrierResolved (e : Fin 64) : Statement (.barrierResolved e) := fun _ _ g => nomatch g
theorem waitTimeReached (e : Fin 64) : Statement (.waitTimeReached e) := fun _ _ g => nomatch g
theorem evwaitTimeout (e : Fin 64) : Statement (.evwaitTimeout e) := fun _ _ g => nomatch g
theorem add (e : Fin 64) (w : Bool) (d : Fin 32) (a : Fin 32) (b : Fin 32) : Statement (.add e w d a b) := fun _ _ g => nomatch g
theorem sub (e : Fin 64) (w : Bool) (d : Fin 32) (a : Fin 32) (b : Fin 32) : Statement (.sub e w d a b) := fun _ _ g => nomatch g
theorem and (e : Fin 64) (d : Fin 32) (a : Fin 32) (b : Fin 32) : Statement (.and e d a b) := fun _ _ g => nomatch g
theorem or (e : Fin 64) (d : Fin 32) (a : Fin 32) (b : Fin 32) : Statement (.or e d a b) := fun _ _ g => nomatch g
theorem xor (e : Fin 64) (d : Fin 32) (a : Fin 32) (b : Fin 32) : Statement (.xor e d a b) := fun _ _ g => nomatch g
theorem andn (e : Fin 64) (d : Fin 32) (a : Fin 32) (b : Fin 32) : Statement (.andn e d a b) := fun _ _ g => nomatch g
theorem orn (e : Fin 64) (d : Fin 32) (a : Fin 32) (b : Fin 32) : Statement (.orn e d a b) := fun _ _ g => nomatch g
theorem sll (e : Fin 64) (w : Bool) (d : Fin 32) (a : Fin 32) (b : Fin 32) : Statement (.sll e w d a b) := fun _ _ g => nomatch g
theorem srl (e : Fin 64) (w : Bool) (d : Fin 32) (a : Fin 32) (b : Fin 32) : Statement (.srl e w d a b) := fun _ _ g => nomatch g
theorem sra (e : Fin 64) (w : Bool) (d : Fin 32) (a : Fin 32) (b : Fin 32) : Statement (.sra e w d a b) := fun _ _ g => nomatch g
theorem rol (e : Fin 64) (w : Bool) (d : Fin 32) (a : Fin 32) (b : Fin 32) : Statement (.rol e w d a b) := fun _ _ g => nomatch g
theorem ror (e : Fin 64) (w : Bool) (d : Fin 32) (a : Fin 32) (b : Fin 32) : Statement (.ror e w d a b) := fun _ _ g => nomatch g
theorem slt (e : Fin 64) (d : Fin 32) (a : Fin 32) (b : Fin 32) : Statement (.slt e d a b) := fun _ _ g => nomatch g
theorem sltu (e : Fin 64) (d : Fin 32) (a : Fin 32) (b : Fin 32) : Statement (.sltu e d a b) := fun _ _ g => nomatch g
theorem min (e : Fin 64) (d : Fin 32) (a : Fin 32) (b : Fin 32) : Statement (.min e d a b) := fun _ _ g => nomatch g
theorem max (e : Fin 64) (d : Fin 32) (a : Fin 32) (b : Fin 32) : Statement (.max e d a b) := fun _ _ g => nomatch g
theorem minu (e : Fin 64) (d : Fin 32) (a : Fin 32) (b : Fin 32) : Statement (.minu e d a b) := fun _ _ g => nomatch g
theorem maxu (e : Fin 64) (d : Fin 32) (a : Fin 32) (b : Fin 32) : Statement (.maxu e d a b) := fun _ _ g => nomatch g
theorem clz (e : Fin 64) (w : Bool) (d : Fin 32) (a : Fin 32) : Statement (.clz e w d a) := fun _ _ g => nomatch g
theorem ctz (e : Fin 64) (w : Bool) (d : Fin 32) (a : Fin 32) : Statement (.ctz e w d a) := fun _ _ g => nomatch g
theorem popc (e : Fin 64) (w : Bool) (d : Fin 32) (a : Fin 32) : Statement (.popc e w d a) := fun _ _ g => nomatch g
theorem bswap (e : Fin 64) (w : Bool) (d : Fin 32) (a : Fin 32) : Statement (.bswap e w d a) := fun _ _ g => nomatch g
theorem sextb (e : Fin 64) (d : Fin 32) (a : Fin 32) : Statement (.sextb e d a) := fun _ _ g => nomatch g
theorem sexth (e : Fin 64) (d : Fin 32) (a : Fin 32) : Statement (.sexth e d a) := fun _ _ g => nomatch g
theorem addi (e : Fin 64) (d : Fin 32) (a : Fin 32) (imm : BitVec 16) : Statement (.addi e d a imm) := fun _ _ g => nomatch g
theorem andi (e : Fin 64) (d : Fin 32) (a : Fin 32) (imm : BitVec 16) : Statement (.andi e d a imm) := fun _ _ g => nomatch g
theorem ori (e : Fin 64) (d : Fin 32) (a : Fin 32) (imm : BitVec 16) : Statement (.ori e d a imm) := fun _ _ g => nomatch g
theorem xori (e : Fin 64) (d : Fin 32) (a : Fin 32) (imm : BitVec 16) : Statement (.xori e d a imm) := fun _ _ g => nomatch g
theorem slti (e : Fin 64) (d : Fin 32) (a : Fin 32) (imm : BitVec 16) : Statement (.slti e d a imm) := fun _ _ g => nomatch g
theorem sltiu (e : Fin 64) (d : Fin 32) (a : Fin 32) (imm : BitVec 16) : Statement (.sltiu e d a imm) := fun _ _ g => nomatch g
theorem shi (e : Fin 64) (d : Fin 32) (a : Fin 32) (imm : BitVec 16) : Statement (.shi e d a imm) := fun _ _ g => nomatch g
theorem lsh (e : Fin 64) (d : Fin 32) (a : Fin 32) (imm : BitVec 16) : Statement (.lsh e d a imm) := fun _ _ g => nomatch g
theorem mul (e : Fin 64) (w : Bool) (d : Fin 32) (a : Fin 32) (b : Fin 32) : Statement (.mul e w d a b) := fun _ _ g => nomatch g
theorem mulh (e : Fin 64) (d : Fin 32) (a : Fin 32) (b : Fin 32) : Statement (.mulh e d a b) := fun _ _ g => nomatch g
theorem mulhu (e : Fin 64) (d : Fin 32) (a : Fin 32) (b : Fin 32) : Statement (.mulhu e d a b) := fun _ _ g => nomatch g
theorem mulhsu (e : Fin 64) (d : Fin 32) (a : Fin 32) (b : Fin 32) : Statement (.mulhsu e d a b) := fun _ _ g => nomatch g
theorem div (e : Fin 64) (w : Bool) (d : Fin 32) (a : Fin 32) (b : Fin 32) : Statement (.div e w d a b) := fun _ _ g => nomatch g
theorem divu (e : Fin 64) (w : Bool) (d : Fin 32) (a : Fin 32) (b : Fin 32) : Statement (.divu e w d a b) := fun _ _ g => nomatch g
theorem rem (e : Fin 64) (w : Bool) (d : Fin 32) (a : Fin 32) (b : Fin 32) : Statement (.rem e w d a b) := fun _ _ g => nomatch g
theorem remu (e : Fin 64) (w : Bool) (d : Fin 32) (a : Fin 32) (b : Fin 32) : Statement (.remu e w d a b) := fun _ _ g => nomatch g
theorem fadd (e : Fin 64) (dbl : Bool) (d : Fin 32) (a : Fin 32) (b : Fin 32) : Statement (.fadd e dbl d a b) := fun _ _ g => nomatch g
theorem fsub (e : Fin 64) (dbl : Bool) (d : Fin 32) (a : Fin 32) (b : Fin 32) : Statement (.fsub e dbl d a b) := fun _ _ g => nomatch g
theorem fmul (e : Fin 64) (dbl : Bool) (d : Fin 32) (a : Fin 32) (b : Fin 32) : Statement (.fmul e dbl d a b) := fun _ _ g => nomatch g
theorem fdiv (e : Fin 64) (dbl : Bool) (d : Fin 32) (a : Fin 32) (b : Fin 32) : Statement (.fdiv e dbl d a b) := fun _ _ g => nomatch g
theorem fsqrt (e : Fin 64) (dbl : Bool) (d : Fin 32) (a : Fin 32) : Statement (.fsqrt e dbl d a) := fun _ _ g => nomatch g
theorem fmin (e : Fin 64) (dbl : Bool) (d : Fin 32) (a : Fin 32) (b : Fin 32) : Statement (.fmin e dbl d a b) := fun _ _ g => nomatch g
theorem fmax (e : Fin 64) (dbl : Bool) (d : Fin 32) (a : Fin 32) (b : Fin 32) : Statement (.fmax e dbl d a b) := fun _ _ g => nomatch g
theorem fmac (e : Fin 64) (dbl : Bool) (d : Fin 32) (a : Fin 32) (b : Fin 32) : Statement (.fmac e dbl d a b) := fun _ _ g => nomatch g
theorem fsgnj (e : Fin 64) (dbl : Bool) (d : Fin 32) (a : Fin 32) (b : Fin 32) : Statement (.fsgnj e dbl d a b) := fun _ _ g => nomatch g
theorem fsgnjn (e : Fin 64) (dbl : Bool) (d : Fin 32) (a : Fin 32) (b : Fin 32) : Statement (.fsgnjn e dbl d a b) := fun _ _ g => nomatch g
theorem fsgnjx (e : Fin 64) (dbl : Bool) (d : Fin 32) (a : Fin 32) (b : Fin 32) : Statement (.fsgnjx e dbl d a b) := fun _ _ g => nomatch g
theorem feq (e : Fin 64) (dbl : Bool) (d : Fin 32) (a : Fin 32) (b : Fin 32) : Statement (.feq e dbl d a b) := fun _ _ g => nomatch g
theorem flt (e : Fin 64) (dbl : Bool) (d : Fin 32) (a : Fin 32) (b : Fin 32) : Statement (.flt e dbl d a b) := fun _ _ g => nomatch g
theorem fle (e : Fin 64) (dbl : Bool) (d : Fin 32) (a : Fin 32) (b : Fin 32) : Statement (.fle e dbl d a b) := fun _ _ g => nomatch g
theorem fcvtSD (e : Fin 64) (d : Fin 32) (a : Fin 32) : Statement (.fcvtSD e d a) := fun _ _ g => nomatch g
theorem fcvtDS (e : Fin 64) (d : Fin 32) (a : Fin 32) : Statement (.fcvtDS e d a) := fun _ _ g => nomatch g
theorem fcvtWS (e : Fin 64) (rz : Bool) (d : Fin 32) (a : Fin 32) : Statement (.fcvtWS e rz d a) := fun _ _ g => nomatch g
theorem fcvtWuS (e : Fin 64) (rz : Bool) (d : Fin 32) (a : Fin 32) : Statement (.fcvtWuS e rz d a) := fun _ _ g => nomatch g
theorem fcvtLS (e : Fin 64) (rz : Bool) (d : Fin 32) (a : Fin 32) : Statement (.fcvtLS e rz d a) := fun _ _ g => nomatch g
theorem fcvtLuS (e : Fin 64) (rz : Bool) (d : Fin 32) (a : Fin 32) : Statement (.fcvtLuS e rz d a) := fun _ _ g => nomatch g
theorem fcvtWD (e : Fin 64) (rz : Bool) (d : Fin 32) (a : Fin 32) : Statement (.fcvtWD e rz d a) := fun _ _ g => nomatch g
theorem fcvtWuD (e : Fin 64) (rz : Bool) (d : Fin 32) (a : Fin 32) : Statement (.fcvtWuD e rz d a) := fun _ _ g => nomatch g
theorem fcvtLD (e : Fin 64) (rz : Bool) (d : Fin 32) (a : Fin 32) : Statement (.fcvtLD e rz d a) := fun _ _ g => nomatch g
theorem fcvtLuD (e : Fin 64) (rz : Bool) (d : Fin 32) (a : Fin 32) : Statement (.fcvtLuD e rz d a) := fun _ _ g => nomatch g
theorem fcvtSW (e : Fin 64) (d : Fin 32) (a : Fin 32) : Statement (.fcvtSW e d a) := fun _ _ g => nomatch g
theorem fcvtSWu (e : Fin 64) (d : Fin 32) (a : Fin 32) : Statement (.fcvtSWu e d a) := fun _ _ g => nomatch g
theorem fcvtSL (e : Fin 64) (d : Fin 32) (a : Fin 32) : Statement (.fcvtSL e d a) := fun _ _ g => nomatch g
theorem fcvtSLu (e : Fin 64) (d : Fin 32) (a : Fin 32) : Statement (.fcvtSLu e d a) := fun _ _ g => nomatch g
theorem fcvtDW (e : Fin 64) (d : Fin 32) (a : Fin 32) : Statement (.fcvtDW e d a) := fun _ _ g => nomatch g
theorem fcvtDWu (e : Fin 64) (d : Fin 32) (a : Fin 32) : Statement (.fcvtDWu e d a) := fun _ _ g => nomatch g
theorem fcvtDL (e : Fin 64) (d : Fin 32) (a : Fin 32) : Statement (.fcvtDL e d a) := fun _ _ g => nomatch g
theorem fcvtDLu (e : Fin 64) (d : Fin 32) (a : Fin 32) : Statement (.fcvtDLu e d a) := fun _ _ g => nomatch g
theorem fclassS (e : Fin 64) (d : Fin 32) (a : Fin 32) : Statement (.fclassS e d a) := fun _ _ g => nomatch g
theorem fclassD (e : Fin 64) (d : Fin 32) (a : Fin 32) : Statement (.fclassD e d a) := fun _ _ g => nomatch g
theorem lb (e : Fin 64) (d : Fin 32) (a : Fin 32) (imm : BitVec 16) : Statement (.lb e d a imm) := fun _ _ g => nomatch g
theorem lbu (e : Fin 64) (d : Fin 32) (a : Fin 32) (imm : BitVec 16) : Statement (.lbu e d a imm) := fun _ _ g => nomatch g
theorem lh (e : Fin 64) (d : Fin 32) (a : Fin 32) (imm : BitVec 16) : Statement (.lh e d a imm) := fun _ _ g => nomatch g
theorem lhu (e : Fin 64) (d : Fin 32) (a : Fin 32) (imm : BitVec 16) : Statement (.lhu e d a imm) := fun _ _ g => nomatch g
theorem lw (e : Fin 64) (d : Fin 32) (a : Fin 32) (imm : BitVec 16) : Statement (.lw e d a imm) := fun _ _ g => nomatch g
theorem lwu (e : Fin 64) (d : Fin 32) (a : Fin 32) (imm : BitVec 16) : Statement (.lwu e d a imm) := fun _ _ g => nomatch g
theorem ld (e : Fin 64) (d : Fin 32) (a : Fin 32) (imm : BitVec 16) : Statement (.ld e d a imm) := fun _ _ g => nomatch g
theorem ldp (e : Fin 64) (d : Fin 32) (a : Fin 32) (imm : BitVec 16) : Statement (.ldp e d a imm) := fun _ _ g => nomatch g
theorem sb (e : Fin 64) (d : Fin 32) (a : Fin 32) (imm : BitVec 16) : Statement (.sb e d a imm) := fun _ _ g => nomatch g
theorem sh (e : Fin 64) (d : Fin 32) (a : Fin 32) (imm : BitVec 16) : Statement (.sh e d a imm) := fun _ _ g => nomatch g
theorem sw (e : Fin 64) (d : Fin 32) (a : Fin 32) (imm : BitVec 16) : Statement (.sw e d a imm) := fun _ _ g => nomatch g
theorem sd (e : Fin 64) (d : Fin 32) (a : Fin 32) (imm : BitVec 16) : Statement (.sd e d a imm) := fun _ _ g => nomatch g
theorem stp (e : Fin 64) (d : Fin 32) (a : Fin 32) (imm : BitVec 16) : Statement (.stp e d a imm) := fun _ _ g => nomatch g
theorem lr (e : Fin 64) (d : Fin 32) (a : Fin 32) (w : Bool) : Statement (.lr e d a w) := fun _ _ g => nomatch g
theorem sc (e : Fin 64) (d : Fin 32) (b : Fin 32) (a : Fin 32) (w : Bool) : Statement (.sc e d b a w) := fun _ _ g => nomatch g
theorem amoswap (e : Fin 64) (d : Fin 32) (b : Fin 32) (a : Fin 32) (w : Bool) : Statement (.amoswap e d b a w) := fun _ _ g => nomatch g
theorem amoadd (e : Fin 64) (d : Fin 32) (b : Fin 32) (a : Fin 32) (w : Bool) : Statement (.amoadd e d b a w) := fun _ _ g => nomatch g
theorem amoand (e : Fin 64) (d : Fin 32) (b : Fin 32) (a : Fin 32) (w : Bool) : Statement (.amoand e d b a w) := fun _ _ g => nomatch g
theorem amoor (e : Fin 64) (d : Fin 32) (b : Fin 32) (a : Fin 32) (w : Bool) : Statement (.amoor e d b a w) := fun _ _ g => nomatch g
theorem amoxor (e : Fin 64) (d : Fin 32) (b : Fin 32) (a : Fin 32) (w : Bool) : Statement (.amoxor e d b a w) := fun _ _ g => nomatch g
theorem amomin (e : Fin 64) (d : Fin 32) (b : Fin 32) (a : Fin 32) (w : Bool) : Statement (.amomin e d b a w) := fun _ _ g => nomatch g
theorem amomax (e : Fin 64) (d : Fin 32) (b : Fin 32) (a : Fin 32) (w : Bool) : Statement (.amomax e d b a w) := fun _ _ g => nomatch g
theorem amominu (e : Fin 64) (d : Fin 32) (b : Fin 32) (a : Fin 32) (w : Bool) : Statement (.amominu e d b a w) := fun _ _ g => nomatch g
theorem amomaxu (e : Fin 64) (d : Fin 32) (b : Fin 32) (a : Fin 32) (w : Bool) : Statement (.amomaxu e d b a w) := fun _ _ g => nomatch g
theorem cas (e : Fin 64) (d : Fin 32) (b : Fin 32) (a : Fin 32) (w : Bool) : Statement (.cas e d b a w) := fun _ _ g => nomatch g
theorem beq (e : Fin 64) (a : Fin 32) (b : Fin 32) (off : BitVec 16) : Statement (.beq e a b off) := fun _ _ g => nomatch g
theorem bne (e : Fin 64) (a : Fin 32) (b : Fin 32) (off : BitVec 16) : Statement (.bne e a b off) := fun _ _ g => nomatch g
theorem blt (e : Fin 64) (a : Fin 32) (b : Fin 32) (off : BitVec 16) : Statement (.blt e a b off) := fun _ _ g => nomatch g
theorem bge (e : Fin 64) (a : Fin 32) (b : Fin 32) (off : BitVec 16) : Statement (.bge e a b off) := fun _ _ g => nomatch g
theorem bltu (e : Fin 64) (a : Fin 32) (b : Fin 32) (off : BitVec 16) : Statement (.bltu e a b off) := fun _ _ g => nomatch g
theorem bgeu (e : Fin 64) (a : Fin 32) (b : Fin 32) (off : BitVec 16) : Statement (.bgeu e a b off) := fun _ _ g => nomatch g
theorem j (e : Fin 64) (off : BitVec 26) : Statement (.j e off) := fun _ _ g => nomatch g
theorem jal (e : Fin 64) (off : BitVec 26) : Statement (.jal e off) := fun _ _ g => nomatch g
theorem jalr (e : Fin 64) (d : Fin 32) (a : Fin 32) (imm : BitVec 16) : Statement (.jalr e d a imm) := fun _ _ g => nomatch g
theorem barD (e : Fin 64) (d : Fin 32) : Statement (.barD e d) := fun _ _ g => nomatch g
theorem barA (e : Fin 64) (d : Fin 32) : Statement (.barA e d) := fun _ _ g => nomatch g
theorem barS (e : Fin 64) (d : Fin 32) : Statement (.barS e d) := fun _ _ g => nomatch g
theorem srd (e : Fin 64) (d : Fin 32) (sr : Fin 32) : Statement (.srd e d sr) := fun _ _ g => nomatch g
theorem swr (e : Fin 64) (sr : Fin 32) (a : Fin 32) : Statement (.swr e sr a) := fun _ _ g => nomatch g
theorem brk (e : Fin 64) : Statement (.brk e) := fun _ _ g => nomatch g
theorem eret (e : Fin 64) : Statement (.eret e) := fun _ _ g => nomatch g
theorem yield (e : Fin 64) : Statement (.yield e) := fun _ _ g => nomatch g
theorem halt (e : Fin 64) : Statement (.halt e) := fun _ _ g => nomatch g
theorem trap (e : Fin 64) (imm : BitVec 16) : Statement (.trap e imm) := fun _ _ g => nomatch g
theorem fld (e : Fin 64) (d : Fin 32) (a : Fin 32) (cls : Fin 4) (sz : Fin 8) (sw : Fin 4) (tm : Bool) (off : BitVec 8) : Statement (.fld e d a cls sz sw tm off) := fun _ _ g => nomatch g
theorem fst (e : Fin 64) (d : Fin 32) (a : Fin 32) (cls : Fin 4) (sz : Fin 8) (sw : Fin 4) (tm : Bool) (off : BitVec 8) : Statement (.fst e d a cls sz sw tm off) := fun _ _ g => nomatch g
theorem fstn (e : Fin 64) (d : Fin 32) (a : Fin 32) (cls : Fin 4) (sz : Fin 8) (sw : Fin 4) (tm : Bool) (off : BitVec 8) : Statement (.fstn e d a cls sz sw tm off) := fun _ _ g => nomatch g
theorem gath (e : Fin 64) (d : Fin 32) (a : Fin 32) (cls : Fin 4) (sw : Fin 4) (tm : Bool) (n : BitVec 8) : Statement (.gath e d a cls sw tm n) := fun _ _ g => nomatch g
theorem scat (e : Fin 64) (d : Fin 32) (a : Fin 32) (cls : Fin 4) (sw : Fin 4) (tm : Bool) (n : BitVec 8) : Statement (.scat e d a cls sw tm n) := fun _ _ g => nomatch g
theorem imgcp (e : Fin 64) (d : Fin 32) (a : Fin 32) (outImg : Bool) (toImage : Bool) : Statement (.imgcp e d a outImg toImage) := fun _ _ g => nomatch g
theorem ltset (e : Fin 64) (r : Fin 32) (ph : Fin 8) (t : BitVec 18) : Statement (.ltset e r ph t) := fun _ _ g => nomatch g
theorem ltabs (e : Fin 64) (r : Fin 32) : Statement (.ltabs e r) := fun _ _ g => nomatch g
theorem waitph (e : Fin 64) (r : Fin 32) (ph : Fin 8) (t : BitVec 18) : Statement (.waitph e r ph t) := fun _ _ g => nomatch g
theorem waitt (e : Fin 64) (r : Fin 32) : Statement (.waitt e r) := fun _ _ g => nomatch g
theorem delta (e : Fin 64) (d : Fin 32) (a : Fin 32) (sz : Fin 8) (be : Bool) (cnt : Bool) (mode : Fin 4) : Statement (.delta e d a sz be cnt mode) := fun _ _ g => nomatch g
theorem japp (e : Fin 64) (d : Fin 32) (a : Fin 32) : Statement (.japp e d a) := fun _ _ g => nomatch g
theorem scale (e : Fin 64) (d : Fin 32) (a : Fin 32) (k : BitVec 8) (sz : Fin 8) (rev : Bool) (sg : Bool) (s32 : Bool) : Statement (.scale e d a k sz rev sg s32) := fun _ _ g => nomatch g
theorem crc (e : Fin 64) (d : Fin 32) (a : Fin 32) (n : BitVec 8) (mode : Fin 8) : Statement (.crc e d a n mode) := fun _ _ g => nomatch g
theorem evpost (e : Fin 64) (d : Fin 32) (a : Fin 32) (target : Fin 4) (urgent : Bool) : Statement (.evpost e d a target urgent) := fun _ _ g => nomatch g
theorem evwait (e : Fin 64) (d : Fin 32) (a : Fin 32) (t : BitVec 8) : Statement (.evwait e d a t) := fun _ _ g => nomatch g
theorem hostBar2Read (tag : Nat) (rid : Nat) (off : BitVec 36) (be : List Bool) : Statement (.hostBar2Read tag rid off be) := fun _ _ g => nomatch g
theorem hostBar2Write (rid : Nat) (off : BitVec 36) (be : List Bool) (data : List Byte) : Statement (.hostBar2Write rid off be data) := fun _ _ g => nomatch g
theorem hostBar4Read (tag : Nat) (rid : Nat) (off : BitVec 34) (n : Nat) : Statement (.hostBar4Read tag rid off n) := fun _ _ g => nomatch g
theorem hostBar4Write (off : BitVec 34) (be : List Bool) (data : List Byte) : Statement (.hostBar4Write off be data) := fun _ _ g => nomatch g
theorem hostAtomicop (tag : Nat) (rid : Nat) (bar : Fin 3) (off : BitVec 36) : Statement (.hostAtomicop tag rid bar off) := fun _ _ g => nomatch g
theorem sramWindowAccess (tag : Nat) (off : BitVec 26) (n : Nat) (data : Option (List Byte)) : Statement (.sramWindowAccess tag off n data) := fun _ _ g => nomatch g
theorem hostReadAbandon (tag : Nat) : Statement (.hostReadAbandon tag) := fun _ _ g => nomatch g
theorem stationTimeout (b : Nat) : Statement (.stationTimeout b) := fun _ _ g => nomatch g
theorem cwpGo (k : Fin 8) : Statement (.cwpGo k) := fun _ _ g => nomatch g
theorem cwpStatusRead (m : BitVec 7) (k : Fin 8) : Statement (.cwpStatusRead m k) := fun _ _ g => nomatch g
theorem orphanPop : Statement .orphanPop := fun _ _ g => nomatch g
theorem eventFenceSatisfied (idx : Nat) : Statement (.eventFenceSatisfied idx) := fun _ _ g => nomatch g
theorem fenceTimeout (idx : Nat) : Statement (.fenceTimeout idx) := fun _ _ g => nomatch g
theorem uhluxOutboundStart (p : Fin 2) : Statement (.uhluxOutboundStart p) := fun _ _ g => nomatch g
theorem uhluxAck (p : Fin 2) (data : BitVec 16) : Statement (.uhluxAck p data) := fun _ _ g => nomatch g
theorem uhluxBerr (p : Fin 2) : Statement (.uhluxBerr p) := fun _ _ g => nomatch g
theorem uhluxCycleTimeout (p : Fin 2) : Statement (.uhluxCycleTimeout p) := fun _ _ g => nomatch g
theorem uhluxSlotAbsent (p : Fin 2) (slot : Fin 16) : Statement (.uhluxSlotAbsent p slot) := fun _ _ g => nomatch g
theorem uhluxReadTimeout (b : Nat) : Statement (.uhluxReadTimeout b) := fun _ _ g => nomatch g
theorem uhluxBusHogTimeout (p : Fin 2) : Statement (.uhluxBusHogTimeout p) := fun _ _ g => nomatch g
theorem uhluxBusRequest (p : Fin 2) : Statement (.uhluxBusRequest p) := fun _ _ g => nomatch g
theorem uhluxBbsy (p : Fin 2) (low : Bool) : Statement (.uhluxBbsy p low) := fun _ _ g => nomatch g
theorem uhluxInboundCycle (p : Fin 2) (a : BitVec 24) (word : Bool) (lock : Bool) (data : Option (BitVec 16)) : Statement (.uhluxInboundCycle p a word lock data) := fun _ _ g => nomatch g
theorem uhluxInboundWritePerform (p : Fin 2) : Statement (.uhluxInboundWritePerform p) := fun _ _ g => nomatch g
theorem uhluxSlaveAckTimeout (p : Fin 2) : Statement (.uhluxSlaveAckTimeout p) := fun _ _ g => nomatch g
theorem uhluxBusTimer (p : Fin 2) (a : BitVec 24) : Statement (.uhluxBusTimer p a) := fun _ _ g => nomatch g
theorem uhluxIrq (p : Fin 2) (levels : BitVec 7) : Statement (.uhluxIrq p levels) := fun _ _ g => nomatch g
theorem uhluxIrqResample (p : Fin 2) (level : Fin 8) : Statement (.uhluxIrqResample p level) := fun _ _ g => nomatch g
theorem uhluxIrqAutoDisable (p : Fin 2) (level : Fin 8) : Statement (.uhluxIrqAutoDisable p level) := fun _ _ g => nomatch g
theorem uhluxSysreset (p : Fin 2) : Statement (.uhluxSysreset p) := fun _ _ g => nomatch g
theorem uhluxSysresetEnd (p : Fin 2) : Statement (.uhluxSysresetEnd p) := fun _ _ g => nomatch g
theorem uxSlotReadmit (p : Fin 2) (mask : BitVec 16) : Statement (.uxSlotReadmit p mask) := fun _ _ g => nomatch g
theorem holdoffTimerEnd (id : BitVec 16) : Statement (.holdoffTimerEnd id) := fun _ _ g => nomatch g
theorem eventHeldDeliver (e : Fin 64) : Statement (.eventHeldDeliver e) := fun _ _ g => nomatch g
theorem msixUnmask (v : Option (BitVec 11)) : Statement (.msixUnmask v) := fun _ _ g => nomatch g
theorem pcieLinkL0Return : Statement .pcieLinkL0Return := fun _ _ g => nomatch g
theorem reflexTableCompare (idx : Fin 4096) (upset : Option (Fin 2 × Fin 4096 × Fin 10 × U64)) : Statement (.reflexTableCompare idx upset) := fun _ _ g => nomatch g
theorem interlockInputChange (k : Fin 6) (level : Bool) : Statement (.interlockInputChange k level) := fun _ _ g => nomatch g
theorem nocPacketInject (src : Fin 24) (dst : Fin 24) (sport : Fin 4) (dport : Fin 4) (master : BitVec 7) (cls : Fin 4) (op : BitVec 4) (tag : BitVec 10) (addr : BitVec 48) (bseq : U64) (code : Byte) (data : List Byte) : Statement (.nocPacketInject src dst sport dport master cls op tag addr bseq code data) := fun _ _ g => nomatch g
theorem nocPacketDeliver (idx : Nat) (hop : Nat) (noise : List (BitVec 264)) : Statement (.nocPacketDeliver idx hop noise) := fun _ _ g => nomatch g
theorem nocTargetTimeout (idx : Nat) : Statement (.nocTargetTimeout idx) := fun _ _ g => nomatch g
theorem nocPortIsolate (r : Fin 24) : Statement (.nocPortIsolate r) := fun _ _ g => nomatch g
theorem ncPortIsolateWrite (r : Fin 24) : Statement (.ncPortIsolateWrite r) := fun _ _ g => nomatch g
theorem ncPortRelease (r : Fin 24) : Statement (.ncPortRelease r) := fun _ _ g => nomatch g
theorem dovetailPortHoldExpire (bridge : Bool) (idx : Nat) : Statement (.dovetailPortHoldExpire bridge idx) := fun _ _ g => nomatch g
theorem clusterGateIdleExpire (c : Fin 16) : Statement (.clusterGateIdleExpire c) := fun _ _ g => nomatch g
theorem clusterSwitchOpen (c : Fin 16) : Statement (.clusterSwitchOpen c) := fun _ _ g => nomatch g
theorem clusterWake (c : Fin 16) : Statement (.clusterWake c) := fun _ _ g => nomatch g
theorem clusterWakeDone (c : Fin 16) : Statement (.clusterWakeDone c) := fun _ _ g => nomatch g
theorem ptClearFirst : Statement .ptClearFirst := fun _ _ g => nomatch g
theorem journalEntryWrite : Statement .journalEntryWrite := fun _ _ g => nomatch g
theorem journalReaderRead (master : BitVec 7) (r : Fin 4) : Statement (.journalReaderRead master r) := fun _ _ g => nomatch g
theorem journalCursorWrite (r : Fin 4) (v : U64) : Statement (.journalCursorWrite r v) := fun _ _ g => nomatch g
theorem jnDegradeWrite (v : Bool) : Statement (.jnDegradeWrite v) := fun _ _ g => nomatch g
theorem moverDescEnqueue (master : BitVec 7) (c : Fin 8) (word3 : U64) : Statement (.moverDescEnqueue master c word3) := fun _ _ g => nomatch g
theorem moverStart (c : Fin 8) : Statement (.moverStart c) := fun _ _ g => nomatch g
theorem moverDone (c : Fin 8) (data : List Byte) (ok : Bool) : Statement (.moverDone c data ok) := fun _ _ g => nomatch g
theorem moverBmeTimeout (c : Fin 8) : Statement (.moverBmeTimeout c) := fun _ _ g => nomatch g
theorem scrubLine (line : BitVec 28) (corr : BitVec 8) (bad : BitVec 8) : Statement (.scrubLine line corr bad) := fun _ _ g => nomatch g
theorem clampRingPort (p : Fin 8) (set : Bool) : Statement (.clampRingPort p set) := fun _ _ g => nomatch g
theorem clampUhluxPort (p : Fin 2) (set : Bool) : Statement (.clampUhluxPort p set) := fun _ _ g => nomatch g
theorem clampDram (set : Bool) : Statement (.clampDram set) := fun _ _ g => nomatch g
theorem clampMovers (set : Bool) : Statement (.clampMovers set) := fun _ _ g => nomatch g
theorem clampTenon (set : Bool) : Statement (.clampTenon set) := fun _ _ g => nomatch g
theorem errorLogClear : Statement .errorLogClear := fun _ _ g => nomatch g
theorem selfTestClusterBist (c : Fin 16) (migrate : Bool) : Statement (.selfTestClusterBist c migrate) := fun _ _ g => nomatch g
theorem selfTestRingRecal (p : Fin 16) : Statement (.selfTestRingRecal p) := fun _ _ g => nomatch g
theorem bistDone (ok : Bool) (element : BitVec 8) : Statement (.bistDone ok element) := fun _ _ g => nomatch g
theorem recalDone : Statement .recalDone := fun _ _ g => nomatch g
theorem twinTime (t : U64) : Statement (.twinTime t) := fun _ _ g => nomatch g
theorem twinBankData (bank : Fin 4) (off : Nat) (data : List Byte) : Statement (.twinBankData bank off data) := fun _ _ g => nomatch g
theorem twinStagedSet (pairs : List (Nat × U64)) : Statement (.twinStagedSet pairs) := fun _ _ g => nomatch g
theorem twinDeclData (region : Fin 8) (off : Nat) (data : List Byte) : Statement (.twinDeclData region off data) := fun _ _ g => nomatch g
theorem twinCounters (jn : U64) (br : U64) (seqs : List (Nat × Nat)) (regs : List (Nat × U64)) : Statement (.twinCounters jn br seqs regs) := fun _ _ g => nomatch g
theorem twinFailureDecl (cause : BitVec 16) : Statement (.twinFailureDecl cause) := fun _ _ g => nomatch g
theorem twinBeatSealed (beat : BitVec 32) (count : Nat) : Statement (.twinBeatSealed beat count) := fun _ _ g => nomatch g
theorem twinSealAck (beat : BitVec 32) : Statement (.twinSealAck beat) := fun _ _ g => nomatch g
theorem twinDownbeatMissing : Statement .twinDownbeatMissing := fun _ _ g => nomatch g
theorem twTakeover : Statement .twTakeover := fun _ _ g => nomatch g
theorem twResign : Statement .twResign := fun _ _ g => nomatch g
theorem tenonLinkDown : Statement .tenonLinkDown := fun _ _ g => nomatch g
theorem dovetailFlitReceive (d : Fin 2) (noise : BitVec 680) : Statement (.dovetailFlitReceive d noise) := fun _ _ g => nomatch g
theorem dovetailLaneLockLoss (d : Fin 2) (lane : Fin 17) : Statement (.dovetailLaneLockLoss d lane) := fun _ _ g => nomatch g
theorem dovetailErrorRateCheck : Statement .dovetailErrorRateCheck := fun _ _ g => nomatch g
theorem dovetailRetrainRequest : Statement .dovetailRetrainRequest := fun _ _ g => nomatch g
theorem dovetailUnspare : Statement .dovetailUnspare := fun _ _ g => nomatch g
theorem dovetailRetrainDone (h2f : BitVec 17) (f2h : BitVec 17) : Statement (.dovetailRetrainDone h2f f2h) := fun _ _ g => nomatch g
theorem dovetailRetrainTimeout : Statement .dovetailRetrainTimeout := fun _ _ g => nomatch g
theorem dovetailTrainingStart : Statement .dovetailTrainingStart := fun _ _ g => nomatch g
theorem dovetailTrainingDone (h2f : BitVec 17) (f2h : BitVec 17) : Statement (.dovetailTrainingDone h2f f2h) := fun _ _ g => nomatch g
theorem dovetailTrainingTimeout : Statement .dovetailTrainingTimeout := fun _ _ g => nomatch g
theorem dieReady (die : Fin 2) (dom : Fin 12) (entries : Nat) : Statement (.dieReady die dom entries) := fun _ _ g => nomatch g
theorem clockDomainResume (b : Fin 12) : Statement (.clockDomainResume b) := fun _ _ g => nomatch g
theorem feedValidChange (f : Fin 2) (valid : Bool) (excess : Bool) (mv : BitVec 16) : Statement (.feedValidChange f valid excess mv) := fun _ _ g => nomatch g
theorem seatChange (pin : Fin 2) (closed : Bool) : Statement (.seatChange pin closed) := fun _ _ g => nomatch g
theorem enChange (high : Bool) : Statement (.enChange high) := fun _ _ g => nomatch g
theorem seatingDone : Statement .seatingDone := fun _ _ g => nomatch g
theorem prechargeDone : Statement .prechargeDone := fun _ _ g => nomatch g
theorem prechargeTimeout : Statement .prechargeTimeout := fun _ _ g => nomatch g
theorem gateFullyOn : Statement .gateFullyOn := fun _ _ g => nomatch g
theorem currentLimitChange (active : Bool) : Statement (.currentLimitChange active) := fun _ _ g => nomatch g
theorem faultTimerExpire : Statement .faultTimerExpire := fun _ _ g => nomatch g
theorem hardShortTrip : Statement .hardShortTrip := fun _ _ g => nomatch g
theorem pgQuietWindowExpire : Statement .pgQuietWindowExpire := fun _ _ g => nomatch g
theorem enLatchClearTimer : Statement .enLatchClearTimer := fun _ _ g => nomatch g
theorem enOffTimer : Statement .enOffTimer := fun _ _ g => nomatch g
theorem noFeedTimeout : Statement .noFeedTimeout := fun _ _ g => nomatch g
theorem domainPowerUpStep : Statement .domainPowerUpStep := fun _ _ g => nomatch g
theorem sfpCageOverload (p : Fin 8) : Statement (.sfpCageOverload p) := fun _ _ g => nomatch g
theorem domainConverterFault (d : Fin 6) : Statement (.domainConverterFault d) := fun _ _ g => nomatch g
theorem dramTrainingDone (ok : Bool) : Statement (.dramTrainingDone ok) := fun _ _ g => nomatch g
theorem bootComplete : Statement .bootComplete := fun _ _ g => nomatch g
theorem perstAssert : Statement .perstAssert := fun _ _ g => nomatch g
theorem flr : Statement .flr := fun _ _ g => nomatch g
theorem pcieLinkDown : Statement .pcieLinkDown := fun _ _ g => nomatch g
theorem pcieD3hotEnter : Statement .pcieD3hotEnter := fun _ _ g => nomatch g
theorem pcieBusMasterDisable : Statement .pcieBusMasterDisable := fun _ _ g => nomatch g
theorem getId (t : Fin 3) (auth : Bool) : Statement (.getId t auth) := fun _ _ g => nomatch g
theorem getHealth (t : Fin 3) (auth : Bool) : Statement (.getHealth t auth) := fun _ _ g => nomatch g
theorem getPower (t : Fin 3) (auth : Bool) : Statement (.getPower t auth) := fun _ _ g => nomatch g
theorem getThermal (t : Fin 3) (auth : Bool) : Statement (.getThermal t auth) := fun _ _ g => nomatch g
theorem setThresh (t : Fin 3) (auth : Bool) (sensor : BitVec 8) (warn : BitVec 8) (crit : BitVec 8) : Statement (.setThresh t auth sensor warn crit) := fun _ _ g => nomatch g
theorem readLog (t : Fin 3) (auth : Bool) (pos : BitVec 16) : Statement (.readLog t auth pos) := fun _ _ g => nomatch g
theorem clearLog (t : Fin 3) (auth : Bool) : Statement (.clearLog t auth) := fun _ _ g => nomatch g
theorem readNvlog (t : Fin 3) (auth : Bool) (index : BitVec 16) : Statement (.readNvlog t auth index) := fun _ _ g => nomatch g
theorem selfTest (t : Fin 3) (auth : Bool) (req : BitVec 32) : Statement (.selfTest t auth req) := fun _ _ g => nomatch g
theorem testStatus (t : Fin 3) (auth : Bool) : Statement (.testStatus t auth) := fun _ _ g => nomatch g
theorem fwBegin (t : Fin 3) (auth : Bool) (kind : BitVec 8) (len : BitVec 32) : Statement (.fwBegin t auth kind len) := fun _ _ g => nomatch g
theorem fwData (t : Fin 3) (auth : Bool) (off : BitVec 32) (data : List Byte) : Statement (.fwData t auth off data) := fun _ _ g => nomatch g
theorem fwVerify (t : Fin 3) (auth : Bool) : Statement (.fwVerify t auth) := fun _ _ g => nomatch g
theorem fwActivate (t : Fin 3) (auth : Bool) : Statement (.fwActivate t auth) := fun _ _ g => nomatch g
theorem moduleReset (t : Fin 3) (auth : Bool) (kind : BitVec 8) : Statement (.moduleReset t auth kind) := fun _ _ g => nomatch g
theorem setClamp (t : Fin 3) (auth : Bool) (v : BitVec 32) : Statement (.setClamp t auth v) := fun _ _ g => nomatch g
theorem sensorPoll (t0 : BitVec 16) (t1 : BitVec 16) (t2 : BitVec 16) (t3 : BitVec 16) (t4 : BitVec 16) : Statement (.sensorPoll t0 t1 t2 t3 t4) := fun _ _ g => nomatch g
theorem mcWatchdogExpire : Statement .mcWatchdogExpire := fun _ _ g => nomatch g
theorem pcsBlockLock (p : Fin 8) : Statement (.pcsBlockLock p) := fun _ _ g => nomatch g
theorem tenonLinkUp : Statement .tenonLinkUp := fun _ _ g => nomatch g
theorem ptpSyncMissing : Statement .ptpSyncMissing := fun _ _ g => nomatch g
theorem ptmL0AbsenceTimeout : Statement .ptmL0AbsenceTimeout := fun _ _ g => nomatch g
theorem illegalInstruction (e : Fin 64) : Statement (.illegalInstruction e) := fun _ _ g => nomatch g
theorem instructionFetchFault (e : Fin 64) : Statement (.instructionFetchFault e) := fun _ _ g => nomatch g
theorem badFrameReceive (p : Fin 8) (l6 : BitVec 8) (l7 : BitVec 8) (bs : List Byte) (uncorrected : Nat) : Statement (.badFrameReceive p l6 l7 bs uncorrected) := fun _ _ g => nomatch g
theorem transitFrameForward (p : Fin 8) (f : Frame) : Statement (.transitFrameForward p f) := fun h _ g => by cases g; exact of_wf h
theorem pcieD0Return : Statement .pcieD0Return := fun _ _ g => nomatch g
theorem pcieBusMasterEnable : Statement .pcieBusMasterEnable := fun _ _ g => nomatch g
theorem jtagReset : Statement .jtagReset := fun _ _ g => nomatch g
theorem imageCopyComplete (out : Bool) : Statement (.imageCopyComplete out) := fun _ _ g => nomatch g

end Sys2Proof.Laws.Payload
end

