-- ==== Sys2Proof/Tests/Slice0.lean ====
section
/-!
SUPPORT. The author's own tests: the WellFormed smoke, single steps whose expected results come from the spec or from hand
calculation, and for every statement with hypotheses a witness: concrete states and operands that meet them, clause by clause.
-/
namespace Sys2Proof.Tests
open Sys2Proof Sys2Proof.Machine

set_option Elab.async false

/-- The module after one command. -/
def after (c : Instr) (s : State) : Mach := match exec c s with
  | .next t => t.m
  | _ => State.reset.m

/-- A frame that fits every field of its header. -/
def okFrame : Frame := { type := 2, cls := 1, len := 4, payload := [1, 2, 3, 4] }

/-! ### Ill-formed terms, one per check -/

theorem test_wf_registerWrite : wellFormed (.registerWrite 0x40 0 0 true 0) = false ∧ wellFormed (.registerWrite 0x40 0 9 true 0) = false ∧
    wellFormed (.registerWrite 0x40 0 8 true 0) = true := by decide
theorem test_wf_time : wellFormed (.ptpSyncReceive 256 true 0 0 0) = false ∧ wellFormed (.ptpSyncReceive 255 true (2 ^ 64) 0 0) = false ∧
    wellFormed (.ptpSyncReceive 255 true 0 (2 ^ 64) 0) = false ∧ wellFormed (.ptpSyncReceive 255 true 0 0 (2 ^ 64)) = false ∧
    wellFormed (.ptpAnnounceReceive 256 true) = false ∧ wellFormed (.ppsEdge (2 ^ 64) false false) = false ∧
    wellFormed (.ptpSyncReceive 255 true 0 0 0) = true := by decide
theorem test_wf_ports : wellFormed (.sfpInsert 0 256) = false ∧ wellFormed (.frameTransmit 0 (some 65)) = false ∧
    wellFormed (.frameTransmit 0 (some 64)) = true := by decide
theorem test_wf_frame_fields : Frame.wf okFrame = true ∧ Frame.wf { okFrame with type := 16 } = false ∧ Frame.wf { okFrame with cls := 4 } = false ∧
    Frame.wf { okFrame with flags := 4 } = false ∧ Frame.wf { okFrame with route := 4 } = false ∧
    Frame.wf { okFrame with dest := 2 ^ 14 } = false ∧ Frame.wf { okFrame with origin := 4 } = false ∧
    Frame.wf { okFrame with src := 2 ^ 14 } = false ∧ Frame.wf { okFrame with seq := 2 ^ 16 } = false ∧
    Frame.wf { okFrame with launch := 2 ^ 32 } = false ∧ Frame.wf { okFrame with word := 2 ^ 32 } = false ∧
    Frame.wf { okFrame with len := 5 } = false ∧ Frame.wf { okFrame with acc := 2 ^ 16 } = false ∧
    Frame.wf { okFrame with hops := 256 } = false ∧ Frame.wf { okFrame with aux := 2 ^ 32 } = false ∧
    Frame.wf { okFrame with lseq := 2 ^ 16 } = false ∧ Frame.wf { okFrame with retry := 256 } = false := by decide
theorem test_wf_frame_commands : ∀ f, f = { okFrame with cls := 4 } →
    [Instr.downbeatLoopReturn 0 f, .calDownbeatReceive 0 f, .linkFrameReceive 0 f 0, .imageInReceive 0 f, .readResponseReceive 0 f,
     .writeAckReceive 0 f, .eventFrameTc0 0 f none, .eventFrameTc2 0 f, .voteReceive 0 f, .enumAnswerReceive 0 f, .enumProbeReturn 0 f,
     .delayAnswerReceive 0 f, .transitFrameForward 0 f].map wellFormed = List.replicate 13 false := by
  intro f h; subst h; decide
theorem test_wf_host : wellFormed (.hostBar2Read 1024 0 0 []) = false ∧ wellFormed (.hostBar2Read 0 65536 0 []) = false ∧
    wellFormed (.hostBar2Write 65536 0 [] []) = false ∧ wellFormed (.hostBar2Write 0 0 [true] []) = false ∧
    wellFormed (.hostBar4Read 0 0 0 4097) = false ∧ wellFormed (.hostBar4Write 0 [true] []) = false ∧
    wellFormed (.hostAtomicop 1024 0 0 0) = false ∧ wellFormed (.hostReadAbandon 1024) = false ∧
    wellFormed (.sramWindowAccess 0 0 1 (some [])) = false ∧ wellFormed (.sramWindowAccess 0 0 4097 none) = false := by decide
theorem test_wf_lengths : wellFormed (.isramWrite 0 0 (List.replicate 513 0)) = false ∧
    wellFormed (.nocPacketInject 0 0 0 0 0 0 0 0 0 0 0 (List.replicate 1025 0)) = false ∧ wellFormed (.twinBankData 0 (2 ^ 24) []) = false ∧
    wellFormed (.twinBankData 0 0 (List.replicate 1017 0)) = false ∧ wellFormed (.twinDeclData 0 (2 ^ 34) []) = false ∧
    wellFormed (.twinStagedSet (List.replicate 65 (0, 0))) = false ∧ wellFormed (.twinCounters 0 0 [(1, 2 ^ 16)] []) = false := by decide +kernel
theorem test_wf_firmware : wellFormed (.hostBar2Read 0 0 0 (List.replicate 4097 true)) = false ∧
    wellFormed (.fwData 0 true 0 (List.replicate 4097 0)) = false := by decide +kernel
theorem test_decodeTableWord : decodeTableWord 32 0 = none := rfl

/-! ### Witnesses: each theorem gives states and operands that meet the hypotheses of the statement it is named after, clause by clause -/

/-- A state with this module. -/
def st (m : Mach) : State := { State.reset with m := m }
def m0 : Mach := State.reset.m
/-- Both dies up, the dovetail link up, module DRAM ready. -/
def mUp : Mach := ({ m0 with now := 5000, cycles := 7000 }.setF DV_STATUS_state 2).setF JN_STATUS_dram_ok 1
/-- An engine that runs at supervisor level with these general registers. -/
def eng (g : List (Nat × U64)) : Engine := { state := 3, level := 1, arch := { g := g }, vbase := 0x800 }
/-- Engine 1 is x, in module m. -/
def withEng (m : Mach) (x : Engine) : State := st (m.setEng 1 x)
/-- Engine 1 runs with g2, g3 and g4 given. -/
def ops (a b c : U64) : State := withEng mUp (eng [(2, a), (3, b), (4, c)])
/-- The word of instruction i stands at the pc of engine 1. -/
def on (i : Instr) (s : State) : State :=
  st { s.m with isram := mapSetRange memReset s.m.isram (isrKey 1 (s.m.eng 1).arch.pc) (leBytes 4 ((instrWord i).getD 0)) }
/-- Engine 1 fetches i and can issue it with these registers. -/
def Go (i : Instr) (s : State) (rs : List Nat) : Prop := fetches s.m 1 i = true ∧ Ready s 1 rs
/-- As Go, with every earlier instruction retired. -/
def GoAlone (i : Instr) (s : State) (rs : List Nat) : Prop := fetches s.m 1 i = true ∧ ReadyAlone s 1 rs

/-- i has a word of 32 bits. -/
def hasWord (i : Instr) : Bool := (instrWord i).any (fun w => decide (w < 2 ^ 32))
theorem fetches_on {i : Instr} {s : State} (h : hasWord i = true) : fetches (on i s).m 1 i = true := by
  unfold hasWord at h
  cases hw : instrWord i with
  | none => simp [hw] at h
  | some w =>
    have hl : w < 2 ^ 32 := by simpa [hw] using h
    have : fetchWord (on i s).m 1 = w := by
      show leNat (mapRange memReset (mapSetRange memReset s.m.isram (isrKey 1 (s.m.eng 1).arch.pc) (leBytes 4 ((instrWord i).getD 0)))
        (isrKey 1 (s.m.eng 1).arch.pc) (leBytes 4 ((instrWord i).getD 0)).length) = w
      rw [mapRange_mapSetRange, leNat_leBytes, hw]; exact Nat.mod_eq_of_lt hl
    simp [fetches, this, hw]
theorem go_with {l : List Instr} {m : Mach} {x : Engine} {rs : List Nat} (h : l.all hasWord = true) (r : x.canIssue rs = true) :
    ∀ i ∈ l, Go i (on i (withEng m x)) rs := fun i hi =>
  ⟨fetches_on (List.all_eq_true.mp h i hi), show ((m.setEng 1 x).eng 1).canIssue rs = true by simpa using r⟩
theorem goAlone_with {l : List Instr} {m : Mach} {x : Engine} {rs : List Nat} (h : l.all hasWord = true) (r : x.canIssueAlone rs = true) :
    ∀ i ∈ l, GoAlone i (on i (withEng m x)) rs := fun i hi =>
  ⟨fetches_on (List.all_eq_true.mp h i hi), show ((m.setEng 1 x).eng 1).canIssueAlone rs = true by simpa using r⟩

theorem witness_ArithmeticAndLogicResults :
    (∀ i ∈ [Instr.add 1 false 2 3 4, .add 1 true 2 3 4, .sub 1 false 2 3 4, .sub 1 true 2 3 4, .and 1 2 3 4, .or 1 2 3 4, .xor 1 2 3 4,
            .andn 1 2 3 4, .orn 1 2 3 4], Go i (on i (ops 1 2 3)) [2, 3, 4]) ∧
    (∀ i ∈ [Instr.add 1 false 0 31 31], Go i (on i (ops 1 2 3)) [0, 31, 31]) :=
  ⟨go_with (by decide +kernel) (by decide +kernel), go_with (by decide +kernel) (by decide +kernel)⟩
theorem witness_ShiftResults :
    (∀ n ∈ [(64 : U64), 63], ∀ i ∈ [Instr.sll 1 false 2 3 4, .sll 1 true 2 3 4, .srl 1 false 2 3 4, .srl 1 true 2 3 4, .sra 1 false 2 3 4, .sra 1 true 2 3 4,
            .rol 1 false 2 3 4, .rol 1 true 2 3 4, .ror 1 false 2 3 4, .ror 1 true 2 3 4], Go i (on i (ops 1 2 n)) [2, 3, 4]) ∧
    (reg (ops 1 2 64) 1 4).toNat % 64 = 0 ∧ (reg (ops 1 2 63) 1 4).toNat % 64 = 63 :=
  ⟨fun _ _ => go_with (by decide +kernel) rfl, by decide +kernel⟩
theorem witness_ComparisonResults :
    (∀ i ∈ [Instr.slt 1 2 3 4, .sltu 1 2 3 4, .min 1 2 3 4, .max 1 2 3 4, .minu 1 2 3 4, .maxu 1 2 3 4], Go i (on i (ops 1 2 3)) [2, 3, 4]) ∧
    (∀ i ∈ [Instr.slti 1 2 3 0xFFFF, .sltiu 1 2 3 0xFFFF], Go i (on i (ops 1 2 3)) [2, 3]) :=
  ⟨go_with (by decide +kernel) rfl, go_with (by decide +kernel) rfl⟩
theorem witness_BitCountAndByteResults :
    (∀ i ∈ [Instr.clz 1 false 2 3, .clz 1 true 2 3, .ctz 1 false 2 3, .ctz 1 true 2 3, .popc 1 false 2 3, .popc 1 true 2 3, .bswap 1 false 2 3,
            .bswap 1 true 2 3, .sextb 1 2 3, .sexth 1 2 3], Go i (on i (ops 1 0 0)) [2, 3]) ∧ (reg (ops 1 0 0) 1 3).toNat % 2 ^ 64 = 0 :=
  ⟨go_with (by decide +kernel) rfl, by decide +kernel⟩
theorem witness_ImmediateResults :
    (∀ i ∈ [Instr.addi 1 2 3 0xFFFF, .andi 1 2 3 0xFFFF, .ori 1 2 3 0xFFFF, .xori 1 2 3 0xFFFF, .lsh 1 2 3 0xFFFF, .shi 1 2 3 0, .shi 1 2 3 63, .shi 1 2 3 64,
            .shi 1 2 3 191, .shi 1 2 3 192, .shi 1 2 3 287, .shi 1 2 3 320, .shi 1 2 3 415, .shi 1 2 3 448, .shi 1 2 3 512, .shi 1 2 3 288],
      Go i (on i (ops 1 2 3)) [2, 3]) ∧
    (0 < 64 ∧ (0 : BitVec 16) = BitVec.ofNat 16 0) ∧
    (63 < 64 ∧ (63 : BitVec 16) = BitVec.ofNat 16 63) ∧ (64 : BitVec 16) = BitVec.ofNat 16 (64 + 0) ∧
    (191 : BitVec 16) = BitVec.ofNat 16 (128 + 63) ∧ (192 : BitVec 16) = BitVec.ofNat 16 (192 + 0) ∧
    (31 < 32 ∧ (287 : BitVec 16) = BitVec.ofNat 16 (256 + 31)) ∧ (320 : BitVec 16) = BitVec.ofNat 16 (320 + 0) ∧
    (415 : BitVec 16) = BitVec.ofNat 16 (384 + 31) ∧ (448 : BitVec 16) = BitVec.ofNat 16 (448 + 0) ∧
    512 ≤ (512 : BitVec 16).toNat ∧ ((288 : BitVec 16).toNat / 256 % 2 = 1 ∧ (288 : BitVec 16).toNat / 32 % 2 = 1) :=
  ⟨go_with (by decide +kernel) rfl, by decide +kernel⟩
theorem witness_MultiplyDivideResults :
    (∀ q ∈ [(7 : U64), 0, 0x100000000], ∀ i ∈ [Instr.mul 1 false 2 3 4, .mul 1 true 2 3 4, .mulh 1 2 3 4, .mulhu 1 2 3 4, .mulhsu 1 2 3 4,
            .div 1 false 2 3 4, .divu 1 false 2 3 4, .rem 1 false 2 3 4, .remu 1 false 2 3 4, .div 1 true 2 3 4, .divu 1 true 2 3 4, .rem 1 true 2 3 4,
            .remu 1 true 2 3 4], Go i (on i (ops 1 2 q)) [2, 3, 4]) ∧
    (reg (ops 1 2 7) 1 4 ≠ 0 ∧ low32 (reg (ops 1 2 7) 1 4) ≠ 0) ∧ (reg (ops 1 2 0) 1 4 = 0 ∧ low32 (reg (ops 1 2 0) 1 4) = 0) ∧
    (reg (ops 1 2 0x100000000) 1 4 ≠ 0 ∧ low32 (reg (ops 1 2 0x100000000) 1 4) = 0) :=
  ⟨fun _ _ => go_with (by decide +kernel) rfl, by decide +kernel⟩
theorem witness_ResultInstructionsWriteTheirDestinationOnly :
    NoneDue ((ops 1 2 3).m.eng 1) ∧ ((ops 1 2 3).m.eng 1).rob = [] := by simp only [NoneDue]; decide +kernel
theorem witness_FloatArithmeticResults :
    (∀ z ∈ [false, true], (∀ i ∈ [Instr.fadd 1 z 2 3 4, .fsub 1 z 2 3 4, .fmul 1 z 2 3 4, .fdiv 1 z 2 3 4, .fmac 1 z 2 3 4],
      Go i (on i (ops 1 2 3)) [2, 3, 4]) ∧ (∀ i ∈ [Instr.fsqrt 1 z 2 3], Go i (on i (ops 1 2 3)) [2, 3])) ∧
    (fpDecode (dblFmt false) (fpBits false (reg (ops 1 0x7FC00000 0) 1 3))).isNan = true ∧
    (fpDecode (dblFmt true) (fpBits true (reg (ops 1 0x7FF0000000000001 0) 1 3))).isNan = true :=
  ⟨fun z _ => by cases z <;> exact ⟨go_with (by decide +kernel) rfl, go_with (by decide +kernel) rfl⟩, by decide +kernel⟩
theorem witness_RoundingKeepsRepresentableNumbers :
    (1 < 2 ^ fmt32.width ∧ fpDecode fmt32 1 = .fin false 1 (-149)) ∧
    (0xFF7FFFFF < 2 ^ fmt32.width ∧ fpDecode fmt32 0xFF7FFFFF = .fin true 0xFFFFFF 104) ∧
    (1 < 2 ^ fmt64.width ∧ fpDecode fmt64 1 = .fin false 1 (-1074)) ∧
    (0x7FEFFFFFFFFFFFFF < 2 ^ fmt64.width ∧ fpDecode fmt64 0x7FEFFFFFFFFFFFFF = .fin false 0x1FFFFFFFFFFFFF 971) := by decide +kernel
theorem witness_FloatCompareSignAndClassResults :
    (∀ z ∈ [false, true], ∀ i ∈ [Instr.feq 1 z 2 3 4, .flt 1 z 2 3 4, .fle 1 z 2 3 4, .fsgnj 1 z 2 3 4, .fsgnjn 1 z 2 3 4, .fsgnjx 1 z 2 3 4,
      .fmin 1 z 2 3 4, .fmax 1 z 2 3 4], Go i (on i (ops 1 2 3)) [2, 3, 4]) ∧
    (∀ i ∈ [Instr.fclassS 1 2 3, .fclassD 1 2 3], Go i (on i (ops 1 2 3)) [2, 3]) ∧
    (fpDecode fmt32 0x7FC00000).isNan = true ∧ (fpDecode fmt32 0x7F800001).snan = true ∧ (fpDecode fmt32 0x3F800000).isNan = false ∧
    (fpLtEq (fpDecode fmt32 0x3F800000) (fpDecode fmt32 0x40000000)).1 = true ∧
    (fpLtEq (fpDecode fmt32 0x40000000) (fpDecode fmt32 0x3F800000)).1 = false ∧
    (fpLtEq (fpDecode fmt32 0x80000000) (fpDecode fmt32 0)).2 = true :=
  ⟨fun z _ => by cases z <;> exact go_with (by decide +kernel) rfl, go_with (by decide +kernel) rfl, by decide +kernel⟩
theorem witness_FloatConversionResults :
    (∀ i ∈ [Instr.fcvtWS 1 true 2 3, .fcvtWuS 1 false 2 3, .fcvtLS 1 true 2 3, .fcvtLuS 1 true 2 3, .fcvtWD 1 true 2 3, .fcvtWuD 1 true 2 3,
            .fcvtLD 1 true 2 3, .fcvtLuD 1 true 2 3, .fcvtSW 1 2 3, .fcvtSWu 1 2 3, .fcvtSL 1 2 3, .fcvtSLu 1 2 3, .fcvtDW 1 2 3, .fcvtDWu 1 2 3,
            .fcvtDL 1 2 3, .fcvtDLu 1 2 3, .fcvtSD 1 2 3, .fcvtDS 1 2 3], Go i (on i (ops 1 2 3)) [2, 3]) ∧
    fpDecode fmt32 0x7FC00000 = .nan false ∧
    fpDecode fmt32 0xFF800000 = .inf true ∧ fpDecode fmt32 0 = .fin false 0 (-149) ∧ (reg (ops 1 0 3) 1 3).toInt = 0 :=
  ⟨go_with (by decide +kernel) rfl, by decide +kernel⟩
theorem witness_BranchAndJumpResults :
    let s := ops 5 5 0xFFFC
    let bad (t : Int) : Prop := t % 4 ≠ 0 ∨ t < 0 ∨ 0x10000 ≤ t
    let near (o : BitVec 16) : Int := (s.m.eng 1).arch.pc + 4 * o.toInt
    (∀ i ∈ [Instr.beq 1 2 3 1, .bne 1 2 3 1, .blt 1 2 3 1, .bge 1 2 3 0xFEFF, .bltu 1 2 3 1, .bgeu 1 2 3 0x3F00], Go i (on i s) [2, 3]) ∧
    (∀ i ∈ [Instr.j 1 4], Go i (on i s) []) ∧ (∀ i ∈ [Instr.jal 1 4], Go i (on i s) [31]) ∧ (∀ i ∈ [Instr.jalr 1 4 2 0], Go i (on i s) [4, 2]) ∧
    decide (reg s 1 2 = reg s 1 3) = true ∧ decide (reg s 1 2 ≠ reg s 1 3) = false ∧
    ¬ bad (near 1) ∧ ¬ bad (near 0xFF00) ∧ bad (near 0xFEFF) ∧ ¬ bad (near 0x3EFF) ∧ bad (near 0x3F00) ∧
    ¬ bad (reg s 1 4 + (0 : BitVec 16).signExtend 64).toNat ∧ bad (reg s 1 2 + (0 : BitVec 16).signExtend 64).toNat ∧
    bad (reg s 1 4 + (4 : BitVec 16).signExtend 64).toNat :=
  ⟨go_with (by decide +kernel) rfl, go_with (by decide +kernel) rfl, go_with (by decide +kernel) rfl, go_with (by decide +kernel) rfl, by decide +kernel⟩
theorem normal_scratch : NormalAt 0x100 := Or.inl ⟨_, rfl⟩
theorem normal_scratch2 : NormalAt 0x108 := Or.inl ⟨_, rfl⟩
theorem normal_csram : NormalAt 0x1000000 := Or.inr (Or.inl ⟨_, rfl⟩)
theorem normal_dram : NormalAt 0x400000040 := Or.inr (Or.inr ⟨_, rfl⟩)

/-- Engine 1 with an address in g3. -/
def atAddr (a : Nat) : State := ops 0x1122334455667788 (BitVec.ofNat 64 a) 0
/-- The loads of Table 07-9. -/
def loads : List Instr := [.lb 1 2 3 0, .lbu 1 2 3 0, .lh 1 2 3 0, .lhu 1 2 3 0, .lw 1 2 3 0, .lwu 1 2 3 0, .ld 1 2 3 0, .ld 1 2 3 1]
theorem witness_LoadResults :
    (NormalAt 0x100 ∧ NormalAt 0x1000000 ∧ NormalAt 0x400000040) ∧
    (∃ fa, locate 0x800000000000 = .fabric fa) ∧
    (∀ a, ∀ i ∈ loads, Go i (on i (atAddr a)) [2, 3]) ∧
    (∀ a ∈ [0x100, 0x1000000, 0x400000040], memAddr (atAddr a) 1 3 0 = a ∧
      Allowed (atAddr a) 1 a 8 needR ∧ Allowed (atAddr a) 1 a 1 needR ∧ dramFails (atAddr a).m a 8 = false) ∧
    (memAddr (atAddr 0x100) 1 3 1 % 2 ≠ 0 ∧ ((atAddr 0x100).m.eng 1).rob = []) ∧
    (memAddr (atAddr 0x20000) 1 3 0 % 8 = 0 ∧ locate 0x20000 = .nowhere) ∧
    (let s := atAddr 0x40100000
     let x := s.m.eng 1
     locate 0x40100000 = .mirror 0x100000 ∧ Allowed s 1 0x40100000 4 needR ∧ x.rob = [] ∧ x.inbox = [] ∧ x.devicePending = false ∧
     (busRead s.m 1 0x100000 4).wait = false ∧ (busRead s.m 1 0x100000 4).ok = true) ∧
    (let s := withEng (mUp.setF DV_STATUS_state 0) (eng [(3, 0x40200000)])
     locate 0x40200000 = .mirror 0x200000 ∧ Allowed s 1 0x40200000 4 needR ∧ (busRead s.m 1 0x200000 4).wait = false ∧
     (busRead s.m 1 0x200000 4).ok = false) ∧
    (let o := BR_CWP_ADDR 0 + 0x18
     locate (0x40000000 + o) = .mirror o ∧ (busRead (mUp.setF (BR_CWP_PEEK_busy 0) 1) 1 o 4).wait = true) := by
  refine ⟨⟨normal_scratch, normal_csram, normal_dram⟩, ⟨_, rfl⟩, fun a => go_with (by decide +kernel) rfl, ?_⟩
  simp only [Allowed]; decide +kernel
/-- The stores of Table 07-9. -/
def stores : List Instr := [.sb 1 2 3 0, .sh 1 2 3 0, .sw 1 2 3 0, .sd 1 2 3 0, .sd 1 2 3 1]
/-- Engine 1 with n stores in its buffer. -/
def fullSb (n : Nat) : Engine := { eng [(3, 0x100)] with sb := List.replicate n { kind := 0, addr := 0x200, data := [9] } }
theorem witness_StoreResults :
    (NormalAt 0x100 ∧ ∃ fa, locate 0x800000000000 = .fabric fa) ∧
    (∀ a, ∀ i ∈ stores, Go i (on i (atAddr a)) [2, 3]) ∧ (∀ i ∈ stores, Go i (on i (withEng mUp (fullSb 7))) [2, 3]) ∧
    (∀ i ∈ stores, Go i (on i (withEng mUp (fullSb 8))) [2, 3]) ∧
    (let s := atAddr 0x100
     Allowed s 1 0x100 8 needW ∧ slotsUsed (s.m.eng 1).sb < 8 ∧ (s.m.eng 1).rob = [] ∧ memAddr s 1 3 1 % 8 ≠ 0) ∧
    (let s := atAddr 0x40100000
     locate 0x40100000 = .mirror 0x100000 ∧ Allowed s 1 0x40100000 4 needW ∧ slotsUsed (s.m.eng 1).sb < 8) ∧
    (slotsUsed (fullSb 7).sb < 8 ∧ Allowed (withEng mUp (fullSb 7)) 1 0x100 8 needW) ∧
    (8 ≤ slotsUsed (fullSb 8).sb ∧ Allowed (withEng mUp (fullSb 8)) 1 0x100 8 needW) ∧
    locate 0x20000 = .nowhere := by
  refine ⟨⟨normal_scratch, ⟨_, rfl⟩⟩, fun a => go_with (by decide +kernel) rfl, go_with (by decide +kernel) rfl, go_with (by decide +kernel) rfl, ?_⟩
  simp only [Allowed]; decide +kernel
/-- Engine 1 with one store in its buffer. -/
def oneStore (a : Nat) : State :=
  withEng { mUp with portQ := [(0, [⟨1, 0x41, [7, 7]⟩])] } { eng [] with sb := [{ kind := 0, addr := a, data := [9, 8] }] }
theorem witness_StoreDrainWritesItsBytesOnly :
    (∀ a ∈ [0x100, 0x1000000, 0x400000040], (oneStore a).m.b (EN_CL_CLAMP_clamp (1 / 4)) = false ∧
      ((oneStore a).m.eng 1).sb = { kind := 0, addr := a, data := [9, 8] } :: [] ∧
      ((oneStore a).m.eng 1).rob.any (fun r => decide (r.id < 0)) = false) ∧
    locate 0x100 = .scratch 0x100 ∧ locate 0x1000000 = .csram 0 ∧ locate 0x400000040 = .dram 0x40 ∧
    ((oneStore 0x100).m.portq 0).length < 16 ∧ (oneStore 0x100).m.portq 0 = ⟨1, 0x41, [7, 7]⟩ :: [] ∧
    (oneStore 0x100).m.dramReach 0x41 = true := by decide +kernel
theorem witness_PairResults :
    (NormalAt 0x100 ∧ NormalAt (0x100 + 8)) ∧
    (∀ a, ∀ i ∈ [Instr.ldp 1 5 3 0, .stp 1 5 3 0], Go i (on i (atAddr a)) [5, 6, 3]) ∧
    (∀ a, ∀ i ∈ [Instr.ldp 1 4 3 0, .stp 1 4 3 0, .stp 1 4 3 4], Go i (on i (atAddr a)) [4, 5, 3]) ∧
    (let s := atAddr 0x100
     (s.m.eng 1).rob = [] ∧ 5 % 2 = 1 ∧ memAddr s 1 3 4 % 8 ≠ 0 ∧ memAddr s 1 3 0 = 0x100 ∧
     Allowed s 1 0x100 8 needR ∧ Allowed s 1 (0x100 + 8) 8 needR ∧ dramFails s.m 0x100 8 = false ∧ dramFails s.m (0x100 + 8) 8 = false ∧
     normalRange 0x100 16 = true ∧ Allowed s 1 0x100 8 needW ∧ Allowed s 1 (0x100 + 8) 8 needW ∧ slotsUsed (s.m.eng 1).sb < 7) ∧
    (∀ o ∈ [0x500028, 0x200000], let s := withEng (mUp.setF DV_STATUS_state (if o = 0x200000 then 0 else 2)) (eng [(3, BitVec.ofNat 64 (0x40000000 + o))])
     let x := s.m.eng 1
     let p := busRead s.m 1 o 8
     memAddr s 1 3 0 = 0x40000000 + o ∧ locate (0x40000000 + o) = .mirror o ∧ locate (0x40000000 + o + 8) = .mirror (o + 8) ∧
     Allowed s 1 (0x40000000 + o) 8 needW ∧ Allowed s 1 (0x40000000 + o + 8) 8 needW ∧ slotsUsed x.sb < 7 ∧
     Allowed s 1 (0x40000000 + o) 8 needR ∧ Allowed s 1 (0x40000000 + o + 8) 8 needR ∧ x.inbox = [] ∧ x.devicePending = false ∧
     p.wait = false ∧ (busRead s.m 1 (o + 8) 8).wait = false ∧ p.ok = (o != 0x200000)) := by
  refine ⟨⟨normal_scratch, normal_scratch2⟩, fun a => go_with (by decide +kernel) rfl, fun a => go_with (by decide +kernel) rfl, ?_⟩
  simp only [Allowed]; decide +kernel
/-- The atomics of Table 07-10. -/
def atomics (w : Bool) : List Instr :=
  [.amoswap 1 4 2 3 w, .amoadd 1 4 2 3 w, .amoand 1 4 2 3 w, .amoor 1 4 2 3 w, .amoxor 1 4 2 3 w, .amomin 1 4 2 3 w, .amomax 1 4 2 3 w,
   .amominu 1 4 2 3 w, .amomaxu 1 4 2 3 w, .cas 1 4 2 3 w, .sc 1 4 2 3 w]
/-- Engine 1 holds a reservation on the granule of its scratch address 0x100. -/
def reserved : Engine := { eng [(3, 0x100)] with resv := some ((resvKey 1 0x100).2 / 64), resvAt := (resvKey 1 0x100).1 }
theorem witness_AtomicResults :
    (NormalAt 0x100 ∧ NormalAt 0x400000040) ∧
    (∀ w ∈ [true, false], (∀ a, ∀ i ∈ atomics w, GoAlone i (on i (atAddr a)) [4, 2, 3]) ∧ (∀ i ∈ atomics w, GoAlone i (on i (withEng mUp reserved)) [4, 2, 3]) ∧
      (∀ a, ∀ i ∈ [Instr.lr 1 4 3 w], GoAlone i (on i (atAddr a)) [4, 3])) ∧
    (∀ a ∈ [0x100, 0x400000040], NoStoreOver (atAddr a) 1 a 8 ∧ dramFails (portPassed (atAddr a) 1 a) a 8 = false ∧
      Allowed (atAddr a) 1 a 8 needAmo ∧ Allowed (atAddr a) 1 a 8 needLr ∧ ((portPassed (atAddr a) 1 a).eng 1).resv = none) ∧
    (let s := withEng mUp reserved
     NoStoreOver s 1 0x100 8 ∧ Allowed s 1 0x100 8 needAmo ∧ dramFails (portPassed s 1 0x100) 0x100 8 = false ∧
     ((portPassed s 1 0x100).eng 1).resv = some ((resvKey 1 0x100).2 / 64) ∧ ((portPassed s 1 0x100).eng 1).resvAt = (resvKey 1 0x100).1) := by
  refine ⟨⟨normal_scratch, normal_dram⟩, fun w _ => ?_, ?_⟩
  · cases w <;> exact ⟨fun a => goAlone_with (by decide +kernel) rfl, goAlone_with (by decide +kernel) rfl, fun a => goAlone_with (by decide +kernel) rfl⟩
  · simp only [Allowed, NoStoreOver]; decide +kernel
theorem witness_PerformedWritesChangeTheirBytesOnly :
    locate 0x100 = .scratch 0x100 ∧ locate 0x1000000 = .csram 0 ∧ locate 0x400000040 = .dram 0x40 ∧ mUp.dramReach 0x40 = true ∧
    m0.dramReach 0x40 = false ∧ (∀ o, locate 0x1000000 ≠ .scratch o) ∧ (∀ o, locate 0x100 ≠ .csram o) ∧ MemWf mUp := by
  refine ⟨by decide +kernel, by decide +kernel, by decide +kernel, by decide +kernel, by decide +kernel, ?_, ?_, ?_⟩
  · intro o h; simp [show locate 0x1000000 = .csram 0 by decide +kernel] at h
  · intro o h; simp [show locate 0x100 = .scratch 0x100 by decide +kernel] at h
  · simp only [MemWf]; decide +kernel
theorem witness_ExceptionEntryAndReturn :
    ((ops 1 2 3).m.work = [] ∧ ((ops 1 2 3).m.eng 1).rob = [] ∧ ((ops 1 2 3).m.eng 1).inExc = 0) ∧
    (∀ i ∈ [Instr.eret 1], GoAlone i (on i (ops 1 2 3)) []) ∧ ((ops 1 2 3).m.eng 1).level = 1 :=
  ⟨by decide +kernel, goAlone_with (by decide +kernel) rfl, by decide +kernel⟩
theorem witness_ExceptionInAnExceptionFaultsTheEngine :
    let m := mUp.setEng 1 { eng [] with inExc := 1 }
    (m.eng 1).rob = [] ∧ (m.eng 1).inExc = 1 := by decide +kernel
/-- Engine 1 at task level. -/
def task (g : List (Nat × U64)) : Engine := { eng g with level := 0 }
theorem witness_SystemInstructionResults :
    (∀ i ∈ [Instr.brk 1, .trap 1 5], Go i (on i (ops 1 2 3)) []) ∧
    (Ready (ops 1 2 3) 1 [] ∧ decodeWord 1 (fetchWord (ops 1 2 3).m 1) = none) ∧
    (∀ i ∈ [Instr.eret 1, .halt 1], GoAlone i (on i (withEng mUp (task []))) []) ∧ ((withEng mUp (task [])).m.eng 1).level = 0 ∧
    (∀ i ∈ [Instr.halt 1], GoAlone i (on i (oneStore 0x100)) []) ∧ (((oneStore 0x100).m.eng 1).level = 1 ∧ ((oneStore 0x100).m.eng 1).sb ≠ []) ∧
    (∀ i ∈ [Instr.halt 1, .yield 1], GoAlone i (on i (ops 1 2 3)) []) ∧
    (((ops 1 2 3).m.eng 1).level = 1 ∧ ((ops 1 2 3).m.eng 1).sb = [] ∧ (ops 1 2 3).m.mig = none) ∧
    (let x := (withEng mUp { eng [] with arch := { pc := 0x10000 } }).m.eng 1
     (x.state = 1 ∨ x.state = 3) ∧ x.wait = .none ∧ x.stopReq = false ∧ 0x10000 ≤ x.arch.pc) := by
  refine ⟨go_with (by decide +kernel) rfl, ⟨by unfold Ready; decide +kernel, by decide +kernel⟩, goAlone_with (by decide +kernel) rfl, by decide +kernel,
    goAlone_with (by decide +kernel) rfl, by decide +kernel, goAlone_with (by decide +kernel) rfl, by decide +kernel, by decide +kernel⟩
theorem witness_StateRegisterInstructions :
    (∀ i ∈ [Instr.srd 1 2 0, .srd 1 2 0x10, .srd 1 2 0x11], Go i (on i (ops 1 2 3)) [2]) ∧
    (∀ i ∈ [Instr.srd 1 2 5, .srd 1 2 6], Go i (on i (withEng mUp (task [(2, 7)]))) [2]) ∧
    (∀ i ∈ [Instr.swr 1 0 2, .swr 1 1 2, .swr 1 2 2, .swr 1 3 2, .swr 1 4 2, .swr 1 5 2, .swr 1 6 2, .swr 1 7 2, .swr 1 15 2, .swr 1 0x10 2, .swr 1 0x11 2],
      GoAlone i (on i (ops 1 2 3)) [2]) ∧
    (∀ i ∈ [Instr.swr 1 0 2, .swr 1 7 2, .swr 1 0x10 2], GoAlone i (on i (withEng mUp (task [(2, 7)]))) [2]) ∧
    (((ops 1 2 3).m.eng 1).rob = [] ∧ ((ops 1 2 3).m.eng 1).level = 1 ∧ ((withEng mUp (task [(2, 7)])).m.eng 1).rob = [] ∧
      ((withEng mUp (task [(2, 7)])).m.eng 1).level = 0) ∧
    (3 ∈ [3, 8, 9, 10, 11, 12, 13, 14, 15] ∧ 15 ∈ [3, 8, 9, 10, 11, 12, 13, 14, 15]) :=
  ⟨go_with (by decide +kernel) rfl, go_with (by decide +kernel) rfl, goAlone_with (by decide +kernel) rfl, goAlone_with (by decide +kernel) rfl, by decide +kernel,
    by decide +kernel⟩
theorem witness_BarrierResults :
    let s := ops 1 2 3
    let w (k : Nat) : Mach := s.m.setEng 1 { s.m.eng 1 with wait := .barrier k 2 }
    let t := oneStore 0x100
    (∀ i ∈ [Instr.barD 1 2, .barA 1 2, .barS 1 2], Go i (on i s) [2] ∧ Go i (on i t) [2]) ∧
    ((s.m.eng 1).rob = [] ∧ barrierDone (w 1) 1 1 = true ∧ barrierDone (w 2) 1 2 = true ∧ barrierDone (w 3) 1 3 = true) ∧
    ¬ ((t.m.eng 1).rob = [] ∧ barrierDone (t.m.setEng 1 { t.m.eng 1 with wait := .barrier 3 2 }) 1 3 = true) ∧
    (((w 1).eng 1).wait = .barrier 1 2 ∧ ((w 1).eng 1).rob = [] ∧ barrierDone (w 1) 1 1 = true) ∧
    (((w 3).eng 1).wait = .barrier 3 2 ∧ ((w 3).eng 1).rob = [] ∧ barrierDone (w 3) 1 3 = true) :=
  ⟨fun i h => ⟨go_with (by decide +kernel) rfl i h, go_with (by decide +kernel) rfl i h⟩, by decide +kernel⟩
/-- A ring port is up with a compliant module. -/
def portUpM (m : Mach) (p : Nat) : Mach :=
  (((m.setF (RG_PORT_STATUS_state p) psUp).setF (RG_SFP_STATUS_present p) 1).setF (RG_PORT_CFG_enable p) 1).setF (RG_SFP_STATUS_compliant p) 1
/-- Station 3 is adopted and online on ring 0, a voting member of group 0. -/
def stn3 (m : Mach) : Mach :=
  ((((m.setF (ST_W0_valid 3) 1).setF (ST_W1_state 3) 3).setF (ST_W0_group_en 3) 1).setF (ST_W5_in_size 3) 64).setF (SK_GROUP_CFG_mode 0) 1
/-- Beats run, port 0 is up, station 3 is online. -/
def mRun : Mach := portUpM (stn3 (mUp.setF BT_STATUS_beat_run 1)) 0
/-- An address in fabric space of station 3. -/
def fa3 : U64 := 0x800000000000 + 3 * 2 ^ 31 + 0x40
/-- Engine 1 in mRun. -/
def run1 (g : List (Nat × U64)) : State := withEng mRun (eng g)
theorem witness_FabricAccessResults :
    (∀ i ∈ [Instr.fld 1 2 4 2 3 0 false 0, .fst 1 2 4 2 3 0 false 0, .fstn 1 2 4 2 3 0 false 0], Go i (on i (run1 [(2, 5), (4, fa3)])) [2, 4]) ∧
    (∀ i ∈ [Instr.fld 1 3 4 2 4 0 false 0, .fst 1 3 4 2 4 0 false 0, .fstn 1 3 4 2 4 0 false 0], Go i (on i (run1 [(2, 5), (4, fa3)])) [3, 4, 4]) ∧
    (let s := run1 [(2, 5), (4, fa3)]
     let x := s.m.eng 1
     let ea := (reg s 1 4 + BitVec.ofInt 64 ((0 : BitVec 8).toInt * (8 : Int))).toNat
     (x.readFree = true ∧ x.mayFault = false) ∧ (3 ≤ 4 ∧ (3 = 4 → 2 % 2 = 0)) ∧
     fabFault s.m x ea 8 2 false true false = none ∧ fabFault s.m x ea 8 2 true true false = none ∧ fabFault s.m x ea 8 2 true false false = none ∧
     fabMpu s.m 1 ea 8 (x.level == 1) needR = (s.m, none) ∧ mpuFirst s.m 1 (x.level == 1) needR ea 8 = none ∧
     fabMpu s.m 1 ea 8 (x.level == 1) needW = (s.m, none) ∧ mpuFirst s.m 1 (x.level == 1) needW ea 8 = none ∧ slotsUsed x.sb < 8) ∧
    ¬ (4 ≤ 4 ∧ (4 = 4 → 3 % 2 = 0)) ∧ ¬ (5 ≤ 4 ∧ (5 = 4 → 2 % 2 = 0)) ∧ (4 ≤ 4 ∧ (4 = 4 → 2 % 2 = 0)) :=
  ⟨go_with (by decide +kernel) rfl, go_with (by decide +kernel) rfl, by decide +kernel⟩
/-- The one outstanding read or FSTN of engine 1. -/
def rob1 (kind : Nat) : RobEntry := { id := 3, pc := 4, d := 9, pair := false, n := 8, swap := 4, kind := kind, ea := 0x1234, bseq := 6, snap := {} }
/-- Engine 1 has its response. -/
def oneRead (kind code : Nat) : State := withEng mUp { eng [(2, 5)] with
  rob := [rob1 kind], inbox := [(3, code, [1, 2, 3, 4, 5, 6, 7, 8])] }
theorem witness_FabricReadsRetireInOrder :
    ∀ c ∈ [(0, 0), (3, 0), (1, 0), (1, 0x12), (0, 0x12), (3, 0x15)], let x := (oneRead c.1 c.2).m.eng 1
      x.rob = [rob1 c.1] ∧ x.inbox = ((rob1 c.1).id, c.2, [1, 2, 3, 4, 5, 6, 7, 8]) :: [] ∧ NoneDue x ∧ (rob1 c.1).half = none ∧ x.stallAt = none ∧
      (rob1 c.1).kind = c.1 ∧ (rob1 c.1).pair = false ∧ x.inExc = 0 := by simp only [NoneDue]; decide +kernel
/-- Bytes placed in the scratch of engine 1. -/
def inScratch (m : Mach) (a : Nat) (l : List Byte) : Mach := { m with scratch := mapSetRange memReset m.scratch (scrKey 1 a) l }
def oneDesc (fab loc len flags : Nat) : List Byte := leBytes 8 fab ++ leBytes 8 loc ++ leBytes 4 len ++ leBytes 4 flags ++ leBytes 8 0
/-- Two descriptors at scratch address 0x200, for engine x. -/
def twoDescs (x : Engine) : State :=
  withEng (inScratch mRun 0x200 (oneDesc (3 * 2 ^ 31 + 0x40) 0x100 8 1 ++ oneDesc (3 * 2 ^ 31 + 0x80) 0x108 4 0)) x
theorem witness_DescriptorListResults :
    let late : Engine := { task [(4, 0x200)] with caps := 0, arch := { (task [(4, 0x200)]).arch with launch := 6000 } }
    let ok (s : State) (g : Bool) (cls : Nat) : Prop :=
      [0x200, 0x220].all (fun p => localOk s.m 1 p 32 ((s.m.eng 1).level == 1) needR) = true ∧
      ([0x200, 0x220].map (fun p => gsDesc s.m 1 p)).all (fun q => (gsCheck s.m 1 (s.m.eng 1) g cls 4 false q).isNone) = true
    (∀ a, ∀ i ∈ [Instr.gath 1 2 4 2 2 false 1, .scat 1 2 4 2 2 false 1, .gath 1 2 4 2 2 true 1, .scat 1 2 4 1 2 false 1], Go i (on i (twoDescs (eng [(4, a)]))) [2, 4]) ∧
    (∀ i ∈ [Instr.scat 1 2 4 2 2 true 1], Go i (on i (twoDescs late)) [2, 4]) ∧
    (∀ a ∈ [0x200, 0x201], let x := (twoDescs (eng [(4, BitVec.ofNat 64 a)])).m.eng 1
      x.readFree = true ∧ x.gs = none ∧ x.mayFault = false ∧ x.rob = []) ∧
    (launchState (twoDescs late).m late.arch.launch = some true ∧ late.lacks 2 = true ∧ ((twoDescs late).m.eng 1).readFree = true) ∧
    ((reg (twoDescs (eng [(4, 0x201)])) 1 4).toNat % 32 ≠ 0 ∧ (reg (twoDescs (eng [(4, 0x200)])) 1 4).toNat % 32 = 0) ∧
    (let s := twoDescs (eng [(4, 0x200)])
     1 < 2 ∧ localOk s.m 1 0x200 32 ((s.m.eng 1).level == 1) needR = true ∧
     ([0x200, 0x220].map (fun p => gsDesc s.m 1 p)).all (fun q =>
       decide (gsCheck s.m 1 (s.m.eng 1) false 1 4 false q ≠ some 5 ∧ gsCheck s.m 1 (s.m.eng 1) false 1 4 false q ≠ some 6)) = true ∧
     ok s true 2 ∧ ok s false 2) :=
  ⟨fun a => go_with (by decide +kernel) rfl, go_with (by decide +kernel) (by decide +kernel), by decide +kernel, by decide +kernel, by decide +kernel, by decide +kernel⟩
/-- An IMGCP descriptor for 8 bytes at offset 4 of station 3's images. -/
def mImg : Mach := inScratch (((mRun.setF (ST_W5_out_size 3) 64))) 0x200 (leBytes 8 0x100 ++ leBytes 4 3 ++ leBytes 2 4 ++ leBytes 2 8)
theorem witness_ImageCopyResults :
    (∀ i ∈ [Instr.imgcp 1 2 4 false false, .imgcp 1 2 4 true true, .imgcp 1 2 4 true false], GoAlone i (on i (withEng mImg (eng [(4, 0x200), (2, 7)]))) [2, 4]) ∧
    (let s := withEng mImg (eng [(4, 0x200), (2, 7)])
     let x := s.m.eng 1
     (reg s 1 4).toNat = 0x200 ∧ 0x200 % 16 = 0 ∧ localOk s.m 1 0x200 16 (x.level == 1) needR = true ∧
     leNat (engBytes s.m 1 0x200 8) = 0x100 ∧ leNat (engBytes s.m 1 (0x200 + 8) 2) % 2 ^ 14 = 3 ∧
     (let img := stIn s.m 3 s.m.beatNum + 4
      imgFault s.m 1 0x200 0x100 3 4 8 img false (x.level == 1) false = none ∧ imgReach s.m img = true ∧ imgPoison s.m img 8 = false) ∧
     (let img := stOut s.m 3 (s.m.beatNum + 1) + 4
      imgFault s.m 1 0x200 0x100 3 4 8 img true (x.level == 1) true = none ∧ imgReach s.m img = true ∧ imgPoison s.m img 8 = false) ∧
     bitAt (recFlags s.m (inBank s.m.beatNum)) 0 = false ∧ s.m.img.outCopy ≠ some ((s.m.beatNum + 1) % 2 ^ 32) ∧
     x.sb.any (fun q => q.kind == 0) = false ∧ dramFails s.m 0x100 8 = false) :=
  ⟨goAlone_with (by decide +kernel) rfl, by decide +kernel⟩
theorem witness_LaunchAndWaitResults :
    let s := withEng (mRun.setN BT_BEAT_PERIOD 1000000) (eng [(2, 5), (3, 0x7FFFFFFFFFFFFFF0)])
    let at_ (r : Nat) (ph : Nat) : Int := s.m.beat.strike + (reg s 1 r).toInt * period s.m + phaseOff s.m ph + 0 * 10
    let near (v : Int) : Prop := v - s.m.hTime ≤ 2000000000 ∧ -2000000000 ≤ v - s.m.hTime
    (∀ i ∈ [Instr.ltset 1 2 0 0, .ltset 1 2 5 0, .ltset 1 2 6 0, .ltabs 1 2], Go i (on i s) [2]) ∧
    (∀ i ∈ [Instr.ltset 1 3 0 0, .ltset 1 3 5 0, .ltabs 1 3], Go i (on i s) [3]) ∧ (∀ i ∈ [Instr.waitph 1 2 5 0, .waitt 1 2], GoAlone i (on i s) [2]) ∧
    (∀ i ∈ [Instr.ltset 1 2 0 0], Go i (on i (ops 1 2 3)) [2]) ∧
    s.m.b BT_STATUS_beat_run = true ∧ (ops 1 2 3).m.b BT_STATUS_beat_run = false ∧
    near (at_ 2 0) ∧ near (at_ 2 5) ∧ ¬ near (at_ 3 5) ∧ near (reg s 1 2).toNat ∧ ¬ near (reg s 1 3).toNat ∧
    ((withEng mUp { eng [] with state := 4, wait := .time 9000 }).m.eng 1).wait = .time 9000 ∧
    NoneDue ((withEng mUp { eng [] with state := 4, wait := .time 9000 }).m.eng 1) := by
  refine ⟨go_with (by decide +kernel) rfl, go_with (by decide +kernel) rfl, goAlone_with (by decide +kernel) rfl, go_with (by decide +kernel) rfl, ?_⟩
  simp only [NoneDue]; decide +kernel
/-- A DELTA of one byte: the new array at 0x100, the old at 0x180, the new byte v. -/
def deltaOf (v : Nat) (x : Engine) : State :=
  withEng (inScratch (inScratch mUp 0x200 (leBytes 8 0x100 ++ leBytes 8 0x180)) 0x100 [BitVec.ofNat 8 v]) x
theorem witness_JournalInstructionResults :
    (∀ i ∈ [Instr.japp 1 2 3], GoAlone i (on i (atAddr 0x200)) [2, 3]) ∧
    (∀ v, ∀ i ∈ [Instr.delta 1 2 3 0 false true 0, .delta 1 2 3 0 false false 0], GoAlone i (on i (deltaOf v (eng [(3, 0x200)]))) [2, 3]) ∧
    (let s := atAddr 0x200
     let x := s.m.eng 1
     x.lacks 4 = false ∧ 0x200 % 4 = 0 ∧ localOk s.m 1 0x200 12 (x.level == 1) needR = true ∧ journalBusy s.m = false ∧ s.m.work = []) ∧
    (∀ v ∈ [0, 1], let s := deltaOf v (eng [(3, 0x200)])
     let x := s.m.eng 1
     let g (k n : Nat) : Nat := leNat (engBytes s.m 1 (0x200 + k) n)
     (reg s 1 3).toNat = 0x200 ∧ localOk s.m 1 0x200 32 (x.level == 1) needR = true ∧ g 16 2 = 0 ∧ g 0 8 = 0x100 ∧ g 8 8 = 0x180 ∧
     localOk s.m 1 0x100 1 (x.level == 1) needR = true ∧ localOk s.m 1 0x180 1 (x.level == 1) ⟨true, true, false⟩ = true ∧
     x.sb.any (fun t => t.kind == 0) = false ∧ dramFails s.m 0x100 1 = false ∧ dramFails s.m 0x180 1 = false ∧
     deltaChanged 0 8 (elemNat false (engBytes s.m 1 0x100 1)) (elemNat false (engBytes s.m 1 0x180 1)) (g 24 4) = (v == 1) ∧
     x.lacks 4 = false ∧ journalBusy s.m = false) :=
  ⟨goAlone_with (by decide +kernel) rfl, fun v => goAlone_with (by decide +kernel) rfl, by decide +kernel, by decide +kernel⟩
theorem witness_ScaleAndChecksumResults :
    let s := atAddr 0x100
    (∀ i ∈ [Instr.scale 1 2 3 0 3 false false true, .scale 1 2 3 255 0 true true false, .scale 1 2 3 0 4 false false false], Go i (on i s) [2, 3]) ∧
    (∀ i ∈ [Instr.crc 1 2 3 0 0, .crc 1 2 3 255 1, .crc 1 2 3 0 2, .crc 1 2 3 0 3], GoAlone i (on i s) [2, 3]) ∧
    localOk s.m 1 0x100 (0 + 1) ((s.m.eng 1).level == 1) needR = true ∧ localOk s.m 1 0x100 (255 + 1) ((s.m.eng 1).level == 1) needR = true ∧
    dramFails s.m 0x100 (0 + 1) = false ∧ dramFails s.m 0x100 (255 + 1) = false :=
  ⟨go_with (by decide +kernel) rfl, goAlone_with (by decide +kernel) rfl, by decide +kernel⟩
/-- Engine 2 is idle, with n events queued; engine 1 is x. -/
def withPeer (n : Nat) (x : Engine) : State := withEng (mUp.setEng 2 { eng [] with state := 2, evq := List.replicate n (1, 2) }) x
theorem witness_EventInstructionResults :
    let to2 : Engine := eng [(2, 0x0005000300000000), (3, 2), (4, 0x0005FFFF)]
    let noCap : Engine := { task [(3, 2)] with caps := 0 }
    let got : Engine := { to2 with evq := [(0x0006000300000000, 7), (0x0005000300000000, 8)] }
    (∀ n, ∀ i ∈ [Instr.evpost 1 2 3 0 false, .evpost 1 2 3 1 false, .evpost 1 2 3 2 true, .evpost 1 2 3 3 false], GoAlone i (on i (withPeer n to2)) [2, 3]) ∧
    (∀ i ∈ [Instr.evpost 1 2 3 1 false, .evpost 1 2 3 2 false], GoAlone i (on i (withPeer 0 noCap)) [2, 3]) ∧
    (∀ i ∈ [Instr.evwait 1 2 4 0, .evwait 1 2 4 9], GoAlone i (on i (withPeer 0 got)) [2, 4] ∧ GoAlone i (on i (withPeer 0 to2)) [2, 4]) ∧
    (∀ n ∈ [63, 64], let s := withPeer n to2
     let x := s.m.eng 1
     x.devicePending = false ∧ x.evq.length < 64 ∧ x.lacks 3 = false ∧ (reg s 1 3).toNat % 64 = 2 ∧ s.m.port (s.m.clRouter (2 / 4)) = 0 ∧
       migrating s.m 2 = false ∧ (s.m.eng 2).state ≠ 7 ∧ (s.m.eng 2).evq.length = n ∧ x.evq = []) ∧
    (mpuCheck (withPeer 0 to2).m 1 true needW 0x40600100 8).2 = none ∧
    (mpuCheck ((withPeer 0 to2).m.setF (PT_MCFG_dflt 1) 0) 1 false needW 0x40600100 8).2 = some 0x40600100 ∧
    (((withPeer 0 noCap).m.eng 1).lacks 3 = true ∧ ((withPeer 0 noCap).m.eng 1).devicePending = false) ∧
    (let s := withPeer 0 got
     let v := reg s 1 4
     let hit (p : Nat × Nat) : Bool := evMatch (p.1 / 2 ^ 48 % 65536) (v.toNat / 65536 % 65536) (v.toNat % 65536)
     (s.m.eng 1).evq = [(0x0006000300000000, 7)] ++ (0x0005000300000000, 8) :: [] ∧
       [(0x0006000300000000, 7)].all (fun q => !hit q) = true ∧ hit (0x0005000300000000, 8) = true) ∧
    (let x := (withEng mUp { eng [] with state := 4, wait := .event 2 5 0xFFFF (some 9000) }).m.eng 1
     x.wait = .event 2 5 0xFFFF (some 9000) ∧ NoneDue x) := by
  refine ⟨fun n => goAlone_with (by decide +kernel) rfl, goAlone_with (by decide +kernel) rfl, fun i h => ⟨goAlone_with (by decide +kernel) rfl i h, goAlone_with (by decide +kernel) rfl i h⟩, ?_⟩
  simp only [NoneDue]; decide +kernel
theorem witness_StepRunsTheFrontCommand : { State.reset with pending := [Instr.stageDiscard] }.pending = Instr.stageDiscard :: [] ∧
    State.reset.pending = [] := by decide +kernel
theorem witness_RollbackFloorsNeverFall : step State.reset = .next State.reset ∧ ∀ k, floorOf State.reset.nv k ≤ 63 := by
  refine ⟨rfl, fun k => ?_⟩
  show (0 : Nat) ≤ 63; omega
theorem witness_ProtectionDecision :
    let region (k : Nat) (m : Mach) : Mach := ((m.setF (PT_RA_valid 0x40 k) 1).setF (PT_RA_start 0x40 k) 2).setF (PT_RB_end 0x40 k) 3
    let hits (m : Mach) (a : Nat) : List Nat := (List.range 32).filter (regionHit m 0x40 true a)
    (hits (region 0 m0) 64 = [0] ∧ regionGrants (region 0 m0) 0x40 0 needW = false) ∧
    (hits (region 31 m0) 127 = [31] ∧ regionGrants ((region 31 m0).setF (PT_RA_w 0x40 31) 1) 0x40 31 needW = true) ∧
    hits (region 0 m0) 63 = [] ∧ hits (region 0 m0) 128 = [] ∧ hits (region 31 (region 5 (region 0 m0))) 64 = 0 :: 5 :: [31] ∧
    (3 < 64 ∧ (List.range 32).filter (regionHit m0 3 false 64) = []) ∧
    63 < 64 ∧ 64 ≤ 64 ∧ mpuDflt m0 0x40 ≠ 0 ∧ mpuDflt (m0.setF (PT_MCFG_dflt 0x40) 0) 0x40 = 0 ∧
    (m0.mpuClear = false ∧ { m0 with mpuClear := true }.mpuClear = true ∧ fDieMaster 0x40 = false) := by
  decide +kernel
theorem witness_RegisterAccessResults :
    let pass (m : Mach) (o n : Nat) : Prop := (barsOpen m = true ∧ (n = 4 ∨ n = 8) ∧ o % n = 0 ∧ o < 0x1300000 ∧
      mpuCheck m 0x40 true needW (0x40000000 + o) n = (m, none) ∧ regBlocked m 0x40 o = none ∧ domainStopped m o = false)
    let reads (m : Mach) (o : Nat) : Prop := o < 0x1300000 ∧ mpuCheck m 0x40 true needR (0x40000000 + o) 4 = (m, none) ∧
      regBlocked m 0x40 o = none ∧ domainStopped m o = false ∧ ¬ (BR_CWP_ADDR 0 ≤ o ∧ o < BR_CWP_ADDR 8 ∧ o % 0x40 = 0x18)
    let own (m : Mach) (k : Nat) : Prop := selNo k = none ∧ k / 0x100000 ∈ [0x02, 0x04, 0x06, 0x08, 0x09] ∧ k < 0x100000000
    (pass mUp (SK_FORCE_HOLD 1) 4 ∧ regAt mUp 0x40 (SK_FORCE_HOLD 1) = some ⟨SK_FORCE_HOLD 1, true, false, false⟩ ∧
      (0x123456789 : U64).toNat % 2 ^ 64 % 2 ^ 32 = (0x23456789 : U64).toNat) ∧
    (pass mUp EV_EVENT 4 ∧ regAt mUp 0x40 EV_EVENT = some ⟨EV_EVENT, false, false, false⟩ ∧ own mUp EV_EVENT ∧ rwsMask EV_EVENT = 0) ∧
    (pass mUp (SK_FORCE_HOLD 1) 8 ∧ own mUp (SK_FORCE_HOLD 1) ∧ rwsMask (SK_FORCE_HOLD 1) = 0 ∧ bufWord (SK_FORCE_HOLD 1) = false ∧ bufWord EV_EVENT = false ∧ bufWord BT_TIME = false) ∧
    (let k := RG_PORT_CFG 0
     pass mUp k 4 ∧ regAt mUp 0x40 k = some ⟨k, false, false, false⟩ ∧ own mUp k ∧ rwsMask k ≠ 0 ∧ mUp.standby = false ∧
     accMask k (fun y => decide (y = .rw)) = 0 ∧ accMask k (fun y => decide (y = .rw1c)) = 0 ∧
     pass (mUp.setF TW_STATUS_role 2) k 4 ∧ (mUp.setF TW_STATUS_role 2).standby = true) ∧
    (reads mUp EV_EVENT ∧ (regAt mUp 0x40 EV_EVENT = some ⟨EV_EVENT, false, false, false⟩) ∧ (BitVec.ofNat 24 (EV_EVENT / 4)).toNat * 4 = EV_EVENT) ∧
    (reads mUp BT_TIME ∧ (regAt mUp 0x40 BT_TIME = some ⟨BT_TIME, true, false, false⟩) ∧ (BitVec.ofNat 23 (BT_TIME / 8)).toNat * 8 = BT_TIME) ∧
    (let y : RegAt := ⟨BT_TIME, true, true, false⟩
     let m := { mUp with latch := [(0x40, BT_TIME, 77)] }
     reads m (BT_TIME + 4) ∧ regAt m 0x40 (BT_TIME + 4) = some y ∧
     m.latch.find? (fun x => x.1 == 0x40 && x.2.1 == (if y.up then BT_TIME + 4 - 4 else BT_TIME + 4)) = some (0x40, BT_TIME, 77)) := by refine ⟨?_, ?_, ?_, ?_, ?_, ?_, ?_⟩ <;> decide +kernel
theorem witness_StagingResults :
    let tag (m : Mach) : Mach := m.setF GL_STAGE_STATUS_tag 9
    let due : Mach := { m0 with beat := { m0.beat with checkDue := some 9000 } }
    let com : Mach := { m0 with committed := some [(BT_BEAT_PERIOD, 2000000)], beat := { m0.beat with commitAt := some 4000, commitOff := true } }
    let bad : Mach := { m0 with staged := [(BT_BEAT_PERIOD, 77)] }
    m0.beat.checkDue = none ∧ due.beat.checkDue = some 9000 ∧
    (m0.committed = none ∧ m0.standby = false ∧ failingBlocks (stagedView (tag m0)) = []) ∧ com.committed ≠ none ∧
    ((m0.setF TW_STATUS_role 2).committed = none ∧ (m0.setF TW_STATUS_role 2).standby = true) ∧
    (bad.committed = none ∧ bad.standby = false ∧ bad.beat.checkDue = none ∧ ∃ l, failingBlocks (stagedView (tag bad)) = 1 :: l) ∧
    (com.committed = some [(BT_BEAT_PERIOD, 2000000)] ∧ com.beat.commitOff = true) := by
  simp only [← List.head?_eq_some_iff]; decide +kernel
theorem witness_ResetResults : State.reset.m.reqs = [] ∧ Instr.perstAssert ∈ [Instr.perstAssert, .flr, .pcieLinkDown] ∧
    Instr.pcieLinkDown ∈ [Instr.perstAssert, .flr, .pcieLinkDown] ∧
    (∀ b ∈ [true, false], { mUp with pw := { mUp.pw with held := [4], shutdown := b } }.pw.held.contains 4 = true ∧
      { mUp with pw := { mUp.pw with shutdown := b } }.pw.shutdown = b ∧ mUp.pw.held.contains 4 = false) := by decide +kernel
/-- Beats run, the next strike is at 9 ms, the period 1 ms. -/
def mBeat : Mach := (((mRun.setF BT_CTRL_beat_en 1).setN BT_STRIKE_TIME 9000000).setN BT_BEAT_PERIOD 1000000)
theorem witness_BeatAndTimeResults :
    let due (a : Mach) : Prop := a.n BT_BEAT_START < a.now + lead a + 10000 ∨ a.b BT_STATUS_beat_run = true
    let fin : Mach := { mBeat with beat := { mBeat.beat with final := true } }
    (mUp.b BT_CTRL_beat_en = false ∧ due mUp) ∧
    (let edge := mUp.now + lead mUp + 10000
     ¬ due (mUp.setN BT_BEAT_START edge) ∧ due (mUp.setN BT_BEAT_START (edge - 1)) ∧ (mUp.setN BT_BEAT_START edge).b BT_CTRL_beat_en = false) ∧
    mBeat.b BT_CTRL_beat_en = true ∧ (mUp.b BT_STATUS_beat_run = false) ∧
    (mBeat.b BT_STATUS_beat_run = true ∧ mBeat.beat.final = false) ∧
    (fin.b BT_STATUS_beat_run = true ∧ fin.beat.final = true ∧ fin.beat.launched ≠ some (nextBeat fin) ∧
      { fin with beat := { fin.beat with launched := some (nextBeat fin) } }.beat.launched = some (nextBeat fin)) ∧
    (mBeat.mig = none ∧ ∀ k ∈ [0, 1], { mBeat with mig := some { src := 0, spare := 1, phase := k } }.mig = some { src := 0, spare := 1, phase := k }) ∧
    (mUp.b BT_STATUS_beat_run = false ∧ mUp.b BT_CTRL_beat_en = false ∧ (mUp.setF BT_STATUS_hdie_time_free 1).b BT_STATUS_hdie_time_free = true) ∧ m0.f DV_STATUS_state ≠ 2 ∧
    { mUp with beat := { mUp.beat with hAt := 1 } }.cycles < 1 + 10000 ∧
    ((mUp.setF BT_PPS_OUT_enable 1).b BT_PPS_OUT_enable = true ∧ mUp.beat.ppsLine = false) ∧
    ({ mUp with beat := { mUp.beat with ppsLine := true } }.beat.ppsLine = true ∧ (mUp.setF BT_PPS_OUT_width_us 1).f BT_PPS_OUT_width_us = 1) ∧
    ((mUp.setF BT_PPS_OUT_width_us 0).f BT_PPS_OUT_width_us = 0) ∧
    { mUp with beat := { mUp.beat with mirrorEnd := some 99 } }.beat.mirrorEnd = some 99 ∧
    (mUp.f DV_STATUS_state = 2 ∧ mUp.b BT_STATUS_hdie_time_free = false) ∧
    (∀ k ∈ [(5 : Int), -5, 6, -6], let m := { mUp.setF BT_STATUS_hdie_time_free 1 with hSkew := k, cycles := 10000 }
      m.f DV_STATUS_state = 2 ∧ m.b BT_STATUS_hdie_time_free = true ∧ (m.hSkew.natAbs ≤ 5 ∨ 5 < m.hSkew.natAbs ∧ m.beat.hAt + 10000 ≤ m.cycles)) := by
  decide +kernel
theorem witness_PhaseResults :
    let f : Frame := { type := 1, cls := 0, len := 32, payload := List.replicate 32 0 }
    let hop : Mach := (mBeat.setF TW_STATUS_fenced 1)
    let at3 : Mach := { mBeat with beat := { mBeat.beat with done := [1] } }
    let loop : Mach := mBeat.setRst 0 { loop := some (700, 800) }
    (willLaunch mBeat = true ∧ mBeat.beat.content = none ∧ mBeat.twin.progress = false) ∧
    (mBeat.portUp 0 = true ∧ frameOk f = true ∧ f.isCal = false ∧ fenceCheck mBeat f = false ∧ transitHop mBeat = false ∧ (mBeat.rst 0).loop = none ∧
      f.type = 0x1 ∧ frameOk { f with route := 3 } = false ∧ ((loop.rst 0).loop = some (700, 800) ∧ expandLaunch (rxGood loop 0 { f with launch := 5000 }) 5000 = some 5000) ∧
      expandLaunch (rxGood mBeat 0 f) 2100000000 = none) ∧
    (willLaunch mUp = false ∧ { mBeat with twin := { mBeat.twin with progress := true } }.twin.progress = true ∧ phaseDue mUp 1 = false ∧ phaseDue mUp 3 = false) ∧
    ((mBeat.setF SK_STATUS_decided 1).setN SK_COMMIT_BEAT (nextBeat mBeat)).n SK_COMMIT_BEAT = nextBeat mBeat ∧
    ({ mBeat with img := { mBeat.img with outCopy := some ((mBeat.beatNum + 1) % 2 ^ 32) } }.img.outCopy = some ((mBeat.beatNum + 1) % 2 ^ 32) ∧
      (mBeat.setF BT_CTRL_beat_en 0).b BT_CTRL_beat_en = false ∧ imgReach m0 (bankRec m0 0) = false) ∧
    (phaseDue hop 1 = true ∧ transitHop hop = true) ∧ (phaseDue mBeat 1 = true ∧ mBeat.img.outCopy = none) ∧ phaseDue at3 3 = true ∧
    (mBeat.b BT_CTRL_beat_en = true ∧ mBeat.b BT_STATUS_beat_run = true ∧ mBeat.beat.starting = false ∧ mBeat.strike.decided ≠ some mBeat.beatNum) ∧
    ({ mBeat with img := { mBeat.img with inCopy := some 0 } }.img.inCopy = some 0 ∧ imgReach mBeat (bankRec mBeat (inBank 0)) = true) ∧
    ({ mBeat with img := { mBeat.img with outCopy := some 1 } }.img.outCopy = some 1 ∧ imgReach mBeat (bankRec mBeat (outBank 1)) = true) := by
  decide +kernel
theorem witness_GroupDecision :
    let l := [3, 4]
    let at_ (k st : Nat) (m : Mach) : Mach := ((((m.setF (ST_W0_valid k) 1).setF (ST_W1_state k) st).setF (ST_W0_group_en k) 1).setF (ST_W0_group k) 255)
    let m := at_ 3 3 ((m0.setF (SK_GROUP_CFG_mode 255) 1).setF (SK_GROUP_CFG_lost_holds 255) 1)
    let lostM := at_ 4 5 m
    let mem (s : Mach) : List Nat := (l.filter (fun k => s.f (ST_W0_group k) == 255)).filter (fun k => s.f (ST_W1_state k) == 3)
    let lost (s : Mach) : List Nat := (l.filter (fun k => s.f (ST_W0_group k) == 255)).filter (fun k => s.f (ST_W1_state k) == 0 || s.f (ST_W1_state k) == 5)
    let votes (y n : List Nat) (s : Mach) : Mach := { s with strike := { yes := y, nay := n, decided := none } }
    255 < 256 ∧ m.f (SK_GROUP_CFG_mode 255) = 1 ∧ (m.setF (SK_GROUP_CFG_mode 255) 2).f (SK_GROUP_CFG_mode 255) = 2 ∧ (m0.setF (SK_GROUP_CFG_mode 255) 0).f (SK_GROUP_CFG_mode 255) = 0 ∧ forced m 255 = false ∧ forced (m.setF ⟨SK_FORCE_HOLD 3, 63, 1⟩ 1) 255 = true ∧
    (3 ∈ mem m ∧ 3 ∈ (votes [] [3] m).strike.nay) ∧ ((∀ k ∈ mem lostM, k ∉ lostM.strike.nay) ∧ lostM.b (SK_GROUP_CFG_lost_holds 255) = true ∧ lost lostM ≠ []) ∧
    (lost m = [] ∧ 3 ∉ m.strike.yes) ∧ (∀ k ∈ mem m, k ∉ (votes [3] [] m).strike.nay ∧ k ∈ (votes [3] [] m).strike.yes) := by decide +kernel
/-- All three time sources enabled, the servo locked on PTP. -/
def mTime : Mach := ((({ mUp with now := 3000000000 }.setF BT_SRC_CFG_src_en 7)).setF BT_STATUS_servo_state 2).setF BT_STATUS_src_sel 2
theorem witness_TimeSourceResults :
    let out (m : Mach) : Mach := { m with beat := { m.beat with ptmOut := true } }
    let wtr (c : Nat) : Mach := { mTime.setSrc 2 { mTime.src 2 with since := some 5 } with
      beat := { (mTime.setSrc 2 { mTime.src 2 with since := some 5 }).beat with wtr := some (c, 4000000000) } }
    let p (c : Nat) (x : SrcQ) : Mach := out (mTime.setSrc c x)
    let run (k : Nat) (x : Int) : SrcQ := { good := k, hist := List.replicate (min k 15) x }
    let next (q : SrcQ) (x : Int) : SrcQ := { q with good := q.good + 1, bad := 0, hist := x :: q.hist.take 15 }
    let offs (k : Nat) : Mach := { mTime with beat := { mTime.beat with offRun := k } }
    let acq (m : Mach) (k : Nat) : Mach := { (m.setF BT_STATUS_servo_state 1) with beat := { m.beat with lockRun := k } }
    (srcOn mTime 1 = true ∧ srcOn mUp 1 = false) ∧
    ((wtr 2).beat.wtr = some (2, 4000000000) ∧ 2 ∈ srcCands (wtr 2)) ∧ ((wtr 3).beat.wtr = some (3, 4000000000) ∧ 3 ∉ srcCands (wtr 3)) ∧
    (mTime.beat.wtr = none ∧ (mUp.setF TW_STATUS_role 2).f TW_STATUS_role ≠ 0 ∧ (mUp.setF TW_STATUS_role 2).b CT_CLAMP_tenon = false) ∧
    (mTime.beat.ptmOut = false ∧ (p 1 {}).beat.ptmOut = true ∧ srcOn (p 1 {}) 1 = true ∧ srcOn (out mUp) 1 = false ∧
      runWithin (next (run 6 100) 0) 8 99 = false ∧ srcQual (p 1 (run 6 100)) 1 = false ∧ ((p 1 {}).src 1).bad < 2 ∧ 2 ≤ ((p 1 { bad := 2 }).src 1).bad) ∧
    (runWithin (next (run 7 99) 0) 8 99 = true ∧ runWithin (next (run 7 100) 0) 8 99 = false ∧ (run 7 99).since = none ∧
      srcQual (p 1 { run 8 5 with since := some 5 }) 1 = true) ∧
    (srcOn mTime 2 = true ∧ 0 ≤ 127 ∧ 0 = mTime.f BT_PTP_CFG_domain ∧ false = mTime.b BT_PTP_CFG_transport ∧ ¬ 128 ≤ 127 ∧ true ≠ mTime.b BT_PTP_CFG_transport) ∧
    (srcQual (p 2 { run 16 0 with flag := true, since := some 5 }) 2 = true ∧ srcQual (p 2 (run 15 0)) 2 = false ∧
      (next { run 15 0 with flag := true } 1000).flag = true ∧ runWithin (next { run 15 0 with flag := true } 1000) 16 1000 = true ∧
      runWithin (next (run 15 0) 1001) 16 1000 = false ∧ (next (run 15 0) 0).flag = false) ∧
    (runWithin { good := 16, hist := List.replicate 16 0, flag := true } 16 1000 = true ∧ runWithin { run 15 0 with flag := true } 16 1000 = false) ∧
    (true ≠ mUp.b BT_PPS_CFG_falling ∧ false = mUp.b BT_PPS_CFG_falling ∧ srcOn mUp 3 = false ∧ mUp.beat.tod = none) ∧
    (∀ k ∈ [1, 2, 3], let m := mTime.setSrc 3 { good := k, last := 2000000000 }
     srcOn m 3 = true ∧ m.beat.tod = none ∧ m.beat.todNow = none ∧ 1 ≤ (m.src 3).good ∧
     absDiff ((m.upTo 3000000100).now - (m.src 3).last) 1000000000 ≤ 100 ∧ (m.src 3).since = none) ∧
    (let m := mTime.setSrc 3 { good := 16, last := 2000000000, since := some 7 }
     (m.src 3).since ≠ none ∧ 1 ≤ (m.src 3).good ∧ absDiff ((m.upTo 3000000000).now - (m.src 3).last) 1000000000 ≤ 100 ∧
     2500000000 ≤ (m.upTo 4500000000).now - (m.src 3).last ∧ { m with beat := { m.beat with todNow := some 3 } }.beat.todNow = some 3) ∧
    (mTime.f BT_STATUS_src_sel = 2 ∧ (1000 : Int).natAbs ≤ 1000 ∧ 1000 < (1001 : Int).natAbs ∧ (-2147483647 : Int).natAbs < 2147483648 ∧
      mTime.f BT_STATUS_servo_state = 2 ∧ mTime.beat.offRun < 3 ∧ (offs 3).beat.offRun = 3 ∧ (offs 3).f BT_STATUS_servo_state = 2) ∧
    (∀ k ∈ [14, 15], (acq mTime k).f BT_STATUS_servo_state = 1 ∧ (acq mTime k).b BT_STATUS_beat_run = false ∧ (acq mTime k).beat.lockRun = k) ∧
    (stepThreshold mTime ≤ (2147483647 : Int).natAbs ∧ (mTime.setF BT_STATUS_beat_run 1).b BT_STATUS_beat_run = true ∧
      (99 : Int).natAbs < stepThreshold mTime ∧ (99 : Int).natAbs < 100 ∧ 100 ≤ (100 : Int).natAbs) := by
  refine ⟨?_, ?_, ?_, ?_, ?_, ?_, ?_, ?_, ?_, ?_, ?_, ?_, ?_, ?_, ?_⟩ <;> decide +kernel
/-- Port 1 in a state, with a module. -/
def inState (k : Nat) : Mach := ((mUp.setF (RG_PORT_STATUS_state 1) k).setF (RG_SFP_STATUS_present 1) 1).setF (RG_PORT_CFG_enable 1) 1
def locked (k : Nat) : Mach := (inState k).setRport 1 { (inState k).rport 1 with lockAt := some 100 }
def portIs (k : Nat) (x : PortSt) : Mach := (inState k).setRport 1 x
def waitAck : PortSt := { replay := [⟨0, 0, 70, { f := okFrame }⟩, ⟨1, 2, 90, { f := okFrame }⟩] }
/-- The bytes of okFrame with its CRC changed bit by bit by c. -/
def wireWith (f : Frame) (c : BitVec 32) : List Byte := f.covered ++ fcsBytes (fcs f.covered ^^^ c)
theorem witness_RingPortResults :
    let sg (m : Mach) : Nat := m.f (RG_PORT_STATUS_state 1)
    let lf : Frame := { type := 0xF, cls := 0, seq := 8, retry := 0xFF, word := 77 }
    (sg (inState psDisabled) = psDisabled ∧ 255 < 256 ∧ (inState psDisabled).b (RG_PORT_CFG_enable 1) = true ∧
      bitAt ((inState psDisabled).f CT_CLAMP_ring_port) 1 = false ∧ recalOn (inState psDisabled) 1 = false ∧ 5 ∉ (inState psDisabled).pw.held) ∧
    (sg ((inState psDown).setF (RG_PORT_CFG_enable 1) 0) ≠ psUp ∧ ((inState psDown).setF (RG_PORT_CFG_enable 1) 0).b (RG_PORT_CFG_enable 1) = false) ∧
    (sg (inState psTraining) ≠ psUp ∧ sg (inState psDown) ≠ psUp ∧ (inState psTraining).b (RG_SFP_STATUS_present 1) = true ∧ mUp.b (RG_SFP_STATUS_present 1) = false) ∧
    sg (inState psUp) = psUp ∧
    (let m := (inState psDown).setF (RG_SFP_STATUS_compliant 1) 1
     searching m 1 = true ∧ (m.rport 1).lockAt = none ∧ searching mUp 1 = false ∧ (mUp.setF (RG_PORT_CFG_fec 1) 1).f (RG_PORT_CFG_fec 1) < 2 ∧
     ∀ k ∈ [2, 3], 2 ≤ (m.setF (RG_PORT_CFG_fec 1) k).f (RG_PORT_CFG_fec 1) ∧ searching (m.setF (RG_PORT_CFG_fec 1) k) 1 = true) ∧
    (((locked psDown).rport 1).lockAt = some 100 ∧ sg (locked psDown) = psDown ∧ (locked psDown).b (RG_PORT_STATUS_hi_ber 1) = false) ∧
    sg (inState psTraining) = psTraining ∧ sg (inState psDown) ≠ psTraining ∧
    (lf.type = 0xF ∧ frameOk lf = true ∧ fenceCheck (inState psUp) lf = false ∧ okFrame.type ≠ 0xF ∧ frameOk { lf with route := 3 } = false) ∧
    (∀ k ∈ [6, 7], let x := (portIs psTraining { good := k, stamps := [77] }).rport 1
      x.good = k ∧ (x.echoed || x.stamps.contains lf.word) = true ∧ ({ x with stamps := [] } : PortSt).echoed = false) ∧
    (let x := (portIs psUp waitAck).rport 1
     x.replay = ⟨0, 0, 70, { f := okFrame }⟩ :: [⟨1, 2, 90, { f := okFrame }⟩] ∧ sg (portIs psUp waitAck) = psUp ∧
      (∀ y ∈ x.replay, y.retry < 3) ∧ x.dropRun < 3 ∧ x.cut = none ∧ (∀ t ∈ x.tx, t.f.cls ≠ 0)) ∧
    ((portIs psUp { waitAck with cut := some (okFrame, 64, 1) }).rport 1).cut ≠ none ∧
    (crcJudge (wireWith okFrame 1) = .bad ∧ crcJudge (wireWith okFrame 0xFFFFFFFF) = .stomped ∧ crcJudge (wireWith okFrame 0) = .good ∧
      frameOk (parseFrame (wireWith okFrame 0)) = true ∧ (wireWith okFrame 0).length = (parseFrame (wireWith okFrame 0)).bytes ∧
      crcJudge (wireWith { okFrame with route := 3 } 0) = .good ∧ frameOk (parseFrame (wireWith { okFrame with route := 3 } 0)) = false) ∧
    (((portIs psUp {}).rport 1).rxOpen = none ∧ ((portIs psUp { rxOpen := some ([1], 0) }).rport 1).rxOpen = some ([1], 0) ∧
      (1 : BitVec 8).toNat = 0 + 1 ∧ (2 : BitVec 8).toNat ≠ 0 + 1 ∧ (0 : BitVec 8) ≠ 0xD5 ∧ (0 : BitVec 8) ≠ 0xB3 ∧ (0 : BitVec 8) ≠ 0x61 ∧ (0 : BitVec 8) ≠ 0x7E) := by
  refine ⟨?_, ?_, ?_, ?_, ?_, ?_, ?_, ?_, ?_, ?_, ?_, ?_, ?_, ?_⟩ <;> decide +kernel
/-- A request of the bridge to station 3, with one frame sent. -/
def toStn3 (w : Bool) : Req :=
  { bseq := 5, init := 0x40, kind := if w then .fstn 1 else .hostRead 9, write := w, posted := false, ack := w, cls := 2, faddr := 3 * 2 ^ 31, iaddr := 0,
    tAcc := 0, pieces := [{ fa := 3 * 2 ^ 31, len := 4, queued := true, fseq := 7, port := 0, sentAt := some 5 }] }
/-- A frame of 96 bytes. -/
def longFrame : Frame := { okFrame with dest := 3, len := 64, payload := List.replicate 64 1 }
theorem witness_FrameResults :
    let tx : TxFrame := { f := longFrame }
    let sends : Mach := mRun.setRport 0 { tx := [tx] }
    let rest (n : Nat) : Mach := mRun.setRport 0 { cut := some (longFrame, n, 1) }
    let hop : Mach := mRun.setF TW_STATUS_fenced 1
    let sby : Mach := mRun.setF TW_STATUS_role 2
    let cal : Frame := { type := 1, cls := 0, flags := 1, acc := 3, len := 32, payload := List.replicate 32 0 }
    let got (f : Frame) (l : List Req) (t : Mach) : Prop := rxFrame { mRun with reqs := l } 0 f = (true, t)
    let vote (yes w : Nat) : Frame := { type := 9, cls := 0, src := 3, word := w, flags := yes }
    (sends.portUp 0 = true ∧ (sends.rport 0).cut = none ∧ (sends.rport 0).resendDue = false ∧ linkDue (sends.rport 0) = false ∧
      nextFrame sends 0 = some (tx, []) ∧ tx.own = none ∧ tx.nominal = none ∧ tx.timed = none ∧ tx.ingress = none ∧ tx.f.type ≠ 0xA ∧
      tx.f.sequenced = true ∧ sends.twin.origin2 = false ∧ tx.f.cls = 1 ∧ tx.f.bytes = 96) ∧
    ((64 * 0 = 0 ∨ 96 ≤ 64 * 0) ∧ (64 * 2 = 0 ∨ 96 ≤ 64 * 2) ∧ 1 ≤ 1 ∧ 64 * 1 < 96) ∧
    (mRun.portUp 1 = false ∧ (mRun.rport 1).resendDue = false ∧ (rest 0).portUp 0 = true ∧ ((rest 0).rport 0).cut = some (longFrame, 0, 1) ∧
      ((rest 0).rport 0).resendDue = false ∧ linkDue ((rest 0).rport 0) = false ∧ (∀ t ∈ ((rest 0).rport 0).tx, t.f.cls ≠ 0) ∧ longFrame.cls ≠ 0) ∧
    (mRun.portUp 0 = true ∧ frameOk { okFrame with len := 5000 } = false ∧ frameOk { okFrame with lseq := 1 } = true ∧
      Frame.sequenced { okFrame with lseq := 1 } = true ∧ 1 ≠ (mRun.rport 0).rxNext ∧ (mRun.rport 0).nakSent = false ∧ transitHop hop = true ∧ hop.portUp 0 = true) ∧
    (rxFrame mRun 1 okFrame = (false, mRun)) ∧
    (sby.standby = true ∧ linkTakes sby 0 (vote 1 1) = true ∧ linkTakes sby 0 okFrame = true ∧ transitHop sby = true ∧ (rxFrame sby 0 okFrame).1 = false) ∧
    (∃ t, got { okFrame with src := 3, aux := 5000 } [] t ∧ imageInOk t { okFrame with src := 3, aux := 5000 } = false) ∧
    (∃ t, got { okFrame with src := 3 } [] t ∧ imageInOk t { okFrame with src := 3 } = true) ∧
    (∃ t, got (vote 1 1) [] t ∧ votingMember t 3 = true ∧ t.b BT_STATUS_beat_run = true ∧ 1 = (voteBeat t + 1) % 2 ^ 32 ∧ bitAt 1 0 = true) ∧
    (∃ t, got (vote 0 1) [] t ∧ bitAt 0 0 = false) ∧ (∃ t, got (vote 1 0) [] t ∧ 0 = voteBeat t ∧ 0 ≠ (voteBeat t + 1) % 2 ^ 32) ∧
    (∃ t, got (vote 1 9) [] t ∧ 9 ≠ voteBeat t ∧ 9 ≠ (voteBeat t + 1) % 2 ^ 32) ∧
    (let f : Frame := { type := 5, cls := 2, src := 3, aux := 7, len := 4, payload := [1, 2, 3, 4] }
     ∃ t, got f [toStn3 false] t ∧ findPiece t false 3 2 7 = some (5, 0) ∧ t.req 5 = some (toStn3 false) ∧ bitAt f.flags 1 = false ∧ t.diesJoined = true) ∧
    (let f : Frame := { type := 5, cls := 2, src := 3, aux := 7 + 5 * 2 ^ 24, flags := 2 }
     ∃ t, got f [toStn3 false] t ∧ findPiece t false 3 2 (f.aux % 65536) = some (5, 0) ∧ bitAt f.flags 1 = true) ∧
    (∃ t, got { type := 7, cls := 2, src := 3, aux := 7 + 3 * 2 ^ 24 } [toStn3 true] t ∧ findPiece t true 3 2 7 = some (5, 0)) ∧
    (let f : Frame := { type := 8, cls := 2, src := 3, word := 5 * 65536 + 9, aux := 3 }
     ∃ t, got f [] t ∧ reservedId (f.word / 65536 % 65536) = false ∧ f.word / 65536 % 65536 ∉ [0xFFE0, 0xFFF2, 0xFFF3]) ∧
    (let f : Frame := { type := 8, cls := 0, src := 3, word := 5 * 65536 + 9 }
     (rxFront mRun 0 f).1 = true ∧ (rxDiscard (rxFront mRun 0 f).2 0 f).1 = true ∧ f.word / 65536 % 65536 ∉ [0xFFF0, 0xFFF1] ∧
     (tc0OnPort (tc0Wide (rxDiscard (rxFront mRun 0 f).2 0 f).2) 0).1 = false ∧
     (tc0OnPort (tc0Wide (rxDiscard (rxFront mRun 0 f).2 0 f).2) 0).2.twin.progress = false ∧
     (let m := { mRun with twin := { mRun.twin with progress := true } }
      (tc0OnPort (tc0Wide (rxDiscard (rxFront m 0 f).2 0 f).2) 0).2.twin.progress = true ∧
      (tc0OnPort (tc0Wide (rxDiscard (rxFront m 0 f).2 0 f).2) 0).2.tocsin.hold.length < 1024) ∧
     (rxFront mRun 1 f).1 = false) ∧
    (transitHop hop = true ∧ hop.standby = false ∧ okFrame.type ≠ 0xF ∧ okFrame.type ≠ 0x1 ∧ transitHop mRun = false) ∧
    (cal.isCal = true ∧ mRun.portUp 0 = true ∧ frameOk cal = true ∧ fenceCheck mRun cal = false ∧ (mRun.rst 0).calStage = 0 ∧
      ((mRun.setRst 0 { calStage := 2 }).rst 0).calStage = 2 ∧ ((portUpM mRun 1).setRst 0 { calStage := 1 }).portUp 1 = true ∧
      (((portUpM mRun 1).setRst 0 { calStage := 1 }).rst 0).calStage = 1) := by
  refine ⟨?_, ?_, ?_, ?_, ?_, ?_, ?_, ?_, ?_, ?_, ?_, ?_, ?_, ?_, ?_, ?_, ?_, ?_, ?_⟩
  case refine_7 => exact ⟨_, Prod.ext (by decide +kernel) rfl, by decide +kernel⟩
  case refine_8 => exact ⟨_, Prod.ext (by decide +kernel) rfl, by decide +kernel⟩
  case refine_9 => exact ⟨_, Prod.ext (by decide +kernel) rfl, by decide +kernel⟩
  case refine_10 => exact ⟨_, Prod.ext (by decide +kernel) rfl, by decide +kernel⟩
  case refine_11 => exact ⟨_, Prod.ext (by decide +kernel) rfl, by decide +kernel⟩
  case refine_12 => exact ⟨_, Prod.ext (by decide +kernel) rfl, by decide +kernel⟩
  case refine_13 => exact ⟨_, Prod.ext (by decide +kernel) rfl, by decide +kernel⟩
  case refine_14 => exact ⟨_, Prod.ext (by decide +kernel) rfl, by decide +kernel⟩
  case refine_15 => exact ⟨_, Prod.ext (by decide +kernel) rfl, by decide +kernel⟩
  case refine_16 => exact ⟨_, Prod.ext (by decide +kernel) rfl, by decide +kernel⟩
  all_goals decide +kernel
/-- Ring 0 with both ports up, discovery enabled, four stations expected, and station 3 discovered at position 1. -/
def mEnum : Mach :=
  ((((stn3 (portUpM (portUpM mUp 0) 1)).setF (ST_W1_state 3) 1).setF (ST_W0_position 3) 1).setF (RG_RING_CFG_enum_en 0) 1).setF (RG_RING_CFG_expected 0) 4
def runIs (m : Mach) (r : EnumRun) : Mach := m.setRst 0 { m.rst 0 with run := r }
def answer : Frame := { type := 0xA, cls := 2, word := 2, len := 24,
                        payload := [1, 2, 3, 4, 5, 6, 7, 8, 9, 10, 11, 12, 0, 0, 0, 0, 0, 0, 0, 40, 0, 0, 0, 0] }
/-- Step k of the adoption of station 3 has been sent, for the t-th time. -/
def adopting (k t : Nat) : Mach := { mEnum with ring := { mEnum.ring with adopts := [{ stn := 3, step := k, tries := t, sent := true }] } }
theorem witness_EnumerationResults :
    let ring (m : Mach) : Mach := m.setF ST_ENUM_CTRL_ring 0
    let probe : Frame := { type := 0xA, cls := 2, word := 1 }
    let delay : Frame := { answer with src := 3, word := 5 }
    (mayEnum mEnum 0 = true ∧ (mEnum.rst 0).run.want = 0 ∧ mEnum.portUp (2 * 0 + b2n (!mEnum.portUp (2 * 0))) = true ∧ mEnum.mute = false ∧ mayEnum (mUp.setF (RG_RING_CFG_enum_en 0) 0) 0 = false ∧
      (let m := (mEnum.setF (RG_PORT_STATUS_state 0) psDown).setF (RG_PORT_STATUS_state 1) psDown
       mayEnum m 0 = true ∧ m.portUp (2 * 0 + b2n (!m.portUp (2 * 0))) = false)) ∧
    (let m := runIs mEnum { want := 1, sentAt := 100 }
     (m.rst 0).run.want ≠ 0 ∧ mayEnum m 0 = true ∧ (m.rst 0).run.want = 1 ∧ (m.rst 0).run.tier2 = none ∧
     (m.rst 0).run.west = false ∧ (m.upTo (100 + 5000000)).portUp (2 * 0 + 1) = true) ∧
    (((runIs mEnum { want := 1, west := true }).rst 0).run.west = true) ∧ ((runIs mRun { want := 1 }).upTo 5000000).portUp (2 * 0 + 1) = false ∧
    ((runIs mEnum { want := 1, tier2 := some (3, 0) }).rst 0).run.tier2 = some (3, 0) ∧
    (let r := rxFrame (runIs mEnum { want := 1, sentAt := 100 }) 0 answer
     let t := r.2
     r.1 = true ∧ answer.type = 0xA ∧ answer.word % 256 = 2 ∧ (t.rst 0).run.want = 1 ∧ (t.rst 0).run.tier2 = none ∧ 0 % 2 = b2n (t.rst 0).run.west ∧
       (t.rst 0).run.west = false ∧ resolvePos t 0 answer.hops (t.now - (t.rst 0).run.sentAt - answer.acc) false = some 1 ∧
       (chooseNumber t 0 1 (ansOf answer)).2.isSome = true ∧
       resolvePos t 0 { answer with hops := 250 }.hops 3 false = none) ∧
    ((rxFrame mRun 1 answer).1 = false ∧ (rxFrame mEnum 0 answer).1 = true ∧ ((rxFrame mEnum 0 answer).2.rst 0).run.want ≠ 1) ∧
    (let r := rxFrame (runIs { mEnum with ring := { mEnum.ring with stopped := [3] } } { want := 2, num := 3, tries := 1, sentAt := 100 }) 0 delay
     r.1 = true ∧ delay.type = 0xA ∧ delay.word % 256 = 5 ∧ (r.2.rst 0).run.want = 2 ∧ (r.2.rst 0).run.num = delay.src ∧ (r.2.rst 0).run.tier2 = none) ∧
    (let r := rxFrame (adopting 2 0) 0 delay
     r.1 = true ∧ (r.2.rst 0).run.want ≠ 2 ∧ r.2.ring.adopts.find? (fun a => a.sent && exchangeWith a 3 && (a.step != 8 && a.step != 11 || 0 % 2 == 1) &&
        (a.step != 2 || a.idx == 0 || decide (4 ≤ keyOf r.2 3) || a.chunk == 0 % 2)) = some { stn := 3, step := 2, sent := true }) ∧
    (mEnum.portUp 1 = true ∧ frameOk probe = true ∧ probe.word % 256 = 1 ∧ probe.src = 0 ∧ frameOk { probe with route := 3 } = false ∧
      (rxSequence (rxGood (closeOpen mEnum 1 2) 1 probe) 1 probe).1 = true ∧ (rxSequence (rxGood (closeOpen mEnum 1 2) 1 { probe with lseq := 9 }) 1 { probe with lseq := 9 }).1 = false ∧
      transitHop (mEnum.setF TW_STATUS_fenced 1) = true) ∧
    (∀ b ∈ [0, 1], let m := runIs (mEnum.setF BT_STATUS_beat_run b) { want := 1, sentAt := 100 }
     let v := fenceStep (rxSequence (rxGood (closeOpen m 1 2) 1 probe) 1 probe).2 1 probe
     let w := closeRun v 0 probe.hops
     transitHop v = false ∧ (v.rst 0).run.want = 1 ∧ (v.rst 0).run.tier2 = none ∧ 1 % 2 = b2n (!(v.rst 0).run.west) ∧
     w.b BT_STATUS_beat_run = (b == 1) ∧ (failedNow w 0).isEmpty = true ∧ w.f (RG_RING_STATUS_state 0) ≠ 1) ∧
    (∀ t ∈ [2, 3], let m := runIs mEnum { want := 2, num := 3, tries := t }
      m.stRing 3 = 0 ∧ (m.rst 0).run.want = 2 ∧ (m.rst 0).run.num = 3 ∧ ((m.rst 0).run.tries < 3 ∨ 3 ≤ (m.rst 0).run.tries ∧ (m.rst 0).run.tier2 = none)) ∧
    (∀ k ∈ [2, 8, 9, 11], (((adopting k 1).rst 0).run.want ≠ 2 ∧ ((adopting k 1).ring.adopts.find? (fun a => a.sent && exchangeWith a 3)).isSome = true)) ∧
    (∀ k ∈ [4, 5, 6, 7], overdueWrite (adopting k 1) 3 = some { stn := 3, step := k, tries := 1, sent := true } ∧
      overdueWrite (adopting k 2) 3 = some { stn := 3, step := k, tries := 2, sent := true }) ∧ overdueWrite mEnum 3 = none ∧
    ((portUpM (portUpM mUp 0) 1).ringStations 0 = [] ∧ mUp.ring.adopts = [] ∧ (portUpM (portUpM mUp 0) 1).portUp (2 * 0) = true ∧
      (portUpM (portUpM mUp 0) 1).portUp (2 * 0 + 1) = true) := by
  refine ⟨?_, ?_, ?_, ?_, ?_, ?_, ?_, ?_, ?_, ?_, ?_, ?_, ?_, ?_, ?_, ?_⟩
  all_goals decide +kernel
theorem witness_StationResults :
    let at_ (k : Nat) : Mach := (stn3 mUp).setF (ST_W1_state 3) k
    let brk : Mach := mUp.setRst 0 { detect := [(1, 200), (2, 2500)], failed := [1, 2] }
    (mUp.stValid 3 = false ∧ ∀ k ∈ [0, 1, 4, 5], (at_ k).stValid 3 = true ∧ (at_ k).f (ST_W1_state 3) = k) ∧
    ((at_ 1).f (ST_W1_state 3) ≠ 5 ∧ (at_ 1).reqs = []) ∧
    (let m : Mach := { at_ 5 with ring := { (at_ 5).ring with stopped := [3] } }
     let q : Mach := { at_ 4 with ring := { (at_ 4).ring with silent := [(3, 4)] } }
     m.f (ST_W1_state 3) = 5 ∧ 3 ∈ m.ring.stopped ∧ q.f (ST_W1_state 3) = 4 ∧ 4 ≤ silentFor q 3 ∧ silentFor (at_ 1) 3 < 4 ∧ transitHop q = false) ∧
    ((mUp.rst 0).detect = [] ∧ (brk.rst 0).detect = (1, 200) :: [(2, 2500)] ∧ brk.b BT_STATUS_beat_run = false ∧ brk.reqs = [] ∧ (brk.rst 0).held = [] ∧
      (brk.rst 0).own = [] ∧ brk.ring.adopts = [] ∧ (brk.rst 0).calStage = 0 ∧ (∀ n, n < 4 → (brk.rst n).doneDue = false)) ∧
    ((mRun.setRst 0 { detect := [(1, 200)] }).b BT_STATUS_beat_run = true ∧ ((mRun.setRst 0 { detect := [(1, 200)] }).rst 0).detect = (1, 200) :: []) ∧
    (let m : Mach := { mUp with ring := { mUp.ring with wait := [(3, 7000)] } }
     m.ring.wait.find? (fun w => w.1 == 3) = some (3, 7000) ∧ m.ring.wait.find? (fun w => w.1 == 4) = none) := by
  refine ⟨?_, ?_, ?_, ?_, ?_, ?_⟩ <;> decide +kernel
theorem witness_EngineControlResults :
    let en (f : Engine → Engine) : Mach := mUp.setEng 1 (f (eng [(5, 77)]))
    let as (k : Nat) : Mach := en (fun x => { x with state := k, budget := 50 })
    let mig (k : Nat) : Mach := { mUp with mig := some { src := 0, spare := 1, phase := k } }
    let spare : Mach := (mUp.setF EN_SPARE_cluster 1).setF EN_SPARE_valid 1
    let bind : Mach := (((as 2).setF (EN_BIND_A_valid 1 15) 1).setF BT_STATUS_beat_run 1).setF BT_CTRL_beat_en 1
    let q : PendBind := { b := 15, time := 100, beat := 7 }
    let ready (m : Mach) : Prop := (m.eng 1).state = 2 ∧ (m.eng 1).stopReq = false ∧ migrating m 1 = false ∧ bindingsHeld m = false ∧ (m.clPower (1 / 4)).1 = 0 ∧
      (m.eng 1).fabErrDue = false ∧ (m.eng 1).mcDue = false
    (∀ k ∈ [0, 5, 6], (((as k).eng 1).state = 0 ∨ ((as k).eng 1).state = 5 ∨ ((as k).eng 1).state = 6) ∧ ((as k).eng 1).mcDue = false ∧
      ((as k).eng 1).overrunDue = false ∧ ((as k).eng 1).fabErrDue = false) ∧
    (∀ k ∈ [1, 6], 1 ≤ ((as k).eng 1).state ∧ ((as k).eng 1).state ≤ 6) ∧ 7 ≤ ((as 7).eng 1).state ∧
    ((en (fun x => { x with stopReq := true })).eng 1).stopReq = true ∧ (((as 3).eng 1).sb = [] ∧ ((as 3).eng 1).stopReq = false ∧ mUp.mig = none) ∧
    (let x := (en (fun x => { x with ie := 1, budget := 50 })).eng 1
     x.state = 3 ∧ x.budget ≠ 0 ∧ x.overran = false ∧ x.ie = 1 ∧ x.fabErrDue = false ∧ x.mcDue = false ∧ x.rob = [] ∧ x.wait = .none) ∧
    (((as 3).eng 1).state = 3 ∧ ((as 3).eng 1).budget ≠ 0 ∧ ((as 3).eng 1).ie ≠ 1 ∧ ((as 3).eng 1).mcDue = false ∧ ((as 3).eng 1).overran = false ∧
      ((en (fun x => { x with overran := true })).eng 1).overran = true ∧ ((en (fun x => { x with budget := 0 })).eng 1).budget = 0) ∧
    (∀ k ∈ [0, 1], let x := (en (fun x => { x with inExc := k })).eng 1; x.state = 3 ∧ x.rob = [] ∧ x.wait = .none ∧ x.inExc = k) ∧ ((as 2).eng 1).state = 2 ∧
    (mUp.b (EN_CL_CLAMP_clamp 0) = false ∧ (mUp.setF (EN_CL_CLAMP_clamp 0) 1).b (EN_CL_CLAMP_clamp 0) = true ∧ 3 / 4 = 0) ∧
    (let o := 0x2000000 + 1 * 0x10000 + 0xFFC
     let r := mUp.clRouter (1 / 4)
     barsOpen mUp = true ∧ barsOpen { mUp with pcie := { mUp.pcie with d3hot := true } } = false ∧
      (0xFFC % 4 = 0 ∧ [(1 : Byte), 2, 3, 4].length % 4 = 0 ∧ 0 < 4 ∧ 4 ≤ 512 ∧ 0xFFC % 4096 + 4 ≤ 4096) ∧ ¬ (0xFFC % 4096 + 8 ≤ 4096) ∧
      mpuCheck mUp 0x40 true needW (0x40000000 + o) 4 = (mUp, none) ∧ mUp.port r = 0 ∧ (mUp.setF (NC_PORT_STATUS_state r) 2).port r = 2 ∧
      mpuCheck (mUp.setF (NC_PORT_STATUS_state r) 2) 0x40 true needW (0x40000000 + o) 4 = (mUp.setF (NC_PORT_STATUS_state r) 2, none) ∧
      (mUp.setF (NC_PORT_STATUS_state r) 1).port r = 1) ∧
    migrateRefusal (mUp.setF EN_MIGRATE_source 0) 0 ≠ 0 ∧
    (migrateRefusal ((spare.setF BT_CTRL_beat_en 1).setF EN_MIGRATE_source 0) 0 = 0 ∧ (spare.setF BT_CTRL_beat_en 1).b BT_CTRL_beat_en = true) ∧
    ((mig 1).mig = some { src := 0, spare := 1, phase := 1 } ∧ (mig 1).test.run = none ∧ (mig 2).mig = some { src := 0, spare := 1, phase := 2 } ∧
      (let t : TestRun := { kind := 0, target := 15, migrate := true, at_ := 30, moving := true }
       t.moving = true ∧ { mUp with mig := some { src := 0, spare := 1, phase := 1, test := true }, test := { mUp.test with run := some t } }.test.run = some t)) ∧
    (∀ k ∈ [2, 6], let m := bind.updEng 1 (fun x => { x with state := k })
     let x := m.eng 1
     m.b (EN_BIND_A_valid 1 15) = true ∧ m.b (EN_BIND_A_kind 1 15) = false ∧ m.b BT_CTRL_beat_en = true ∧ m.b BT_STATUS_beat_run = true ∧
     m.beat.starting = false ∧ bindingsHeld m = false ∧ x.state = k ∧ x.stopReq = false ∧ m.f (EN_BIND_A_phase 1 15) ≤ 5 ∧
     bindingBeat m 1 15 m.beatNum = true ∧ (1 * 16 + 15, m.beatNum) ∉ m.beat.fired ∧ x.binds = [] ∧ x.active = none) ∧
    (mUp.b (EN_BIND_A_valid 1 15) = false ∧ ((as 0).eng 1).state ≠ 2) ∧
    (let m := bind.updEng 1 (fun x => { x with binds := [q] })
     ready m ∧ (m.eng 1).evq = [] ∧ pickBinding m 1 = some 15 ∧ m.b (EN_BIND_A_kind 1 15) = false ∧ (m.eng 1).binds.find? (fun p => p.b == 15) = some q) ∧
    (ready (as 2) ∧ pickBinding (as 2) 1 = none) ∧
    (let m := (as 2).updEng 1 (fun x => { x with evq := [(5, 6)] })
     ready m ∧ (m.eng 1).evq = [(5, 6)] ∧ (m.eng 1).binds = [] ∧ (∀ j, j < 16 → bindingMatches m 1 5 j = false)) ∧
    (let m := ((bind.setF (EN_BIND_A_kind 1 15) 1).setN (EN_BIND_B 1 15) 0).updEng 1 (fun x => { x with evq := [(0x0000000000000000, 6)] })
     ready m ∧ (m.eng 1).evq = (0, 6) :: [] ∧ bindingMatches m 1 0 15 = true ∧ pickBinding m 1 = some 15) := by
  refine ⟨?_, ?_, ?_, ?_, ?_, ?_, ?_, ?_, ?_, ?_, ?_, ?_, ?_, ?_, ?_, ?_, ?_, ?_, ?_, ?_⟩ <;> decide +kernel
/-- ATT entry 0 maps BAR2 offset 0 to fabric space of station 3, for reads and writes. -/
def mAtt : Mach := (((mUp.setF (AT_E0_valid 0) 1).setF (AT_E0_r 0) 1).setF (AT_E0_w 0) 1).setF (AT_E0_fab_page 0) (3 * 2048)
theorem witness_HostWindowResults :
    let be := [true, true, true, true]
    let closed : Mach := { mAtt with pcie := { mAtt.pcie with d3hot := true } }
    let strict : Mach := (mAtt.setF (AT_E0_strict 0) 1).setF (AT_E0_acc_w 0) 1
    let deny : Mach := mAtt.setF (PT_MCFG_dflt 0x40) 0
    let iso : Mach := mUp.setF (NC_PORT_STATUS_state (dramRouter 0)) 2
    let mt : Mach := (mAtt.setF (AT_E0_mtype 0) 1).setF (AT_E0_acc_w 0) 0
    let merging : Mach := { mt with
      reqs := [{ bseq := 5, init := 0x40, kind := .hostWrite, write := true, posted := true, ack := false, cls := 2, faddr := 3 * 2 ^ 31, iaddr := 0, att := 0,
                 tAcc := 0, attWord := mt.n (AT_E0 0), pieces := [{ fa := 3 * 2 ^ 31 + 2, len := 4, data := [9, 9, 9, 9], queued := true }] }] }
    let hrd (ps : List Piece) : Req := { bseq := 5, init := 0x40, kind := .hostRead 9, write := false, posted := false, ack := false, cls := 2, faddr := 0, iaddr := 0, tAcc := 0, pieces := ps }
    let wps (m : Mach) (o : Nat) : List Piece := hostPieces (decide (faSpace (attFa m o) = 2)) (attFa m o - attFa m o % mib) (2 ^ m.f (AT_E0_swap 0)) (o % mib)
      (hostCuts (2 ^ m.f (AT_E0_swap 0)) (accUnit (m.f (AT_E0_acc_w 0))) (o % mib) (allowed be (hostDeny m o (2 ^ m.f (AT_E0_swap 0)) needW be))) [1, 2, 3, 4]
    (be ≠ [] ∧ 0xFFC % 4096 + be.length ≤ 4096 ∧ barsOpen closed = false ∧ postedRoom closed = true ∧ barsOpen mAtt = true) ∧
    (attCheck mUp 0 be false = 2 ∧ attCheck (mAtt.setF (AT_E0_r 0) 0) 0 be false = 3 ∧ attCheck strict 0 be false = 4 ∧
      attCheck (mAtt.setF (AT_E0_fab_page 0) (2 * 2 ^ 25 + 5)) 0 (List.replicate 33 true) false = 5 ∧
      attCheck (mAtt.setF (AT_E0_w 0) 0) 0 be true = 3 ∧ postedRoom mAtt = true ∧ attCheck deny 0 be false = 6 ∧ attCheck deny 0 be true = 6 ∧ mUp.diesJoined = true ∧ m0.diesJoined = false ∧ m0.port 5 ≠ 2) ∧
    (attCheck mAtt 0 be false = 0 ∧ (∀ x ∈ hostDeny mAtt 0 (2 ^ mAtt.f (AT_E0_swap 0)) needR be, x = false) ∧ mAtt.b (AT_E0_pf 0) = false) ∧
    (attCheck mAtt 0 be true = 0 ∧ enabled [false, false] = 0 ∧ enabled be ≠ 0 ∧ (∀ x ∈ hostDeny mAtt 0 (2 ^ mAtt.f (AT_E0_swap 0)) needW be, x = false)) ∧
    ((wps mAtt 0).length = 1 ∧ (wps mAtt 0).all (fun p => (mergeTarget (countHit mAtt 0 1) 0 p).isNone) = true) ∧
    ((wps merging 6).length = 1 ∧ (wps merging 6).all (fun p => (mergeTarget (countHit merging 6 1) 6 p).isSome) = true) ∧
    ((0 : Fin 3).val ≠ 1 ∧ (1 : Fin 3).val = 1) ∧
    (0 < 4 ∧ 60 % 4096 + 4 ≤ 4096 ∧ 60 % 64 + 4 ≤ 64 ∧ bar4Deny mUp 60 needR 4 = List.replicate 4 false ∧ mUp.dramOk = true ∧ chansReach mUp 60 4 = true ∧ mUp.dramPoison 60 4 = false ∧ { mUp with dramBad := [60 / 8] }.dramPoison 60 4 = true ∧
      mpuCheck mUp 0x40 true needR (0x400000000 + 60) 4 = (mUp, none) ∧ bar4Deny mUp 60 needW 4 = List.replicate 4 false ∧ m0.dramOk = false ∧
      (iso.dramOk = true ∧ chansReach iso 60 4 = false ∧ iso.dramReach (60 / 256 * 256) = false ∧ mpuCheck iso 0x40 true needR (0x400000000 + 60) 4 = (iso, none) ∧ bar4Deny iso 60 needW 4 = List.replicate 4 false) ∧
      barsOpen m0 = true ∧ bar4Deny m0 60 needR 4 = List.replicate 4 false ∧ bar4Deny m0 60 needW 4 = List.replicate 4 false) ∧
    (let r := mUp.clRouter (windowCluster (true, 0, 4))
     windowOf 0x3000004 = some (true, 0, 4) ∧ 0x3000004 % 4 = 0 ∧ 0x3000004 % 4096 + 4 ≤ 4096 ∧ mUp.port r = 0 ∧ (mUp.setF (NC_PORT_STATUS_state r) 2).port r = 2 ∧ (mUp.setF (NC_PORT_STATUS_state r) 1).port r = 1 ∧
     0 < 4 ∧ 4 ≤ 512 ∧ windowOf 0x1300000 = none ∧ (windowOf 0x2000004).isSome = true ∧ ¬ (0x3000FFE % 4 = 0) ∧
     mpuCheck mUp 0x40 true needR (0x40000000 + 0x3000004) 4 = (mUp, none) ∧ mpuAllDenied mUp 0x40 true needR (0x40000000 + 0x3000004) 4 = false ∧
     0x3000004 % 64 + 4 ≤ 64 ∧ mpuCheck mUp 0x40 true needW (0x40000000 + 0x3000004) 4 = (mUp, none) ∧ [(1 : Byte), 2, 3, 4].length = 4) ∧
    (∀ ps ∈ [[], [{ fa := 3, len := 4 }]], { mUp with reqs := [hrd ps] }.reqs.find? (fun q => decide (q.kind = ReqKind.hostRead 9) && q.orphan.isNone) = some (hrd ps)) ∧
    (mUp.setF BR_HRD_TO_limit_us 0).f BR_HRD_TO_limit_us = 0 ∧ (mUp.setF BR_HRD_TO_limit_us 7).f BR_HRD_TO_limit_us ≠ 0 := by
  refine ⟨?_, ?_, ?_, ?_, ?_, ?_, ?_, ?_, ?_, ?_, ?_, ?_⟩ <;> decide +kernel
theorem witness_BridgeResults :
    let q : Req := { bseq := 5, init := 0x40, kind := .hostRead 9, write := false, posted := false, ack := false, cls := 2, faddr := 3 * 2 ^ 31, iaddr := 0,
                     tAcc := 0, pieces := [{ fa := 3 * 2 ^ 31, len := 4 }] }
    let be := List.replicate (2 ^ 0) true
    let x (c : Option Nat) : Fenced := { ev := { id := 7 }, src := 3, at_ := 70, beat := 0, tc2 := c }
    let fen (c : Option Nat) : Mach := { (stn3 mUp) with fenced := [x c], ring := { mUp.ring with rx := (keysFrom 0 8).map (fun c => (3 * 8 + c, { h := 3, seen := [3] })) } }
    let y (t : Option Nat) : Fenced := { ev := { id := 7 }, src := 3, at_ := 70, beat := 9, tc1 := t }
    let attOff (c : Nat) : Mach := if c = 2 then mUp else mAtt.setF (AT_E0_w 0) 0
    ({ mUp with reqs := [q] }.req 5 = some q ∧ faSpace q.faddr ≠ 2 ∧ 2 ≤ q.cls ∧ q.posted = false ∧ q.write = false ∧ q.pieces ≠ [] ∧ q.kind = .hostRead 9 ∧ q.orphan = none ∧
      overHostLimit (mUp.upTo (0 + tStn mUp)) q = false ∧
      (let m := mUp.setF BR_HRD_TO_limit_us 1; overHostLimit (m.upTo (0 + tStn m)) q = true)) ∧
    ((mUp.setF (BR_CWP_PEEK_busy 7) 1).b (BR_CWP_PEEK_busy 7) = true ∧ mUp.b (BR_CWP_PEEK_busy 7) = false) ∧
    (let m := (mUp.setF (BR_CWP_CTRL_size 0) 2).setF (BR_CWP_ADDR_offset 0) 2
     m.b (BR_CWP_PEEK_busy 0) = false ∧ m.f (BR_CWP_ADDR_offset 0) % 2 ^ m.f (BR_CWP_CTRL_size 0) ≠ 0) ∧
    (∀ c ∈ [2, 3], (attOff c).b (BR_CWP_PEEK_busy 0) = false ∧ (attOff c).f (BR_CWP_ADDR_offset 0) % 2 ^ (attOff c).f (BR_CWP_CTRL_size 0) = 0 ∧
      attCheck (attOff c) 0 (List.replicate (2 ^ (attOff c).f (BR_CWP_CTRL_size 0)) true) true = c) ∧
    (mAtt.f (BR_CWP_ADDR_offset 0) = 0 ∧ mAtt.f (BR_CWP_CTRL_size 0) = 0 ∧ attCheck mAtt 0 be true = 0 ∧
      ∀ y ∈ hostDeny mAtt 0 (2 ^ mAtt.f (AT_E0_swap 0)) needW be, y = false) ∧
    ((fen none).fenced[0]? = some (x none) ∧ (fenceLeft (fen none) (x none)).open = true ∧ reservedId (x none).ev.id = false) ∧
    (let s := fen (some 5)
     s.fenced[0]? = some (x (some 5)) ∧ (fenceLeft s (x (some 5))).open = false ∧ (fenceLeft s (x (some 5))).tc2 = some 5 ∧
     (fenceLeft s (x (some 5))).tc1 = none ∧ (fenceLeft s (x (some 5))).tc3 = none ∧ (fenceLeft s (x (some 5))).ux = none ∧
     bitAt (x none).ev.flags 0 = false ∧ s.stValid 3 = true ∧ s.f (ST_W1_state 3) ≠ 0 ∧ (s.setF (ST_W1_state 3) 0).f (ST_W1_state 3) = 0) ∧
    (let s : Mach := { fen none with fenced := [y (some 5)] }
     s.fenced[0]? = some (y (some 5)) ∧ (fenceLeft s (y (some 5))).tc1 = some 5 ∧ (fenceLeft s (y (some 5))).tc2 = none ∧ fencePastInput s (y (some 5)) = true ∧
     (let w : Mach := s.setF BT_STATUS_beat_run 1; fencePastInput w { y (some 5) with beat := w.beatNum } = false ∧ w.now < 70 + 2000000)) ∧
    ({ mUp with pcie := { mUp.pcie with bme := true } }.pcie.bme = true ∧ mUp.pcie.bme = false ∧ mUp.mxAcc = [] ∧ mUp.fenced[0]? = none ∧ mUp.req 5 = none ∧ attCheck (mAtt.setF (PT_MCFG_dflt 0x40) 0) 0 be true = 6) := by
  refine ⟨?_, ?_, ?_, ?_, ?_, ?_, ?_, ?_, ?_⟩ <;> decide +kernel
/-- Uhlux port 0 enabled with every slot populated, inbound and arbitration on, all interrupt levels enabled but 6. -/
def mUx : Mach := ((((((mUp.setUxp 0 { sysreset := none }).setF (UX_CFG_enable 0) 1).setF (UX_SLOT_en 0) 0xFFFF).setF (UX_CFG_arb_en 0) 1).setF (UX_CFG_inbound_en 0) 1)).setF (UX_IRQ_CFG_en 0) 0x5F
def uxReq (fa : Nat) : Req := { bseq := 5, init := 0x40, kind := .hostRead 9, write := false, posted := false, ack := false, cls := 2, faddr := fa, iaddr := 0,
                                tAcc := 10, pieces := [{ fa := fa, len := 2 }] }
def uxIs (x : UxPort) : Mach := { mUx.setUxp 0 { x with sysreset := none } with reqs := [uxReq (2 * 2 ^ 45 + 0x80004)] }
theorem witness_UhluxOutboundResults :
    let fa := 2 * 2 ^ 45 + 0x80004
    let m (x : UxPort) : Mach := uxIs x
    uxLive mUp 0 = false ∧
    (let a := m { queue := [5] }
     uxLive a 0 = true ∧ (a.uxp 0).cur = none ∧ (a.uxp 0).iack = none ∧ (a.uxp 0).bbsy = false ∧ (a.uxp 0).bgOut = false ∧ (a.uxp 0).queue = 5 :: [] ∧
     a.req 5 = some (uxReq fa) ∧ uxRefused a fa = false ∧ uxRefused a (2 * 2 ^ 45 + 0x900004) = true ∧
     irqLevel a 0 = 0 ∧ a.f (UX_STATUS_irq 0) = 0 ∧ irqLevel ((a.setF (UX_STATUS_irq 0) 64).setF (UX_IRQ_CFG_en 0) 64) 0 = 7) ∧
    (let a := m { queue := [5], cur := some (5, 0, 7) }
     (a.uxp 0).iack = none ∧ (a.uxp 0).cur = some (5, 0, 7) ∧ a.req 5 = some (uxReq fa) ∧ (uxReq fa).pieces[0]? = some { fa := fa, len := 2 }) ∧
    (((m { iack := some (7, 7) }).uxp 0).iack = some (7, 7) ∧ ((m { iack := some (7, 7) }).uxp 0).lastIn = none) ∧
    (∀ k ∈ [1, 2], let a := (m { misses := [(15, k)] }).setF (UX_CFG_absent_after 0) 2
      (missOf a 0 15 < 2 ∨ 2 ≤ missOf a 0 15) ∧ missOf a 0 15 = k ∧ a.f (UX_CFG_absent_after 0) = 2 ∧ (a.uxp 0).queue = []) ∧
    (faSpace (uxReq fa).faddr = 2 ∧ (uxReq fa).write = false) ∧
    ((m { queue := [5] }).uxp 0).queue = 5 :: [] ∧ ((m {}).uxp 0).queue = [] ∧ ((m {}).uxp 0).sysreset = none ∧ ((mUx.setUxp 0 { sysreset := some 7000 }).uxp 0).sysreset = some 7000 ∧
    (let a := m { queue := [5], bbsy := true }
     (a.uxp 0).queue = 5 :: [] ∧ (a.uxp 0).cur = none ∧ (a.uxp 0).bbsy = true ∧ (m {}).req 6 = none) ∧
    (let a := (m { queue := [5] }).setF (UX_STATUS_irq 0) 1
     irqLevel a 0 ≠ 0 ∧ uxLive a 0 = true ∧ (a.uxp 0).cur = none ∧ (a.uxp 0).iack = none ∧ (a.uxp 0).bbsy = false ∧ (a.uxp 0).bgOut = false) := by decide +kernel
/-- Inbound window 1 of port 0 maps card addresses 0x800000 to 0x83FFFF to DRAM from 0x20000. -/
def mWin (r w : Nat) : Mach :=
  (((((mUx.setF (UX_IWIN_valid 0 1) 1).setF (UX_IWIN_r 0 1) r).setF (UX_IWIN_w 0 1) w).setF (UX_IWIN_base 0 1) 0x80).setF (UX_IWIN_size_m1 0 1) 3).setF (UX_IWIN_dram_off 0 1) 2
theorem witness_UhluxInboundResults :
    let lo := 0x20000
    let busy : Mach := mUx.setUxp 0 { queue := [5], bbsy := true, sysreset := none }
    let wr : Mach := (mWin 1 1).setUxp 0 { inq := [(7, 0x20000, [1, 2])], sysreset := none }
    let irq (k : Nat) (x : UxPort) : Mach := (mUx.setUxp 0 { x with sysreset := none }).setF (UX_STATUS_irq 0) k
    (uxLive mUx 0 = true ∧ mUx.b (UX_CFG_arb_en 0) = true ∧ uxDue mUx 0 = false ∧ (mUx.uxp 0).bbsy = false ∧ (mUx.uxp 0).bgOut = false ∧ (mUx.uxp 0).cur = none ∧ (mUx.uxp 0).iack = none) ∧
    (let w : Mach := (mWin 1 1).setF (PT_MCFG_dflt 0x5C) 0; (mpuCheck w (0x5C + 0) true needW (0x400000000 + lo) 2).2.isSome = true ∧
      (mpuCheck w (0x5C + 0) true needR (0x400000000 + lo) 2).2.isSome = true ∧ { mWin 1 1 with dramBad := [lo / 8] }.dramPoison lo 2 = true) ∧
    (let w := (mWin 1 1).setUxp 0 { inq := List.replicate 64 (7, 0x20000, [1, 2]), sysreset := none }; 64 ≤ (w.uxp 0).inq.length) ∧
    (uxDue busy 0 = true ∧ (busy.uxp 0).bbsy = true ∧ mUp.b (UX_CFG_arb_en 0) = false) ∧
    (uxEnabled mUp 0 = false ∧ 0x7FFFFF < 0x800000 ∧ uxEnabled (mWin 1 1) 0 = true ∧ 0x800000 ≤ 0x800000) ∧
    (uxBclr busy 0 = true ∧ uxEnabled busy 0 = true) ∧ uxBclr (mWin 1 1) 0 = false ∧
    ((mUx.setF (UX_CFG_inbound_en 0) 0).b (UX_CFG_inbound_en 0) = false ∧ windowAt (mWin 1 1) 0 0x840000 = none) ∧
    (windowAt (mWin 1 1) 0 0x800000 = some 1 ∧ windowAt (mWin 1 1) 0 0x83FFFF = some 1 ∧ (mWin 1 1).b (UX_CFG_inbound_en 0) = true) ∧
    ((mWin 1 0).b (UX_IWIN_w 0 1) = false ∧ (mWin 0 1).b (UX_IWIN_r 0 1) = false ∧ windowAt (mWin 1 0) 0 0x800000 = some 1) ∧
    (windowDram (mWin 1 1) 0 1 0x800000 = lo ∧ (mWin 1 1).b (UX_IWIN_w 0 1) = true ∧ ((mWin 1 1).uxp 0).inq.length < 64 ∧
      mpuCheck (mWin 1 1) (0x5C + 0) true needW (0x400000000 + lo) 2 = (mWin 1 1, none)) ∧
    ((mWin 1 1).b (UX_IWIN_r 0 1) = true ∧ ((mWin 1 1).uxp 0).inq = [] ∧ (mWin 1 1).dramReach lo = true ∧ (mWin 1 1).dramPoison lo 2 = false ∧
      mpuCheck (mWin 1 1) (0x5C + 0) true needR (0x400000000 + lo) 2 = (mWin 1 1, none)) ∧
    ((wr.uxp 0).inq = (7, 0x20000, [1, 2]) :: [] ∧ wr.dramReach 0x20000 = true) ∧
    (irqLevel (irq 0x40 {}) 0 = 7 ∧ irqLevel (irq 0x20 {}) 0 = 0 ∧ irqLevel (irq 1 {}) 0 = 1 ∧ irqLevel (irq 0x40 { blocked := [(7, 8000)] }) 0 = 0) ∧
    (mapGet (fun _ => 0) ((irq 0 { blocked := [(7, 8000)] }).uxp 0).blocked 7 = 8000 ∧ mapGet (fun _ => 0) (mUx.uxp 0).blocked 7 = 0) ∧
    (3 ≤ mapGet (fun _ => 0) ((irq 0 { spur := [(7, 3)] }).uxp 0).spur 7 ∧ mapGet (fun _ => 0) ((irq 0 { spur := [(7, 2)] }).uxp 0).spur 7 < 3) := by
  refine ⟨?_, ?_, ?_, ?_, ?_, ?_, ?_, ?_, ?_, ?_, ?_, ?_, ?_, ?_, ?_, ?_⟩ <;> decide +kernel
theorem witness_EventUnitResults :
    let r : EvRec := { id := 7, cond := 9, source := 4 }
    let base : Mach := ({ mUp with pcie := { bme := true, l0 := true } }.setF (EV_E0_vector 7) 3).setF (MX_VCTRL_mask 3) 0
    let timed (l : Option EvRec) (k : Nat) (m : Mach) : Mach := { m with evSlots := [(7, { timer := some 8000, latest := l })] }.setF (EV_E1_pending 7) k
    let held : Mach := { mUp.setEng 1 { state := 2 } with evHeld := [⟨7, 2, r, 4⟩, ⟨8, 1, r, 4⟩] }
    let dio : RF := ⟨PW_DIO, 7, 1⟩
    (mUp.evSlot 7).timer = none ∧ (((timed none 0 base).evSlot 7).timer = some 8000 ∧ (timed none 0 base).f (EV_E1_pending 7) = 0) ∧
    (let m := timed (some r) 4 base
     (m.evSlot 7).timer = some 8000 ∧ m.f (EV_E1_pending 7) ≠ 0 ∧ (m.evSlot 7).latest = some r ∧ m.vectorMasked (m.f (EV_E0_vector 7)) = false ∧ m.pcie.l0 = true) ∧
    (let m := timed (some r) 4 (base.setF (MX_VCTRL_mask 3) 1)
     m.f (EV_E1_pending 7) ≠ 0 ∧ (m.evSlot 7).latest = some r ∧ m.vectorMasked (m.f (EV_E0_vector 7)) = true) ∧
    64 ≤ ((mUp.setEng 1 { evq := List.replicate 64 (1, 2) }).eng 1).evq.length ∧
    ((held.eng 1).evq.length < 64 ∧ takeFirst (fun h => h.engine == 1) held.evHeld = some (⟨8, 1, r, 4⟩, [⟨7, 2, r, 4⟩]) ∧ (held.eng 1).state ≠ 7 ∧
      (held.eng 1).wait = .none ∧ held.port (held.clRouter (1 / 4)) = 0 ∧ (∀ g ∈ [(⟨7, 2, r, 4⟩ : EvHeld)], g.id ≠ 8 ∨ g.engine ≠ 1)) ∧
    (base.mxAcc = [] ∧ base.mxHeld = []) ∧
    (let m := { base with mxAcc := [(3, 5)] }
     m.mxAcc = [(3, 5)] ∧ m.pcie.bme = true ∧ m.pcie.d3hot = false ∧ m.pcie.l0 = true ∧ m.pcie.funcMask = false ∧ m.f (MX_VCTRL_mask 3) = 0) ∧
    ({ base with mxHeld := [3] }.mxHeld = [3] ∧ base.vectorMasked 3 = false) ∧
    (mUp.b dio = false ∧ mUp.b dio ≠ true ∧ mUp.tocsin.copies = [] ∧ reflexFind (mUp.setF dio (b2n true)) 0 (0xFFE8 + 5) (b2n true) = none) ∧
    (let m := (mUp.setF (TX_W0_valid 5) 1).setF (TX_W0_code 5) 0xFFED |>.setF TW_STATUS_fenced 1
     m.b dio ≠ true ∧ reflexFind (m.setF dio (b2n true)) 0 (0xFFE8 + 5) (b2n true) = some 5 ∧ m.tocsin.copies = [] ∧ transitHop m = true) ∧
    (let t := reflexUpset mUp (some (0, 4095, 9, 1))
     copyBits t 0 4095 9 ≠ copyBits t 1 4095 9 ∧ ∀ w, w < 10 → copyBits (reflexUpset mUp none) 0 4095 w = copyBits (reflexUpset mUp none) 1 4095 w) ∧
    ((timed none 4 base).f (EV_E1_pending 7) ≠ 0 ∧ ((timed none 4 base).evSlot 7).latest = none ∧ { base with pcie := { bme := true } }.pcie.l0 = false) := by
  refine ⟨?_, ?_, ?_, ?_, ?_, ?_, ?_, ?_, ?_, ?_, ?_, ?_, ?_⟩ <;> decide +kernel
/-- The module with a packet from router 2 with no data that has come out at router dst. -/
def mNoc (m : Mach) (dst op : Nat) : Mach :=
  let k : NocPacket := { src := 2, dst := dst, master := 0x40, cls := 1, op := op, tag := 1, bseq := 9, data := [], injected := 7000, id := 1 }
  let k := { k with place := List.replicate k.path.length 0 ++ [k.flits] }
  { m with noc := { packets := [k], serial := 1, fifo := [(k.exitKey, [1])] } }
/-- The first packet of a module meets this. -/
def firstPkt (m : Mach) (f : NocPacket → Bool) : Prop := (m.noc.packets[0]?).any f = true
theorem witness_NetworkResults :
    let power (k : Nat) : Mach := { mUp with noc := { power := [(0, k, 6000)] } }
    let r := mUp.clRouter 0
    let gate : Mach := mUp.setF (EN_CL_CTRL_gate_en 0) 1
    let k (cls : Nat) (n : Nat) : NocPacket := { src := 0, dst := 7, master := 0x40, cls := cls, op := 0, tag := 1, bseq := 9, data := List.replicate n 7, injected := 7000, urgent := cls == 0 }
    let reg (z : Noc) : Mach := { ((mUp.setF (NC_REG_rate_tc1 0) 100).setF (NC_REG_burst_tc1 0) 3) with noc := z }
    let out (m : Mach) (noise : List (BitVec 264)) (bad : Bool) : Prop := firstPkt m (fun k0 =>
      let a := nocRun (nocWork m) m k0.id
      !k0.delivered && !dovetailHolds m k0 && (a.nocPacket k0.id).any (fun x => nocOut a x.id && nocFirst a x && !x.waits && nocCrcBad x noise == bad))
    (nocAdmit mUp = mUp ∧ mUp.noc.queue = [] ∧ tileMaster mUp 2 0x40 = false ∧ nocVn 0 ≠ some 1 ∧ tileMaster mUp 0 0x40 = true) ∧
    (nocVn 15 = none ∧ 1024 < 1025 ∧ nocVn 0 = some 0 ∧ nocVn 8 = some 1 ∧ ∃ op ∈ List.range 16, nocVn op = some 2) ∧
    ((k 0 32).flits ≤ 2 ∧ 2 < (k 0 33).flits ∧ nocReady mUp (k 1 32) = some 7000 ∧ nocReady mUp (k 0 32) = some 7000 ∧
      nocReady { mUp with noc := { urgent := [(0, 4, 6999)] } } (k 0 32) = some 7015) ∧
    ((nocReg (reg {}) 0 1).1 ≠ 0 ∧ (k 1 32).flits * 1000 ≤ nocTokens (reg {}) 0 1 ∧ nocTokens (reg { bucket := [(1, 10, 7000)] }) 0 1 < (k 1 32).flits * 1000) ∧
    (out (mNoc mUp 7 8) [] false ∧ out (mNoc mUp 7 8) [1] true) ∧
    ((mNoc mUp 7 8).port 7 = 0 ∧ ((mNoc mUp 7 8).setF (NC_PORT_STATUS_state 7) 2).port 7 = 2 ∧ ((mNoc mUp 7 8).setF (NC_PORT_STATUS_state 7) 1).port 7 = 1) ∧
    (firstPkt (mNoc m0 5 8) (fun x => dovetailHolds (mNoc m0 5 8) x) ∧ firstPkt (mNoc mUp 7 8) (fun x => !x.waits && !x.delivered) ∧
      { mUp with noc := { packets := [{ k 1 32 with waits := true, delivered := true }] } }.noc.packets[0]? = some { k 1 32 with waits := true, delivered := true }) ∧
    (mUp.noc.packets[0]? = none ∧ mUp.req 5 = none ∧ { mUp with reqs := [{ toStn3 false with held := true }] }.req 5 = some { toStn3 false with held := true }) ∧
    (∀ n ∈ [isoAfter mUp, isoAfter mUp - 1], mapGet (fun _ => 0) { mUp with noc := { run := [(7, n)] } }.noc.run 7 = n) ∧ 0 < isoAfter mUp ∧
    (gate.b (EN_CL_CTRL_gate_en 0) = true ∧ clusterIdle gate 0 = true ∧ (gate.clPower 0).1 = 0 ∧ gate.port r = 0 ∧ mapGet (fun _ => []) gate.portQ 0 = []) ∧
    (clusterIdle (mUp.setEng 1 { state := 3 }) 0 = false ∧ mUp.b (EN_CL_CTRL_gate_en 0) = false) ∧
    (∀ n ∈ [1, 2, 3], ((power n).clPower 0).1 = n ∧ (power n).port r ≠ 2 ∧ (power n).noc.waiting = []) ∧
    ((power 2).setF (NC_PORT_STATUS_state r) 3).port r = 3 ∧ (((power 2).setF (NC_PORT_STATUS_state r) 3).clPower 0).1 = 2 := by
  refine ⟨?_, ?_, ?_, ?_, ⟨?_, ?_⟩, ?_, ⟨?_, ?_, ?_⟩, ?_, ?_, ?_, ?_, ?_, ?_, ?_, ?_⟩ <;> first | decide +kernel | (simp only [firstPkt]; decide +kernel)
theorem witness_JournalAndMoverResults :
    let e : JEntry := ⟨0, 77, 0x11, [1, 2, 3]⟩
    let cur (k : Nat) : Mach := ((mUp.setN JN_DONE 9).setN JN_LOW 4).setN (JN_RD_CUR 0) k
    let d (kind dir : Nat) (w : Bool) : MvDesc := { host := 0x1000, loc := 0x40, len := 4, kind := kind, dir := dir, ev := false, wait := w, ph := 5 }
    let mv (x : Mover) : Mach := { mUp.setMover 0 x with pcie := { bme := true, l0 := true } }
    ({ mUp with jq := [e] }.jq = e :: [] ∧ mUp.noJournal = false ∧ jSlots mUp ≠ 0 ∧ mUp.dramReach (jSlot mUp e.seq) = true ∧ mUp.jDropFull = 0 ∧
      unitCheck mUp 0x51 needW (0x400000000 + jSlot mUp e.seq) 32 = (mUp, true) ∧ (unitCheck (mUp.setF (PT_MCFG_dflt 0x51) 0) 0x51 needW (0x400000000 + jSlot mUp e.seq) 32).2 = false ∧
      0 < { mUp with jDropFull := 5 }.jDropFull ∧ mUp.b JN_CTRL_jrn_en = true) ∧
    ((mUp.setF JN_STATUS_nojrn 1).noJournal = true ∧ m0.dramReach (jSlot m0 e.seq) = false) ∧
    (∀ k ∈ [3, 4, 8, 9], (cur k).n (JN_RD_CUR 0) = k ∧ (cur k).n JN_LOW = 4 ∧ (cur k).n JN_DONE = 9 ∧ (cur k).dramReach (jSlot (cur k) k) = true ∧ mpuOpen (cur k) 0x51 = true) ∧
    ((mv { q := List.replicate 15 (d 0 0 false) }).mover 0).q.length < 16 ∧ 16 ≤ ((mv { q := List.replicate 16 (d 0 0 false) }).mover 0).q.length ∧
    (let m := mv { q := [d 1 1 false] }
     (m.mover 0).q = d 1 1 false :: [] ∧ (m.mover 0).run = none ∧ m.pcie.d3hot = false ∧ m.b CT_CLAMP_movers = false ∧ (d 1 1 false).wait = false) ∧
    (¬ ((d 0 0 false).dir = 1 ∧ ((d 0 0 false).kind = 1 ∨ (d 0 0 false).kind = 3)) ∧ mUp.noJournal = false ∧ mUp.dramOk = true) ∧
    ((d 0 0 true).wait = true ∧ mUp.b BT_STATUS_beat_run = false) ∧ (mUp.setF CT_CLAMP_movers 1).b CT_CLAMP_movers = true ∧
    (let m := mv { q := [d 0 0 false], run := some 1 }
     (m.mover 0).run = some 1 ∧ m.pcie.bme = true ∧ mvRun m 0x48 needR true (mvRanges m (d 0 0 false) 1) = (4, 0, 0) ∧ mUp.pcie.bme = false) ∧
    (let m := mv { q := [d 0 1 false], run := some 1 }
     m.noJournal = false ∧ (d 0 1 false).len = [(1 : Byte), 2, 3, 4].length ∧ mvRun m 0x48 needW false (mvRanges m (d 0 1 false) 1) = (4, 0, 0)) ∧
    (mUp.setF JN_CTRL_scrub_en 0).b JN_CTRL_scrub_en = false ∧ (mUp.setF JN_CTRL_scrub_en 1).b JN_CTRL_scrub_en = true ∧
    mUp.dramReach (0 * 64) = true ∧ m0.dramReach (0 * 64) = false ∧ mUp.dramReach ((2 ^ 28 - 1) * 64) = true := by
  refine ⟨?_, ?_, ?_, ?_, ?_, ?_, ?_, ?_, ?_, ?_, ?_, ?_, ?_, ?_, ?_, ?_⟩ <;> decide +kernel
theorem witness_ClampAndSelfTestResults :
    let clamped : Mach := mUp.setN CT_CLAMP 0x1FFF
    let ts (r n : Option TestRun) : Mach := { mUp with test := { mUp.test with run := r, next := n } }
    let bist : TestRun := { kind := 0, target := 15, migrate := false, at_ := 30 }
    let recal : TestRun := { kind := 1, target := 1, migrate := false, at_ := 30, down := true }
    let spare : Mach := (mUp.setF EN_SPARE_valid 1).setF EN_SPARE_cluster 5
    (∀ k ∈ [0, 7, 8, 9], bitAt (mUp.n CT_CLAMP) k = false ∧ bitAt (clamped.n CT_CLAMP) k = true) ∧
    (clamped.b CT_CLAMP_dram = true ∧ mUp.b CT_CLAMP_dram = false ∧ mUp.f TW_STATUS_role ≠ 1) ∧
    (clamped.b CT_CLAMP_movers = true ∧ mUp.b CT_CLAMP_movers = false) ∧ (clamped.b CT_CLAMP_tenon = true ∧ mUp.b CT_CLAMP_tenon = false) ∧
    (8 ≤ (8 : Fin 16).val ∧ (7 : Fin 16).val < 8 ∧ mUp.test.run = none) ∧
    ((mUp.setF (EN_CL_CLAMP_clamp 15) 1).b (EN_CL_CLAMP_clamp 15) = true ∧ mUp.b (EN_CL_CLAMP_clamp 15) = false ∧ migrateRefusal mUp 15 ≠ 0) ∧
    (recalSafe ((portUpM mUp 6).setF (RG_RING_STATUS_state 3) 1) 7 = true) ∧ recalSafe mUp 7 = false ∧
    ((ts (some bist) none).test.run ≠ none ∧ (ts (some bist) none).test.next = none ∧ (ts (some bist) (some recal)).test.next ≠ none) ∧
    ((ts (some bist) none).test.run = some bist ∧ bist.kind = 0 ∧ bist.moving = false ∧ bist.target < 16) ∧
    ((ts (some recal) none).test.run = some recal ∧ recal.kind = 1 ∧ recal.down = true ∧ bist.kind ≠ 1) ∧ migrateRefusal spare 5 ≠ 0 ∧
    (migrateRefusal spare 4 = 0 ∧ spare.b (EN_CL_CLAMP_clamp 4) = false ∧ spare.test.run = none) ∧
    ((mUp.setF TW_STATUS_role 1).b CT_CLAMP_dram = false ∧ (mUp.setF TW_STATUS_role 1).f TW_STATUS_role = 1) ∧ mUp.f (RG_PORT_STATUS_state 7) ≠ psUp := by
  refine ⟨?_, ?_, ?_, ?_, ?_, ?_, ?_, ?_, ?_, ?_, ?_, ?_, ?_, ?_, ?_⟩ <;> decide +kernel
/-- The module in twin operation with the link up: role 1 primary, role 2 standby. -/
def mTwin (role : Nat) : Mach := (mUp.setF TW_STATUS_role role).setF TW_STATUS_tenon_up 1
theorem witness_TwinResults :
    let buf : Mach := { mTwin 2 with twin := { (mTwin 2).twin with buf := [{ code := 3 }] } }
    let src (m : Mach) : Mach := m.setF BT_SRC_CFG_src_en 15
    let miss (k : Nat) (b : Bool) : Mach := { mTwin 2 with twin := { (mTwin 2).twin with missed := k, blind := b } }
    let flag (m : Mach) : Mach := m.setSrc 4 { m.src 4 with flag := true }
    (let m := (src (mTwin 2)).setSrc 4 { good := 16, since := some 5 }
     m.tenonUp = true ∧ srcOn m 4 = true ∧ srcQual (flag m) 4 = true) ∧
    ((src (mTwin 2)).tenonUp = true ∧ srcOn (src (mTwin 2)) 4 = true ∧ srcQual (flag (src (mTwin 2))) 4 = false) ∧
    (mUp.tenonUp = false ∧ mUp.standby = false) ∧
    ((mTwin 2).standby = true ∧ (mTwin 2).tenonUp = true ∧ (mTwin 2).twin.buf.length = 0) ∧
    (buf.standby = true ∧ buf.tenonUp = true ∧ buf.twin.buf.length = 1 ∧ buf.twin.buf.length ≠ 0 ∧ buf.twin.buf ≠ []) ∧
    ((mTwin 1).f TW_STATUS_role = 1 ∧ (mTwin 1).tenonUp = true ∧ (mTwin 1).stations = [] ∧ ((mTwin 1).setF TW_STATUS_sync 1).b TW_STATUS_sync = true) ∧
    (mTwin 2).f TW_STATUS_role ≠ 1 ∧
    (1 ≤ (miss 1 false).twin.missed ∧ (miss 1 false).twin.blind = false ∧ (miss 1 false).standby = true ∧ (miss 0 false).twin.missed = 0 ∧ (miss 1 true).twin.blind = true) ∧
    (((mTwin 2).setF TW_STATUS_sync 1).b TW_STATUS_sync = true ∧ ((mTwin 2).setF TW_STATUS_sync 1).standby = true ∧ (mTwin 2).b TW_STATUS_sync = false) ∧
    ((mUp.setF TW_STATUS_role 1).f TW_STATUS_role = 1 ∧ (mUp.setF TW_STATUS_role 1).tenonUp = false ∧ (mTwin 1).b TW_STATUS_sync = false) ∧
    (((mTwin 2).setF TW_STATUS_mirror_age 5).f TW_CFG_max_age < ((mTwin 2).setF TW_STATUS_mirror_age 5).f TW_STATUS_mirror_age ∧
      (stn3 (mTwin 2)).ringStations 0 ≠ [] ∧ (stn3 (mTwin 2)).standby = true) := by
  refine ⟨?_, ?_, ?_, ?_, ?_, ?_, ?_, ?_, ?_, ?_, ?_⟩ <;> decide +kernel
/-- The CRC of an idle flit that acknowledges seq 255 (R590), in four pieces. -/
theorem dvCrc_idle : dvCrc (0xFF * 2 ^ 280) = 0x0559#16 := by
  have e : beBytes 38 (0xFF * 2 ^ 280) = [0, 0, 0xFF] ++ List.replicate 12 0 ++ List.replicate 12 0 ++ List.replicate 11 0 := by decide +kernel
  have h1 : [0, 0, 0xFF].foldl crc16 0xFFFF#16 = 0xD26C#16 := by decide +kernel
  have h2 : (List.replicate 12 0).foldl crc16 0xD26C#16 = 0x5B3D#16 := by decide +kernel
  have h3 : (List.replicate 12 0).foldl crc16 0x5B3D#16 = 0x20E0#16 := by decide +kernel
  have h4 : (List.replicate 11 0).foldl crc16 0x20E0#16 = 0x0559#16 := by decide +kernel
  rw [dvCrc, e, List.foldl_append, List.foldl_append, List.foldl_append, h1, h2, h3, h4]
/-- The dovetail link is up and idle: a flit sent towards the H-die with bit 0 changed fails its CRC. -/
theorem witness_DovetailResults_bad :
    let q := dvCarry (dvSend mUp 0).1 0 (dvSend mUp 0).2
    mUp.dvState = 2 ∧ dvWorn q.1 0 = false ∧ dvGood (q.2.wire ^^^ BitVec.ofNat 320 (laneNoise 20 (dvActive mUp 0) 0 1)) = false := by
  have hb : (dvCarry (dvSend mUp 0).1 0 (dvSend mUp 0).2).2.body = 0xFF * 2 ^ 280 := by decide +kernel
  have hw : (dvCarry (dvSend mUp 0).1 0 (dvSend mUp 0).2).2.wire = 0x0000FF00000000000000000000000000000000000000000000000000000000000000000000000559#320 := by
    rw [DvBits.wire, hb, dvCrc_idle]; decide +kernel
  have hn : BitVec.ofNat 320 (laneNoise 20 (dvActive mUp 0) 0 1) = 1 := by decide +kernel
  refine ⟨by decide +kernel, by decide +kernel, ?_⟩
  simp only [hw, hn, dvGood]
  rw [show (0x0000FF00000000000000000000000000000000000000000000000000000000000000000000000559#320 ^^^ 1).toNat / 2 ^ 16 = 0xFF * 2 ^ 280 by decide +kernel, dvCrc_idle]
  decide +kernel
theorem witness_DovetailResults :
    let dir (x : DvDir) : Mach := mUp.setDvDir 0 x
    let dv (k : Nat) (x : Dovetail) : Mach := { (mUp.setF DV_STATUS_state k) with dv := x }
    let stop : Mach := { mUp with stopped := [domainOf BT_CTRL], heldWrites := [(BT_CTRL, 0x40, 4, 1)] }
    let held (l : List Nat) (h : Bool) : Mach := { mUp with pw := { mUp.pw with held := l, hold := h } }
    let noc (f : DvFlit) : Mach := { dir { next := 255, want := 255, queue := [f] } with noc := { packets := [{ src := 0, dst := 5, master := 1, cls := 1, op := 8, tag := 0, bseq := 0, id := 7, link := 2 }] } }
    let one : DvFlit := { ch := 3, packet := 7, bits := 5 }
    let m := noc one
    let x := m.dvDir 0
    m0.dvState ≠ 2 ∧ mUp.dvState = 2 ∧ dvWorn (dir { held := [{ one with sent := 4 }] }) 0 = true ∧
    (m.dvState = 2 ∧ (m.dvDir 1).nakDue = false ∧ (m.dvDir 1).freed = [] ∧ x.replay = none ∧ dvNew x = some one ∧ one.ch < 6 ∧ x.next < 256 ∧ x.want = x.next ∧ x.held = [] ∧
      (m.nocPacket 7).any (fun k => k.link == 2) = true ∧ m.nocPacket 8 = none ∧ m.noc.coming = []) ∧
    (0 ∈ dvActive mUp 0 ∨ dvActive mUp 0 = []) ∧ (∃ l ∈ List.range 17, l ∈ dvActive (mUp.setF DV_STATUS_width_h2f 2) 0) ∧
    (let lim := if mUp.f DV_CFG_err_thresh = 0 then 1 else mUp.f DV_CFG_err_thresh
     lim < (dv 2 { errs := lim + 1 }).dv.errs ∧ (dv 2 { errs := lim }).dv.errs ≤ lim) ∧
    ((m0.setF DV_STATUS_sb_up 1).dvState = 0 ∧ (m0.setF DV_STATUS_sb_up 1).b DV_STATUS_sb_up = true) ∧
    ((dv 3 {}).dvState = 3 ∧ (dv 1 {}).dvState = 1) ∧
    ((dv 1 {}).n DV_LANE_MAP = 0 ∧ (dv 1 {}).dv.unspare = false ∧ (dv 1 {}).dv.order = [] ∧ (dv 1 {}).heldLogs = [] ∧ (dv 1 {}).heldLogLost = 0 ∧ (dv 1 {}).heldPosts = [] ∧
      (dv 1 {}).heldPostsLost = 0 ∧ (dv 1 {}).lateResp = [] ∧ (dv 1 {}).reqs = [] ∧ (dv 3 {}).dvState = 3 ∧ ((dv 3 { dirs := [(0, { held := [one] })] }).dvDir 0).held = [one]) ∧
    ((held [] true).pw.hold = true ∧ 2 ∈ (held [2] false).pw.held ∧ mUp.pw.hold = false ∧ 2 ∉ mUp.pw.held ∧ 1 ∉ mUp.pw.held) ∧
    (11 ∉ mUp.stopped) ∧ (domainOf BT_CTRL ∈ stop.stopped ∧ domainOf BT_CTRL < 12 ∧ stop.heldWrites = [(BT_CTRL, 0x40, 4, 1)]) := by
  refine ⟨?_, ?_, ?_, ?_, ?_, ?_, ?_, ?_, ?_, ?_, ?_, ?_, ?_⟩ <;> decide +kernel
theorem witness_PowerResults :
    let pw (k : Nat) (x : Power) : Mach := { (mUp.setF PW_STAGE_state k) with pw := x }
    let fed (m : Mach) : Mach := m.setF PW_STAGE_a_valid 1
    (feedValid (fed mUp) 0 = true ∧ feedValid mUp 0 = false) ∧
    (let b := (fed (pw 4 {})).setF PW_STAGE_b_valid 1
     let a := after (.feedValidChange 0 false false 0) (st b)
     feedValid b 0 = true ∧ feedValid a 0 = false ∧ anyFeed a = true ∧ b.stage = 4) ∧
    (let a := after (.feedValidChange 0 true false 48000) (st (pw 0 { seat := 3 })); anyFeed a = true ∧ (pw 0 { seat := 3 }).stage = 0 ∧ (pw 0 { seat := 3 }).pw.en = true) ∧
    (let a := after (.feedValidChange 0 true true 63000) (st (fed (pw 1 {}))); anyFeed a = false ∧ (fed (pw 1 {})).stage = 1) ∧
    (∀ k ∈ [2, 4, 5], 2 ≤ (pw k {}).stage ∧ (pw k {}).stage ≤ 5 ∧ (4 ≤ (pw k {}).stage ∨ k = 2)) ∧
    ((pw 0 { seat := 1 }).stage = 0 ∧ bitAt (pw 0 { seat := 1 }).pw.seat 1 = false ∧ (pw 0 { seat := 1 }).pw.seat + 2 ^ 1 = 3 ∧ (pw 0 { seat := 1 }).pw.en = true ∧
      anyFeed (fed (pw 0 { seat := 1 })) = true) ∧
    ((pw 6 { seat := 3 }).stage = 6 ∧ (pw 6 { seat := 3 }).pw.seat = 3 ∧ anyFeed (fed (pw 6 { seat := 3 })) = true) ∧
    ((pw 1 { seat := 3 }).stage = 1 ∧ mayStart2 (fed (pw 1 { seat := 3 })) = true) ∧ ((pw 3 {}).stage = 3 ∧ true ≠ (pw 3 {}).pw.limit) ∧
    ((pw 5 { limit := true }).pw.limit = true ∧ (pw 5 {}).stage ≤ 5) ∧
    (∀ b ∈ [true, false], (pw 4 { quiet := some 6500, seen := b }).pw.quiet = some 6500 ∧ (pw 4 { quiet := some 6500, seen := b }).stage = 4 ∧
      (pw 4 { quiet := some 6500, seen := b }).pw.limit = false ∧ (pw 4 { quiet := some 6500, seen := b }).pw.seen = b) ∧
    (∀ k ∈ [1, 3, 4, 5, 6], (pw k { enLow := some 6000, en := false }).pw.enLow = some 6000 ∧ (pw k { enLow := some 6000, en := false }).stage = k ∧
      (pw k { enLow := some 6000, en := false }).pw.en = false) ∧
    (∀ k ∈ [1, 2, 5, 6], (pw k { noFeed := some 6000 }).pw.noFeed = some 6000 ∧ (pw k { noFeed := some 6000 }).stage = k) ∧
    (∀ k ∈ [0, 1, 2, 3, 6, 7], (pw 5 { step := k }).pw.step = k ∧ 1 ∉ (pw 5 { step := k }).pw.held ∧ 2 ∉ (pw 5 { step := k }).pw.held ∧ 3 ∉ (pw 5 { step := k }).pw.held) ∧
    2 ∈ (pw 5 { held := [2] }).pw.held ∧ mUp.f (RG_PORT_STATUS_state 7) ≠ psUp := by
  refine ⟨?_, ?_, ?_, ?_, ?_, ?_, ?_, ?_, ?_, ?_, ?_, ?_, ?_, ?_, ?_, ?_⟩ <;> decide +kernel
theorem witness_ManagementResults :
    let pw (x : Power) (m : Mach) : Mach := { m with pw := x }
    let boot (m : Mach) : Mach := m.setF GL_BOOT_STATUS_done 1
    let rec_ : Mach := mUp.setF GL_BOOT_STATUS_recovery 1
    let none_ : Nv := { State.reset.nv with banks := [(2, { valid := false }), (3, { valid := false })] }
    let upd (k : Nat) (v : Bool) : Mach := pw { upd := some { kind := k, bank := 1, len := 304, verified := v } } mUp
    let temps (k : Nat) : List (BitVec 16) := [0, BitVec.ofNat 16 k, 0, 0, 0]
    let lv (s : Mach) (t : Nat) (i : Nat) : Nat := sensorLevel (s.f (PW_THRESH_warn i)) (s.f (PW_THRESH_crit i)) (s.f (PW_THRESH_shutdown i)) (signed 16 ((temps t).getD i 0).toNat) (s.f (PW_TEMP_level i))
    (m0.dramOk = false ∧ m0.b CT_CLAMP_dram = false ∧ m0.hReset = false ∧ 3 ∉ m0.pw.held ∧ m0.b GL_BOOT_STATUS_done = false) ∧
    (mUp.dramOk = true ∧ { m0 with hReset := true }.hReset = true ∧ 3 ∈ (pw { held := [3] } m0).pw.held ∧ (m0.setF CT_CLAMP_dram 1).b CT_CLAMP_dram = true) ∧
    ((boot mUp).b GL_BOOT_STATUS_done = true ∧ (pw { hold := true } mUp).pw.hold = true) ∧
    (mUp.b GL_BOOT_STATUS_done = false ∧ mUp.pw.hold = false ∧ (bootBank State.reset.nv 1).isSome ∧ (bootBank State.reset.nv 2).isSome ∧ (bootBank State.reset.nv 3).isSome) ∧
    (1 ∈ [1, 2, 3] ∧ bootBank none_ 1 = none) ∧ (rec_.b GL_BOOT_STATUS_recovery = true ∧ mUp.b GL_BOOT_STATUS_recovery = false) ∧
    ((0 : Fin 3).val ≠ 2 ∧ (0 : Fin 3).val = 0) ∧
    ({ mUp with nvLog := [⟨1, 5, 6, 7, 8⟩] }.nvLog[0]? = some ⟨1, 5, 6, 7, 8⟩ ∧ mUp.nvLog.length ≤ 0) ∧
    ((4 : BitVec 8).toNat ≤ 4 ∧ 4 < (5 : BitVec 8).toNat ∧ 1023 < (1024 : BitVec 16).toNat ∧ (1023 : BitVec 16).toNat ≤ 1023) ∧
    (mUp.hReset = false ∧ { mUp with hReset := true, shadow := [(1023, { cause := 9 })] }.shadow.find? (fun x => x.1 == 1023) = some (1023, { cause := 9 })) ∧
    diesRun mUp = true ∧ mUp.pw.shutdown = false ∧
    (1 ≤ (1 : BitVec 8).toNat ∧ (3 : BitVec 8).toNat ≤ 3 ∧ (304 : BitVec 32).toNat ≤ 0x800000 + 304 ∧ 3 < (4 : BitVec 8).toNat) ∧
    (mUp.pw.upd = none ∧ (upd 2 false).pw.upd = some { kind := 2, bank := 1, len := 304 } ∧ 300 + [(1 : Byte), 2, 3, 4].length ≤ 304) ∧
    (verifyStatus State.reset.nv 2 [] ≠ 0) ∧ ((upd 2 true).pw.upd = some { kind := 2, bank := 1, len := 304, verified := true } ∧ 2 ∉ (upd 2 true).pw.failed) ∧
    (mUp.pw.mbx ≠ some 0x03 ∧ (pw { mbx := some 3 } mUp).pw.mbx = some 0x03) ∧
    ((∀ i, i < 5 → lv mUp 0 i ≠ 3) ∧ lv mUp 0x7F00 1 = 3 ∧ mUp.pw.shutdown = false ∧ (pw { shutdown := true } mUp).pw.shutdown = true) ∧
    (diesRun (pw { hold := true } mUp) = false ∧ mUp.shadow.find? (fun x => x.1 == 5) = none ∧ (pw { mbx := some 0x20 } mUp).pw.mbx = some 0x20) ∧
    (2 ∈ (pw { failed := [2] } mUp).pw.failed ∧ (mUp.setN (PW_MBX_ARG 1) 4097).n (PW_MBX_ARG 1) = 4097 ∧ mUp.n (PW_MBX_ARG 1) ≤ 4096) := by
  refine ⟨?_, ?_, ?_, ?_, ?_, ?_, ?_, ?_, ?_, ?_, ?_, ?_, ?_, ?_, ?_, ?_, ?_, ?_, ?_, ?_⟩ <;> decide +kernel
/-- The header of an image of kind 2, level 0, key slot 1 and no payload (R643); whether it is genuine is the model's free value. -/
def image2 : List Host.Cell := [(0, 0x47), (1, 0x4E), (2, 0x4C), (3, 0x4E), (4, 2), (5, 1)]
theorem witness_ManagementResults_verified : Config.imageGenuine image2 = true → verifyStatus State.reset.nv 2 image2 = 0 := by
  intro h; unfold verifyStatus; rw [h]; decide +kernel
theorem witness_CommandsCompleteAndKeepTheQueue : (∀ u a k l, Instr.fwVerify 0 true ≠ .fwBegin u a k l) ∧
    (∀ u a k l, Instr.stageDiscard ≠ .fwBegin u a k l) ∧ (∀ u a o d, Instr.stageDiscard ≠ .fwData u a o d) ∧
    (∀ u a, Instr.stageDiscard ≠ .fwVerify u a) ∧ (∀ u a, Instr.stageDiscard ≠ .fwActivate u a) := by
  refine ⟨?_, ?_, ?_, ?_, ?_⟩ <;> intros <;> intro h <;> cases h

/-! ### Single steps with results from the spec's worked examples or by hand -/

/-- The module after engine 1 has issued i, whose word stands at its pc. -/
def ran (i : Instr) (s : State) : Mach := after i (on i s)
/-- The value of general register d of engine 1 then. -/
def g1 (i : Instr) (s : State) (d : Nat) : U64 := ((ran i s).eng 1).get d

/-- Table 07-16: ORI g4, g0, 0x0100 then LSH g4, g4, 0x0040. -/
theorem test_ori_lsh : g1 (.ori 1 4 0 0x0100) (ops 0 0 7) 4 = 0x100 ∧ g1 (.lsh 1 4 4 0x0040) (ops 0 0 0x100) 4 = 0x01000040 := by decide +kernel
/-- Addition wraps; the w form keeps the low 32 bits and their sign; g0 stays 0. -/
theorem test_add_wraps : g1 (.add 1 false 5 2 3) (ops (~~~0) 1 0) 5 = 0 ∧ g1 (.add 1 true 5 2 3) (ops 0x7FFFFFFF 1 0) 5 = 0xFFFFFFFF80000000 ∧
    g1 (.add 1 false 0 2 3) (ops 5 6 0) 0 = 0 := by decide +kernel
theorem test_sra_sign : g1 (.sra 1 false 2 2 3) (ops 0x8000000000000000 63 0) 2 = ~~~0 ∧ g1 (.sra 1 true 2 2 3) (ops 0x80000000 31 0) 2 = ~~~0 := by decide +kernel
/-- R231: the most negative number by -1; division by zero raises vector 0x09. -/
theorem test_div_corners : g1 (.div 1 false 5 2 3) (ops 0x8000000000000000 (~~~0) 0) 5 = 0x8000000000000000 ∧
    ((ran (.div 1 false 5 2 3) (ops 7 0 0)).eng 1).ecause = 9 ∧ ((ran (.div 1 false 5 2 3) (ops 7 0 0)).eng 1).arch.pc = 0x920 := by decide +kernel
/-- Table 07-16: the barrier that counts an absorbed device store returns 0x103. -/
theorem test_bar_status : g1 (.barD 1 9) (withEng mUp { eng [] with fails := [⟨false, true⟩] }) 9 = 0x103 := by decide +kernel
/-- Table 08-20: SCALE of 8,000 by gain 0.01 and offset -50.0 to binary32 is 30.0. -/
theorem test_scale : g1 (.scale 1 7 6 5 1 false true true)
    (withEng (inScratch mUp (0x1F000 + 16 * 5) (leBytes 8 0x3F847AE147AE147B ++ leBytes 8 0xC049000000000000)) (eng [(6, 0x1F40)])) 7 = 0x41F00000 := by decide +kernel
/-- The published check values of CRC-32, CRC-32C and CRC-16 over "123456789", before the final complement. -/
theorem test_crc : ∀ c ∈ [(0, 0xFFFFFFFF, 0x340BC6D9), (1, 0xFFFFFFFF, 0x1CF96D7C), (2, 0xFFFF, 0x29B1)],
    g1 (.crc 1 2 3 8 (Fin.ofNat 8 c.1)) (withEng (inScratch mUp 0x100 [0x31, 0x32, 0x33, 0x34, 0x35, 0x36, 0x37, 0x38, 0x39])
      (eng [(2, BitVec.ofNat 64 c.2.1), (3, 0x100)])) 2 = BitVec.ofNat 64 c.2.2 := by decide +kernel
/-- Table 15-5 and Table 15-6: the regions of engine 9, here of engine 1, at task level. -/
def twoRegions (g : List (Nat × U64)) : State :=
  withEng ((((mUp.setN (PT_RA 1 0) 0xBA00000400100000).setN (PT_RB 1 0) 0x0000000400100FE0).setN (PT_RA 1 1) 0xA200000400101000).setN (PT_RB 1 1) 0x0000000400101FE0)
    { eng g with level := 0 }
theorem test_regions_stp : let m := ran (.stp 1 4 3 0) (twoRegions [(3, 0x400100FF8), (4, 7), (5, 8)])
    (m.eng 1).eaddr = 0x400101000 ∧ (m.eng 1).ecause = 7 ∧ (m.eng 1).sb.length = 1 := by decide +kernel
theorem test_regions_ldp : let m := ran (.ldp 1 4 3 0) (twoRegions [(3, 0x400101FF8)])
    (m.eng 1).eaddr = 0x400102000 ∧ m.f (PT_MCFG_dflt 1) = mUp.f (PT_MCFG_dflt 1) ∧ (m.eng 1).inExc = 1 := by decide +kernel
theorem test_regions_amo : let m := ran (.amoadd 1 4 5 3 false) (twoRegions [(3, 0x400101000), (5, 1)])
    (m.eng 1).ecause = 7 ∧ m.dram = [] := by decide +kernel
/-- The example after Table 12-6: a host read of 8 bytes becomes four word cycles from card address 0x100010. -/
theorem test_uhlux_cut : let m := after (.hostBar2Read 1 0 0x080100010 (List.replicate 8 true)) (st (mUx.setN (AT_E0 0x0801) 0xE050400000100000))
    (m.reqs.flatMap (fun q => q.pieces)).map (fun p => (p.fa % 2 ^ 24, p.len)) = [(0x100010, 2), (0x100012, 2), (0x100014, 2), (0x100016, 2)] := by decide +kernel
/-- Table 13-6 step 3: the timer ends with three occurrences pending. -/
theorem test_holdoff :
    let m0' : Mach := { mUp with now := 385600, pcie := { bme := true, l0 := true },
                                 evSlots := [(0xE007, { timer := some 385600, latest := some { id := 0xE007, time := 385000 } })] }
    let m1 := (((m0'.setF (EV_E0_vector 0xE007) 40).setF (EV_E0_holdoff_us 0xE007) 300).setF (MX_VCTRL_mask 40) 0).setF (EV_E1_pending 0xE007) 3
    let m := after (.holdoffTimerEnd 0xE007) (st m1)
    m.out.length = 1 ∧ (m.evSlot 0xE007).timer = some 685600 ∧ m.f (EV_E1_pending 0xE007) = 0 := by decide +kernel
/-- An 8-byte write of a 64-bit register (R2). -/
theorem test_register_write : (after (.registerWrite 0x40 (BitVec.ofNat 26 (SK_FORCE_HOLD 1)) 8 true 0x55) (st mUp)).n (SK_FORCE_HOLD 1) = 0x55 := by decide +kernel
theorem test_step_queue : (match step { State.reset with pending := [.skForceHoldWrite 0 5, .beatStop] } with
    | .next t => t.pending == [Instr.beatStop] && t.m.n (SK_FORCE_HOLD 0) == 5
    | _ => false) = true := by decide +kernel
/-- A word is that of an instruction, both ways. -/
def Spells (w : Nat) (i : Instr) : Bool := decodeWord 1 w == some i && instrWord i == some w
/-- Table 07-16: the words of the register update. -/
theorem test_words_07_16 :
    Spells 0x28800100 (.ori 1 4 0 0x0100) && Spells 0x3C840040 (.lsh 1 4 4 0x0040) && Spells 0x74C40000 (.lr 1 6 4 false) &&
    Spells 0x20C60001 (.addi 1 6 6 1) && Spells 0x74E43001 (.sc 1 7 6 4 false) && Spells 0x84E0FFFD (.bne 1 7 0 (-3)) &&
    Spells 0x59050000 (.ld 1 8 5 0) && Spells 0xFD200001 (.barD 1 9) && Spells 0x6D050000 (.sd 1 8 5 0) && Spells 0x85200002 (.bne 1 9 0 2) &&
    Spells 0xFC000012 (.yield 1) && Spells 0x7C000031 (.trap 1 0x31) = true := by decide +kernel
/-- Table 08-20: the words of the station loop. -/
theorem test_words_08_20 :
    Spells 0xA0C48900 (.fld 1 6 4 2 1 1 false 0) && Spells 0xD8E60E05 (.scale 1 7 6 5 1 false true true) && Spells 0x68E00100 (.sw 1 7 0 0x100) &&
    Spells 0x4D000104 (.lhu 1 8 0 0x104) && Spells 0xC1204E20 (.ltset 1 9 0 0x4E20) && Spells 0xA9048D02 (.fstn 1 8 4 2 1 1 true 2) = true := by decide +kernel
/-- Table 07-2, R226: opcodes 0x00, 0x06 and 0x1E, and a non-zero unused field, spell no instruction. -/
theorem test_words_illegal :
    ([0x00000000, 0x18000000, 0x78000000, 0xFC0003FF, 0xFD200801].filter (fun w => (decodeWord 1 w).isSome)) = [] := by decide +kernel
end Sys2Proof.Tests
end

/-!
PROOF. Multiplies and divides (Table 07-5): every operand and result is brought to the width of its form, so that the 64-bit and the w
form share one argument.
-/
namespace Sys2Proof.Machine

/-! ### How an engine's instruction completes -/

/-- An instruction whose meaning is h on the module leaves h of the module. -/
theorem issues_of_onI {e : Nat} {i : Instr} {s : State} {m : Mach} {h : Mach → Mach} (hx : exec i s = onI i e h s) (hm : h s.m = m) :
    Issues e i s m := by
  intro hf
  rw [Runs, hx, ← hm]
  simp only [onI, onM, hf, if_true]

/-- A register instruction of a ready engine issues and writes its value to d. -/
theorem issues_regStep {e d : Nat} {srcs : List Nat} {i : Instr} {s : State} {h : Engine → U64} {v : U64} (hr : Ready s e (d :: srcs))
    (hx : exec i s = onI i e (regStep e d srcs h) s) (hv : h (s.m.eng e) = v) : Issues e i s (wrote s e d v) :=
  issues_of_onI hx (hv ▸ regStep_ready h hr)

/-- An instruction with flags of a ready engine issues, writes its result to d and ors its flags. -/
theorem issues_flagStep {e d : Nat} {srcs : List Nat} {i : Instr} {s : State} {h : Engine → Nat × Nat} {r : Nat × Nat}
    (hr : Ready s e (d :: srcs)) (hx : exec i s = onI i e (flagStep e d srcs h) s) (hv : h (s.m.eng e) = r) :
    Issues e i s (wroteFlags s e d r) :=
  issues_of_onI hx (hv ▸ flagStep_ready h hr)

/-! ### Operands and results at the width of a form (R228) -/

/-- A value at the width of a form: the low 32 bits sign-extended for w, all 64 bits otherwise. -/
def atWidth (w : Bool) (v : U64) : U64 := if w then low32 v else v

@[simp] theorem atWidth_false (v : U64) : atWidth false v = v := rfl
@[simp] theorem atWidth_true (v : U64) : atWidth true v = low32 v := rfl

/-- The number a two's-complement pattern stands for is the signed value of the word of its low bits. -/
theorem signed_eq_toInt {w : Nat} (hw : 0 < w) (x : Nat) : signed w x = (BitVec.ofNat w x).toInt := by
  cases w with
  | zero => exact absurd hw (Nat.lt_irrefl 0)
  | succ k =>
    have hhalf (y : Nat) : 2 * y < 2 ^ (k + 1) ↔ y < 2 ^ k := by
      rw [Nat.pow_succ']
      exact Nat.mul_lt_mul_left (by decide)
    unfold signed
    rw [BitVec.toInt_eq_toNat_cond, BitVec.toNat_ofNat]
    by_cases h : x % 2 ^ (k + 1) < 2 ^ k
    · exact (if_pos h).trans (if_pos ((hhalf _).mpr h)).symm
    · exact (if_neg h).trans (if_neg (mt (hhalf _).mp h)).symm

theorem signed_32_toNat (v : U64) : signed 32 v.toNat = (v.truncate 32).toInt := by
  rw [signed_eq_toInt (by decide), BitVec.ofNat_toNat]

theorem signed_64_toNat (v : U64) : signed 64 v.toNat = v.toInt := by
  rw [signed_eq_toInt (by decide), BitVec.ofNat_toNat, BitVec.setWidth_eq]

theorem low32_toInt (v : U64) : (low32 v).toInt = (v.setWidth 32).toInt := BitVec.toInt_signExtend_of_le (by decide)

/-- The low 32 bits and their sign extension are 0 together. -/
theorem low32_eq_zero (v : U64) : low32 v = 0 ↔ v.toNat % 2 ^ 32 = 0 := by
  rw [← BitVec.toInt_inj, low32_toInt, ← BitVec.toNat_setWidth]
  exact BitVec.toInt_inj (y := 0#32) |>.trans BitVec.toNat_eq

theorem wNat_eq_zero (w : Bool) (v : U64) : wNat w v = 0 ↔ atWidth w v = 0 := by
  cases w
  case false =>
    have h := v.isLt
    rw [atWidth_false, BitVec.toNat_eq]
    exact iff_of_eq (congrArg (· = 0) (Nat.mod_eq_of_lt h))
  case true => exact (low32_eq_zero v).symm

theorem wNat_false (v : U64) : wNat false v = v.toNat := Nat.mod_eq_of_lt v.isLt

theorem opSigned_eq_toInt (w : Bool) (v : U64) : opSigned w v = (atWidth w v).toInt := by
  cases w
  case false => exact signed_64_toNat v
  case true => exact (signed_32_toNat v).trans (low32_toInt v).symm

theorem setWidth_ofInt {v w : Nat} (h : v ≤ w) (r : Int) : (BitVec.ofInt w r).setWidth v = BitVec.ofInt v r := by
  have hd : ((2 ^ v : Nat) : Int) ∣ ((2 ^ w : Nat) : Int) := Int.natCast_dvd_natCast.mpr (Nat.pow_dvd_pow 2 h)
  have h0 : ((2 ^ w : Nat) : Int) ≠ 0 := Int.natCast_ne_zero.mpr (Nat.ne_of_gt (Nat.two_pow_pos w))
  apply BitVec.eq_of_toInt_eq
  rw [BitVec.toInt_setWidth, BitVec.toInt_ofInt, BitVec.toNat_ofInt, Int.toNat_of_nonneg (Int.emod_nonneg _ h0),
    ← Int.emod_bmod, Int.emod_emod_of_dvd _ hd, Int.emod_bmod]

theorem divForm_eq_atWidth (w : Bool) (r : Int) : divForm w r = atWidth w (BitVec.ofInt 64 r) := by
  cases w
  case false => simp only [divForm, atWidth_false, Bool.false_eq_true, if_false]
  case true => simp only [divForm, w32, atWidth_true, low32, setWidth_ofInt (show 32 ≤ 64 by decide), if_true]

theorem mulLow_eq_atWidth (w : Bool) (p q : U64) : mulLow w p q = atWidth w (BitVec.ofNat 64 (p.toNat * q.toNat)) := by
  rw [BitVec.ofNat_mul, BitVec.ofNat_toNat, BitVec.ofNat_toNat, BitVec.setWidth_eq, BitVec.setWidth_eq]
  cases w
  case false => simp only [mulLow, wForm, atWidth_false, Bool.false_eq_true, if_false]
  case true => simp only [mulLow, wForm, w32, atWidth_true, low32, BitVec.setWidth_mul p q (show 32 ≤ 64 by decide), if_true]

/-- The high half of an unsigned product as a natural number (Table 07-5). -/
theorem high64_ofNat (n : Nat) : high64 (Int.ofNat n) = BitVec.ofNat 64 (n / 2 ^ 64) := by
  rw [high64, ← BitVec.ofInt_natCast, Int.natCast_ediv]
  rfl

/-! ### Products, quotients and remainders (Table 07-5) -/

theorem issues_mul (w : Bool) {s : State} {e : Fin 64} {d a b : Fin 32} (hr : Ready s e [d, a, b]) :
    Issues e (.mul e w d a b) s (wrote s e d (atWidth w (BitVec.ofNat 64 ((reg s e a).toNat * (reg s e b).toNat)))) :=
  issues_regStep hr (exec_mul s e w d a b) (mulLow_eq_atWidth w _ _)

theorem issues_mulh {s : State} {e : Fin 64} {d a b : Fin 32} (hr : Ready s e [d, a, b]) :
    Issues e (.mulh e d a b) s (wrote s e d (BitVec.ofInt 64 ((reg s e a).toInt * (reg s e b).toInt / 2 ^ 64))) :=
  issues_regStep hr (exec_mulh s e d a b) rfl

theorem issues_mulhu {s : State} {e : Fin 64} {d a b : Fin 32} (hr : Ready s e [d, a, b]) :
    Issues e (.mulhu e d a b) s (wrote s e d (BitVec.ofNat 64 ((reg s e a).toNat * (reg s e b).toNat / 2 ^ 64))) :=
  issues_regStep hr (exec_mulhu s e d a b) (high64_ofNat _)

theorem issues_mulhsu {s : State} {e : Fin 64} {d a b : Fin 32} (hr : Ready s e [d, a, b]) :
    Issues e (.mulhsu e d a b) s (wrote s e d (BitVec.ofInt 64 ((reg s e a).toInt * ((reg s e b).toNat : Int) / 2 ^ 64))) :=
  issues_regStep hr (exec_mulhsu s e d a b) rfl

section
variable {s : State} {e d a b : Nat} {i : Instr} {w : Bool} {op : U64 → U64 → U64}

/-- A divide whose divisor is not 0 at the width of its form writes its result. -/
theorem issues_divStep {v : U64} (hr : Ready s e [d, a, b]) (hx : exec i s = onI i e (divStep e d a b w op) s)
    (hq : atWidth w (reg s e b) ≠ 0) (hv : op (reg s e a) (reg s e b) = v) : Issues e i s (wrote s e d v) :=
  issues_of_onI hx (by rw [divStep_ready w op hr, if_neg (mt (wNat_eq_zero w _).mp hq), hv])

/-- A divide whose divisor is 0 at the width of its form raises the arithmetic exception (R231). -/
theorem issues_divStep_zero (hr : Ready s e [d, a, b]) (hx : exec i s = onI i e (divStep e d a b w op) s)
    (hq : atWidth w (reg s e b) = 0) : Issues e i s (raised s e 9 0) :=
  issues_of_onI hx (by rw [divStep_ready w op hr, if_pos ((wNat_eq_zero w _).mpr hq)])

end

/-- The four divides of one width, for a divisor that is not 0 there (R230). -/
theorem divides_issue (w : Bool) {s : State} {e : Fin 64} {d a b : Fin 32} (hr : Ready s e [d, a, b]) (hq : atWidth w (reg s e b) ≠ 0) :
    let p := atWidth w (reg s e a)
    let q := atWidth w (reg s e b)
    Issues e (.div e w d a b) s (wrote s e d (atWidth w (BitVec.ofInt 64 (p.toInt.tdiv q.toInt)))) ∧
    Issues e (.divu e w d a b) s (wrote s e d (atWidth w (BitVec.ofNat 64 (wNat w (reg s e a) / wNat w (reg s e b))))) ∧
    Issues e (.rem e w d a b) s (wrote s e d (atWidth w (BitVec.ofInt 64 (p.toInt.tmod q.toInt)))) ∧
    Issues e (.remu e w d a b) s (wrote s e d (atWidth w (BitVec.ofNat 64 (wNat w (reg s e a) % wNat w (reg s e b))))) := by
  refine ⟨issues_divStep hr (exec_div s e w d a b) hq ?_, issues_divStep hr (exec_divu s e w d a b) hq ?_,
    issues_divStep hr (exec_rem s e w d a b) hq ?_, issues_divStep hr (exec_remu s e w d a b) hq ?_⟩
  · rw [divForm_eq_atWidth, opSigned_eq_toInt, opSigned_eq_toInt]
  · rw [divForm_eq_atWidth, ← BitVec.ofInt_natCast, Int.natCast_ediv]; rfl
  · rw [divForm_eq_atWidth, opSigned_eq_toInt, opSigned_eq_toInt]
  · rw [divForm_eq_atWidth, ← BitVec.ofInt_natCast, Int.natCast_emod]; rfl

/-- The four divides of one width, for a divisor that is 0 there (R231). -/
theorem divides_raise (w : Bool) {s : State} {e : Fin 64} {d a b : Fin 32} (hr : Ready s e [d, a, b]) (hq : atWidth w (reg s e b) = 0) :
    ∀ i ∈ [Instr.div e w d a b, .divu e w d a b, .rem e w d a b, .remu e w d a b], Issues e i s (raised s e 9 0) := by
  intro i hi
  simp only [List.mem_cons, List.not_mem_nil, or_false] at hi
  rcases hi with rfl | rfl | rfl | rfl
  · exact issues_divStep_zero hr (exec_div s e w d a b) hq
  · exact issues_divStep_zero hr (exec_divu s e w d a b) hq
  · exact issues_divStep_zero hr (exec_rem s e w d a b) hq
  · exact issues_divStep_zero hr (exec_remu s e w d a b) hq

/-- Settles O6: each width's divides hold by `divides_issue` and `divides_raise`, the products by their value lemmas. -/
theorem multiplyDivideResults : Obligations.MultiplyDivideResults := by
  unfold Obligations.MultiplyDivideResults
  intro s e d a b hr
  refine ⟨issues_mul false hr, issues_mul true hr, issues_mulh hr, issues_mulhu hr, issues_mulhsu hr, fun hq => ?_, divides_issue true hr,
    divides_raise false hr, divides_raise true hr⟩
  simpa only [wNat_false, atWidth_false] using divides_issue false hr hq

end Sys2Proof.Machine

/-!
PROOF. Floating-point conversions (Table 07-7): each list of conversions runs one shared step, and what that step's value is.
-/
namespace Sys2Proof.Machine

/-! ### Floating point to integer (Table 07-7, R238, R239) -/

/-- The greatest value of an integer type of w bits. -/
def typeMax (w : Nat) (sg : Bool) : Int := if sg then 2 ^ (w - 1) - 1 else 2 ^ w - 1
/-- The least value of an integer type of w bits. -/
def typeMin (w : Nat) (sg : Bool) : Int := if sg then -2 ^ (w - 1) else 0

/-- R239 on a decoded operand, rounded by rm to the type: i is the converted integer and fl the flags. -/
def ConvertedTo (rm : Nat) (x : FpVal) (w : Nat) (sg : Bool) (i : Int) (fl : Nat) : Prop :=
  match x with
  | .nan _ => i = typeMax w sg ∧ fl = 0x80
  | .inf neg => i = (if neg then typeMin w sg else typeMax w sg) ∧ fl = 0x80
  | .fin neg m k =>
    let r := fpToInt rm neg m k
    if r.1 < typeMin w sg then i = typeMin w sg ∧ fl = 0x80
    else if typeMax w sg < r.1 then i = typeMax w sg ∧ fl = 0x80
    else i = r.1 ∧ fl = (if r.2 then 0x08 else 0)

/-- An integer and whether it was inexact, brought between two bounds with the flags of R239. -/
def saturate (lo hi : Int) (r : Int × Bool) : Int × Nat :=
  if r.1 < lo then (lo, flNV) else if hi < r.1 then (hi, flNV) else (r.1, if r.2 then flNX else 0)

theorem saturate_below {lo hi : Int} {r : Int × Bool} (h : r.1 < lo) : saturate lo hi r = (lo, flNV) := if_pos h

theorem saturate_above {lo hi : Int} {r : Int × Bool} (h1 : ¬ r.1 < lo) (h2 : hi < r.1) : saturate lo hi r = (hi, flNV) :=
  (if_neg h1).trans (if_pos h2)

theorem saturate_within {lo hi : Int} {r : Int × Bool} (h1 : ¬ r.1 < lo) (h2 : ¬ hi < r.1) :
    saturate lo hi r = (r.1, if r.2 then flNX else 0) :=
  (if_neg h1).trans (if_neg h2)

theorem saturate_mem_range {lo hi : Int} (h : lo ≤ hi) (r : Int × Bool) : lo ≤ (saturate lo hi r).1 ∧ (saturate lo hi r).1 ≤ hi := by
  by_cases h1 : r.1 < lo
  · rw [saturate_below h1]
    exact ⟨Int.le_refl lo, h⟩
  · by_cases h2 : hi < r.1
    · rw [saturate_above h1 h2]
      exact ⟨h, Int.le_refl hi⟩
    · rw [saturate_within h1 h2]
      exact ⟨Int.not_lt.mp h1, Int.not_lt.mp h2⟩

theorem typeMin_le_typeMax (w : Nat) (sg : Bool) : typeMin w sg ≤ typeMax w sg := by
  have hpos (k : Nat) : (0 : Int) < 2 ^ k := Int.pow_pos (by decide)
  cases sg
  case false => exact Int.le_sub_one_of_lt (hpos w)
  case true => exact Int.le_trans (Int.neg_nonpos_of_nonneg (Int.le_of_lt (hpos _))) (Int.le_sub_one_of_lt (hpos _))

theorem ofNat_two_pow (k : Nat) : Int.ofNat (2 ^ k) = 2 ^ k := Int.natCast_pow 2 k

/-- The bounds as the model writes them. -/
theorem typeMax_eq (w : Nat) (sg : Bool) : typeMax w sg = if sg then Int.ofNat (2 ^ (w - 1)) - 1 else Int.ofNat (2 ^ w) - 1 := by
  cases sg
  case false => exact (congrArg (· - 1) (ofNat_two_pow w)).symm
  case true => exact (congrArg (· - 1) (ofNat_two_pow (w - 1))).symm

theorem typeMin_eq (w : Nat) (sg : Bool) : typeMin w sg = if sg then -Int.ofNat (2 ^ (w - 1)) else 0 := by
  cases sg
  case false => rfl
  case true => exact (congrArg (- ·) (ofNat_two_pow (w - 1))).symm

section
variable (rm w : Nat) (sg : Bool)

theorem fpConvInt_nan (q : Bool) : fpConvInt rm (.nan q) w sg = (typeMax w sg, flNV) := by
  rw [typeMax_eq]; rfl

theorem fpConvInt_inf (neg : Bool) : fpConvInt rm (.inf neg) w sg = (if neg then typeMin w sg else typeMax w sg, flNV) := by
  rw [typeMin_eq, typeMax_eq]; rfl

theorem fpConvInt_fin (neg : Bool) (m : Nat) (k : Int) :
    fpConvInt rm (.fin neg m k) w sg = saturate (typeMin w sg) (typeMax w sg) (fpToInt rm neg m k) := by
  rw [typeMin_eq, typeMax_eq]; rfl

/-- A conversion answers a value of the type. -/
theorem fpConvInt_mem_range (x : FpVal) :
    typeMin w sg ≤ (fpConvInt rm x w sg).1 ∧ (fpConvInt rm x w sg).1 ≤ typeMax w sg := by
  have h := typeMin_le_typeMax w sg
  cases x with
  | nan q =>
    rw [fpConvInt_nan]
    exact ⟨h, Int.le_refl _⟩
  | inf neg =>
    rw [fpConvInt_inf]
    cases neg
    case false => exact ⟨h, Int.le_refl _⟩
    case true => exact ⟨Int.le_refl _, h⟩
  | fin neg m k =>
    rw [fpConvInt_fin]
    exact saturate_mem_range h _

/-- A conversion answers the integer and the flags that R239 gives. -/
theorem fpConvInt_convertedTo (x : FpVal) : ConvertedTo rm x w sg (fpConvInt rm x w sg).1 (fpConvInt rm x w sg).2 := by
  cases x with
  | nan q => rw [fpConvInt_nan]; exact ⟨rfl, rfl⟩
  | inf neg => rw [fpConvInt_inf]; exact ⟨rfl, rfl⟩
  | fin neg m k =>
    rw [fpConvInt_fin]
    by_cases h1 : (fpToInt rm neg m k).1 < typeMin w sg
    · rw [saturate_below h1]
      exact (if_pos h1).mpr ⟨rfl, rfl⟩
    · by_cases h2 : typeMax w sg < (fpToInt rm neg m k).1
      · rw [saturate_above h1 h2]
        exact ((if_neg h1).trans (if_pos h2)).mpr ⟨rfl, rfl⟩
      · rw [saturate_within h1 h2]
        exact ((if_neg h1).trans (if_neg h2)).mpr ⟨rfl, rfl⟩

end

/-- A conversion to an integer issues: it writes a value of the type, sign-extended, with the flags R239 gives. -/
theorem issues_toIntStep {s : State} {e d a w : Nat} {i : Instr} {rz dbl sg : Bool} (hr : Ready s e [d, a])
    (hx : exec i s = onI i e (toIntStep e d a rz dbl w sg) s) :
    ∃ (v : Int) (fl : Nat), Issues e i s (wroteFlags s e d ((sext64 w (twos w v)).toNat, fl)) ∧ typeMin w sg ≤ v ∧ v ≤ typeMax w sg ∧
      ConvertedTo (if rz then 1 else roundMode (s.m.eng e).arch.fcsr) (fpDecode (dblFmt dbl) (fpBits dbl (reg s e a))) w sg v fl := by
  obtain ⟨hmin, hmax⟩ := fpConvInt_mem_range (if rz then 1 else roundMode (s.m.eng e).arch.fcsr) w sg
    (fpDecode (dblFmt dbl) (fpBits dbl (reg s e a)))
  refine ⟨_, _, issues_of_onI hx ?_, hmin, hmax, fpConvInt_convertedTo _ w sg _⟩
  rw [toIntStep, flagStep_ready _ hr]
  rfl

/-! ### Integer to floating point, and between the formats (Table 07-7) -/

/-- An integer converts to the zero of plus sign or to its rounding. -/
theorem fpFromInt_eq (f : FpFmt) (rm : Nat) (v : Int) :
    fpFromInt f rm v = if v = 0 then (0, 0) else fpRound f rm (decide (v < 0)) v.natAbs 0 false := by
  simp only [fpFromInt, fpRoundInt, fpZero, b2n, Bool.false_eq_true, if_false, Nat.zero_mul]

/-- A conversion from an integer issues: it writes the integer v that the operand stands for in the type, rounded by FCSR. -/
theorem issues_fromIntStep {s : State} {e d a w : Nat} {i : Instr} {dbl sg : Bool} {v : Int} (hr : Ready s e [d, a])
    (hx : exec i s = onI i e (fromIntStep e d a dbl w sg) s)
    (hv : (if sg then signed w (reg s e a).toNat else Int.ofNat ((reg s e a).toNat % 2 ^ w)) = v) :
    Issues e i s (wroteFlags s e d (if v = 0 then (0, 0)
      else fpRound (dblFmt dbl) (roundMode (s.m.eng e).arch.fcsr) (decide (v < 0)) v.natAbs 0 false)) := by
  refine issues_of_onI hx ?_
  rw [fromIntStep, flagStep_ready _ hr, ← hv, ← fpFromInt_eq]
  rfl

theorem ofNat_mod_64 (v : U64) : Int.ofNat (v.toNat % 2 ^ 64) = v.toNat := by
  rw [Nat.mod_eq_of_lt v.isLt]; rfl

/-- One format to another (Table 07-7, R235): the flag of a NaN written out. -/
theorem fpConv_nan {src dst : FpFmt} {rm x : Nat} {q : Bool} (h : fpDecode src x = .nan q) :
    fpConv src dst rm x = (fpNan dst, if q then 0x80 else 0) := by
  simp only [fpConv, h, nanResult, flNV]

theorem fpConv_inf {src dst : FpFmt} {rm x : Nat} {neg : Bool} (h : fpDecode src x = .inf neg) :
    fpConv src dst rm x = (fpInf dst neg, 0) := by
  simp only [fpConv, h]

theorem fpConv_fin {src dst : FpFmt} {rm x : Nat} {neg : Bool} {m : Nat} {k : Int} (h : fpDecode src x = .fin neg m k) :
    fpConv src dst rm x = if m = 0 then (fpZero dst neg, 0) else fpRound dst rm neg m k false := by
  simp only [fpConv, h]

/-- The conversions to an integer, each with its operand and with the width and the signedness of its type. -/
def toIntegerForms (s : State) (e : Fin 64) (rz : Bool) (d a : Fin 32) : List (Instr × FpVal × Nat × Bool) :=
  let x := fpDecode fmt32 ((reg s e a).toNat % 2 ^ 32)
  let y := fpDecode fmt64 (reg s e a).toNat
  [(.fcvtWS e rz d a, x, 32, true), (.fcvtWuS e rz d a, x, 32, false), (.fcvtLS e rz d a, x, 64, true), (.fcvtLuS e rz d a, x, 64, false),
   (.fcvtWD e rz d a, y, 32, true), (.fcvtWuD e rz d a, y, 32, false), (.fcvtLD e rz d a, y, 64, true), (.fcvtLuD e rz d a, y, 64, false)]

theorem exec_toIntegerForms {s : State} {e : Fin 64} {rz : Bool} {d a : Fin 32} {c : Instr × FpVal × Nat × Bool}
    (hc : c ∈ toIntegerForms s e rz d a) :
    ∃ dbl, exec c.1 s = onI c.1 e (toIntStep e d a rz dbl c.2.2.1 c.2.2.2) s ∧
      fpDecode (dblFmt dbl) (fpBits dbl (reg s e a)) = c.2.1 := by
  simp only [toIntegerForms, List.mem_cons, List.not_mem_nil, or_false] at hc
  rcases hc with rfl | rfl | rfl | rfl | rfl | rfl | rfl | rfl
  · exact ⟨false, exec_fcvtWS s e rz d a, rfl⟩
  · exact ⟨false, exec_fcvtWuS s e rz d a, rfl⟩
  · exact ⟨false, exec_fcvtLS s e rz d a, rfl⟩
  · exact ⟨false, exec_fcvtLuS s e rz d a, rfl⟩
  · exact ⟨true, exec_fcvtWD s e rz d a, rfl⟩
  · exact ⟨true, exec_fcvtWuD s e rz d a, rfl⟩
  · exact ⟨true, exec_fcvtLD s e rz d a, rfl⟩
  · exact ⟨true, exec_fcvtLuD s e rz d a, rfl⟩

/-- The conversions from an integer, each with its format and with the integer that its operand stands for. -/
def fromIntegerForms (s : State) (e : Fin 64) (d a : Fin 32) : List (Instr × FpFmt × Int) :=
  let p := reg s e a
  [(.fcvtSW e d a, fmt32, (p.truncate 32).toInt), (.fcvtSWu e d a, fmt32, (p.toNat % 2 ^ 32 : Nat)),
   (.fcvtSL e d a, fmt32, p.toInt), (.fcvtSLu e d a, fmt32, p.toNat),
   (.fcvtDW e d a, fmt64, (p.truncate 32).toInt), (.fcvtDWu e d a, fmt64, (p.toNat % 2 ^ 32 : Nat)),
   (.fcvtDL e d a, fmt64, p.toInt), (.fcvtDLu e d a, fmt64, p.toNat)]

theorem exec_fromIntegerForms {s : State} {e : Fin 64} {d a : Fin 32} {c : Instr × FpFmt × Int} (hc : c ∈ fromIntegerForms s e d a) :
    ∃ dbl w sg, exec c.1 s = onI c.1 e (fromIntStep e d a dbl w sg) s ∧ dblFmt dbl = c.2.1 ∧
      (if sg then signed w (reg s e a).toNat else Int.ofNat ((reg s e a).toNat % 2 ^ w)) = c.2.2 := by
  simp only [fromIntegerForms, List.mem_cons, List.not_mem_nil, or_false] at hc
  rcases hc with rfl | rfl | rfl | rfl | rfl | rfl | rfl | rfl
  · exact ⟨false, 32, true, exec_fcvtSW s e d a, rfl, signed_32_toNat _⟩
  · exact ⟨false, 32, false, exec_fcvtSWu s e d a, rfl, rfl⟩
  · exact ⟨false, 64, true, exec_fcvtSL s e d a, rfl, signed_64_toNat _⟩
  · exact ⟨false, 64, false, exec_fcvtSLu s e d a, rfl, ofNat_mod_64 _⟩
  · exact ⟨true, 32, true, exec_fcvtDW s e d a, rfl, signed_32_toNat _⟩
  · exact ⟨true, 32, false, exec_fcvtDWu s e d a, rfl, rfl⟩
  · exact ⟨true, 64, true, exec_fcvtDL s e d a, rfl, signed_64_toNat _⟩
  · exact ⟨true, 64, false, exec_fcvtDLu s e d a, rfl, ofNat_mod_64 _⟩

/-- The conversions between the formats, each with its operand and its destination format. -/
def formatForms (s : State) (e : Fin 64) (d a : Fin 32) : List (Instr × FpVal × FpFmt) :=
  [(.fcvtSD e d a, fpDecode fmt64 (reg s e a).toNat, fmt32), (.fcvtDS e d a, fpDecode fmt32 ((reg s e a).toNat % 2 ^ 32), fmt64)]

/-- A conversion between the formats issues: it writes what `fpConv` answers for an operand that decodes to the value. -/
theorem issues_formatForms {s : State} {e : Fin 64} {d a : Fin 32} {c : Instr × FpVal × FpFmt} (hr : Ready s e [d, a])
    (hc : c ∈ formatForms s e d a) :
    ∃ src x, Issues e c.1 s (wroteFlags s e d (fpConv src c.2.2 (roundMode (s.m.eng e).arch.fcsr) x)) ∧ fpDecode src x = c.2.1 := by
  simp only [formatForms, List.mem_cons, List.not_mem_nil, or_false] at hc
  rcases hc with rfl | rfl
  · exact ⟨fmt64, (reg s e a).toNat, issues_flagStep hr (exec_fcvtSD s e d a) rfl, rfl⟩
  · exact ⟨fmt32, (reg s e a).toNat % 2 ^ 32, issues_flagStep hr (exec_fcvtDS s e d a) rfl, rfl⟩

/-- Settles O11: each list of conversions runs one shared step, whose value is that of R238 and R239. -/
theorem floatConversionResults : Obligations.FloatConversionResults := by
  unfold Obligations.FloatConversionResults
  intro s e rz d a hr rm p p32
  refine ⟨fun c hc => ?_, fun c hc => ?_, fun c hc => ?_⟩
  · obtain ⟨dbl, hx, hval⟩ := exec_toIntegerForms hc
    obtain ⟨v, fl, hi, hmin, hmax, hconv⟩ := issues_toIntStep hr hx
    rw [hval] at hconv
    exact ⟨v, fl, hi, hmin, hmax, hconv⟩
  · obtain ⟨dbl, w, sg, hx, hfmt, hval⟩ := exec_fromIntegerForms hc
    rw [← hfmt]
    exact issues_fromIntStep hr hx hval
  · obtain ⟨src, x, hi, hval⟩ := issues_formatForms hr hc
    cases hv : c.2.1 with
    | nan q => rwa [fpConv_nan (hval.trans hv)] at hi
    | inf neg => rwa [fpConv_inf (hval.trans hv)] at hi
    | fin neg m k => rwa [fpConv_fin (hval.trans hv)] at hi

end Sys2Proof.Machine

/-!
PROOF. The access protection unit (15_access_protection.md): a region's hit as the conditions of R512, and the decision of R517 by how
many regions of the set are hit.
-/
namespace Sys2Proof.Machine

/-! ### The regions hit -/

theorem keysFrom_eq_range' (a n : Nat) : keysFrom a n = List.range' a n := by
  induction n generalizing a with
  | zero => rfl
  | succ n ih => rw [keysFrom, List.range'_succ, ih]

/-- The regions of a master's set that are hit, in ascending order (R517). -/
def regionsHit (s : Mach) (m : Nat) (sup : Bool) (a : Nat) : List Nat := (List.range 32).filter (regionHit s m sup a)

/-- The regions that the unit's decision looks at are the regions hit. -/
theorem keysFrom_filter_regionHit (s : Mach) (m : Nat) (sup : Bool) (a : Nat) :
    (keysFrom 0 32).filter (regionHit s m sup a) = regionsHit s m sup a := by
  rw [regionsHit, keysFrom_eq_range', List.range_eq_range']

theorem regionsHit_pairwise_lt (s : Mach) (m : Nat) (sup : Bool) (a : Nat) : (regionsHit s m sup a).Pairwise (· < ·) :=
  List.pairwise_lt_range.filter _

/-- What it is for a region to be hit: the set is in force, the region is valid, applies at the level and covers the address (R512). -/
theorem regionHit_iff {s : Mach} {m : Nat} {sup : Bool} {a k : Nat} :
    regionHit s m sup a k = true ↔
      setGone s m = false ∧ s.b (PT_RA_valid m k) = true ∧ (64 ≤ m ∨ bitAt (s.f (PT_RA_lvl m k)) (if sup then 1 else 0) = true) ∧
        s.f (PT_RA_start m k) * 32 ≤ a ∧ a ≤ s.f (PT_RB_end m k) * 32 + 31 := by
  simp only [regionHit, Bool.and_eq_true, Bool.or_eq_true, Bool.not_eq_true', decide_eq_true_eq, and_assoc]

/-! ### Sets in their reset state (R509) -/

theorem setGone_of_mpuClear {s : Mach} {m : Nat} (hc : s.mpuClear = true) (hm : fDieMaster m = false) : setGone s m = true := by
  rw [setGone, hc, hm, Bool.not_false, Bool.and_self]

theorem setGone_of_not_mpuClear {s : Mach} (m : Nat) (hc : s.mpuClear = false) : setGone s m = false := by
  rw [setGone, hc, Bool.false_and]

theorem regionsHit_of_setGone {s : Mach} {m : Nat} (sup : Bool) (a : Nat) (h : setGone s m = true) : regionsHit s m sup a = [] := by
  refine List.filter_eq_nil_iff.mpr fun k _ hk => ?_
  exact Bool.false_ne_true ((regionHit_iff.mp hk).1.symm.trans h)

theorem mpuDflt_of_not_mpuClear {s : Mach} (m : Nat) (hc : s.mpuClear = false) : mpuDflt s m = s.f (PT_MCFG_dflt m) := by
  rw [mpuDflt, setGone_of_not_mpuClear m hc, if_neg Bool.false_ne_true]

/-! ### The decision by the regions hit (R517) -/

section
variable {s : Mach} {m a : Nat} {sup : Bool} (n : Need)

theorem checkByte_of_one {k : Nat} (h : regionsHit s m sup a = [k]) :
    checkByte s m sup a n = if regionGrants s m k n then none else some ⟨2, k⟩ := by
  rw [checkByte, keysFrom_filter_regionHit, h]

theorem checkByte_of_overlap {k j : Nat} {l : List Nat} (h : regionsHit s m sup a = k :: j :: l) :
    checkByte s m sup a n = some ⟨3, k⟩ := by
  rw [checkByte, keysFrom_filter_regionHit, h]

theorem checkByte_of_none (h : regionsHit s m sup a = []) :
    checkByte s m sup a n =
      if m < 64 ∧ sup = false then some ⟨1, 0x3F⟩ else if 64 ≤ m ∧ mpuDflt s m = 0 then some ⟨1, 0x3F⟩ else defaultMap m a n := by
  rw [checkByte, keysFrom_filter_regionHit, h]

theorem checkByte_task_of_none (h : regionsHit s m sup a = []) (hm : m < 64) (hs : sup = false) :
    checkByte s m sup a n = some ⟨1, 0x3F⟩ := by
  rw [checkByte_of_none n h, if_pos ⟨hm, hs⟩]

theorem checkByte_closed_of_none (h : regionsHit s m sup a = []) (hm : 64 ≤ m) (hd : mpuDflt s m = 0) :
    checkByte s m sup a n = some ⟨1, 0x3F⟩ := by
  rw [checkByte_of_none n h, if_neg fun he => Nat.not_lt.mpr hm he.1, if_pos ⟨hm, hd⟩]

theorem checkByte_default_of_none (h : regionsHit s m sup a = []) (hs : m < 64 → sup = true) (hd : 64 ≤ m → mpuDflt s m ≠ 0) :
    checkByte s m sup a n = defaultMap m a n := by
  have hTask : ¬ (m < 64 ∧ sup = false) := fun ⟨hm, hf⟩ => Bool.false_ne_true (hf.symm.trans (hs hm))
  have hClosed : ¬ (64 ≤ m ∧ mpuDflt s m = 0) := fun ⟨hm, hz⟩ => hd hm hz
  rw [checkByte_of_none n h, if_neg hTask, if_neg hClosed]

end

/-- In an overlap the region named is below the next one hit. -/
theorem lt_of_regionsHit_cons_cons {s : Mach} {m a k j : Nat} {sup : Bool} {l : List Nat} (h : regionsHit s m sup a = k :: j :: l) :
    k < j :=
  List.rel_of_pairwise_cons (h ▸ regionsHit_pairwise_lt s m sup a) List.mem_cons_self

/-- Settles O36: R517's procedure, one law of `checkByte` for each number of regions hit and, with none, for each kind of master. -/
theorem protectionDecision : Obligations.ProtectionDecision := by
  unfold Obligations.ProtectionDecision
  intro s m a sup n hits
  refine ⟨fun k hk hg => ?_, fun k hk hg => ?_, fun k j l hk => ⟨lt_of_regionsHit_cons_cons hk, checkByte_of_overlap n hk⟩,
    checkByte_task_of_none n, checkByte_closed_of_none n, checkByte_default_of_none n,
    fun hc hm => regionsHit_of_setGone sup a (setGone_of_mpuClear hc hm), mpuDflt_of_not_mpuClear m, fun k hk => ?_⟩
  · rw [checkByte_of_one n hk, if_pos hg]
  · rw [checkByte_of_one n hk, hg, if_neg Bool.false_ne_true]
  · obtain ⟨_, hvalid, _, hstart, hend⟩ := regionHit_iff.mp hk
    exact ⟨hstart, hend, hvalid⟩

end Sys2Proof.Machine

/-!
PROOF. The staging point (R4 to R7, R648 to R651): what its checks show and what they leave alone, what a commit write answers, and the
change of the registers by a set and by a discard.
-/
namespace Sys2Proof.Machine

/-! ### Frames of a chain of updates -/

/-- Two frames join to a frame over parts that overwrite those of both. -/
theorem Only.comp {ps qs rs : List Part} {a b c : Mach} (h : Only ps a b) (g : Only qs b c)
    (hover : ∀ x y z, rs.foldl (copyPart x) (qs.foldl (copyPart x) (ps.foldl (copyPart y) z)) = rs.foldl (copyPart x) z) :
    Only rs a c :=
  calc c = rs.foldl (copyPart c) c := Only.refl rs c
    _ = rs.foldl (copyPart c) (qs.foldl (copyPart c) b) := congrArg (rs.foldl _) g
    _ = rs.foldl (copyPart c) (qs.foldl (copyPart c) (ps.foldl (copyPart b) a)) := congrArg (fun t => rs.foldl _ (qs.foldl _ t)) h
    _ = rs.foldl (copyPart c) a := hover c b a

/-- A fold whose every step is in a frame is in it. -/
theorem Only.foldl {ps : List Part} {α : Type} {f : Mach → α → Mach} (hstep : ∀ t x, Only ps t (f t x))
    (hover : ∀ x y z, ps.foldl (copyPart x) (ps.foldl (copyPart x) (ps.foldl (copyPart y) z)) = ps.foldl (copyPart x) z)
    (l : List α) (s : Mach) : Only ps s (l.foldl f s) := by
  induction l generalizing s with
  | nil => exact Only.refl ps s
  | cons x l ih => exact (hstep s x).comp (ih (f s x)) hover

/-- b is a but for the registers ks and for work put on the internal list. -/
def Marks (ks : List Nat) (a b : Mach) : Prop := OnlyRegs ks a b ∧ Only [.regs, .work] a b

namespace Marks

variable {ks ls : List Nat} {a b c : Mach}

theorem refl (ks : List Nat) (a : Mach) : Marks ks a a := ⟨OnlyRegs.refl ks a, Only.refl _ a⟩

theorem trans (h : Marks ks a b) (g : Marks ls b c) : Marks (ks ++ ls) a c :=
  ⟨h.1.trans g.1, h.2.comp g.2 fun _ _ _ => rfl⟩

theorem mono (h : Marks ks a b) (hs : ∀ k ∈ ks, k ∈ ls) : Marks ls a b := ⟨h.1.mono hs, h.2⟩

theorem andThen (h : Marks ks a b) (g : Marks ks b c) : Marks ks a c := (h.trans g).mono fun _ hk => (List.mem_append.mp hk).elim id id

/-- A field of a register outside those written reads as before. -/
theorem f (h : Marks ks a b) {x : RF} (hx : x.reg ∉ ks) : b.f x = a.f x := congrArg (fieldOf · x.lo x.width) (h.1 x.reg hx)

theorem n (h : Marks ks a b) {k : Nat} (hk : k ∉ ks) : b.n k = a.n k := congrArg BitVec.toNat (h.1 k hk)

theorem setF (h : Marks ks a b) (x : RF) (v : Nat) (hx : x.reg ∈ ks) : Marks ks a (b.setF x v) :=
  h.andThen ⟨(onlyRegs_setF b x v).mono fun _ hk => List.mem_singleton.mp hk ▸ hx, rfl⟩

theorem logE (h : Marks ks a b) (e : LogEntry) : Marks ks a (b.logE e) := h.andThen ⟨OnlyRegs.refl ks b, rfl⟩

theorem raise (h : Marks ks a b) (x : RF) (hx : x.reg ∈ ks) : Marks ks a (b.raise x) :=
  h.andThen ⟨(onlyRegs_raise b x).mono fun _ hk => List.mem_singleton.mp hk ▸ hx, rfl⟩

theorem inc (h : Marks ks a b) (k : Nat) (hk : k ∈ ks) : Marks ks a (b.inc k) :=
  h.andThen ⟨(onlyRegs_inc b k).mono fun _ hj => List.mem_singleton.mp hj ▸ hk, rfl⟩

theorem ite {p : Prop} [Decidable p] (h : Marks ks a b) (g : Marks ks a c) : Marks ks a (if p then b else c) := by
  split
  · exact h
  · exact g

theorem foldl {α : Type} {f : Mach → α → Mach} {l : List α} (h : Marks ks a b)
    (hstep : ∀ t, ∀ x ∈ l, Marks ks a t → Marks ks a (f t x)) : Marks ks a (l.foldl f b) :=
  List.foldlRecOn l f h fun t ht x hx => hstep t x hx ht

end Marks

/-- A raised event bit reads 1. -/
theorem Mach.f_raise_same (s : Mach) (x : RF) (h : x.lo + x.width ≤ 64) (hw : x.width ≠ 0) : (s.raise x).f x = 1 :=
  (Mach.f_setF_same s x 1 h).trans (Nat.mod_eq_of_lt (Nat.one_lt_two_pow hw))

/-- A counter counts one on. -/
theorem Mach.n_inc_same (s : Mach) (k : Nat) : (s.inc k).n k = (s.n k + 1) % 2 ^ 64 := Mach.n_setN_same s k _

theorem Mach.r_upTo (s : Mach) (t k : Nat) : (s.upTo t).r k = s.r k :=
  congrArg (mapGet regReset · k) ((only_upTo s t).regs (by decide))

theorem Mach.beat_upTo (s : Mach) (t : Nat) : (s.upTo t).beat = s.beat := (only_upTo s t).beat (by decide)

theorem Mach.standby_setF (s : Mach) (x : RF) (v : Nat) (h : TW_STATUS ≠ x.reg) : (s.setF x v).standby = s.standby := by
  rw [Mach.standby, Mach.f_setF_other _ _ _ _ (Or.inl h), Mach.standby]

/-! ### What each check shows (R648) -/

theorem leadCause_lt (v : Mach) : leadCause v < 8 := by
  unfold leadCause
  dsimp only
  repeat' split
  all_goals decide

theorem showLead_marks (s v : Mach) : Marks [BT_DMAX, BT_LEAD_CHECK] s (showLead s v) :=
  ((((Marks.refl _ s).setF _ _ (by decide)).setF _ _ (by decide)).setF _ _ (by decide)).setF _ _ (by decide)

theorem showLead_cause (s v : Mach) : (showLead s v).f BT_LEAD_CHECK_cause = leadCause v := by
  rw [showLead, Mach.f_setF_other _ _ _ _ (by decide), Mach.f_setF_same _ _ _ (by decide)]
  exact Nat.mod_eq_of_lt (leadCause_lt v)

theorem showCap_marks (s v : Mach) : Marks ((keysFrom 0 4).map RG_RING_CAP) s (showCap s v) :=
  (Marks.refl _ s).foldl fun _ _ hn ht => (ht.setF _ _ (List.mem_map_of_mem hn)).setF _ _ (List.mem_map_of_mem hn)

theorem showReflex_marks (s v : Mach) : Marks [TX_CHECK] s (showReflex s v) := by
  have put (c l r e : Nat) : Marks [TX_CHECK] s
      ((((s.setF TX_CHECK_cause c).setF TX_CHECK_load (satAt 7 l)).setF TX_CHECK_ring r).setF TX_CHECK_entry e) :=
    ((((Marks.refl _ s).setF _ _ (by decide)).setF _ _ (by decide)).setF _ _ (by decide)).setF _ _ (by decide)
  unfold showReflex
  split
  · exact put _ _ _ _
  · split
    · exact put _ _ _ _
    · exact put _ _ _ _

theorem showReflex_cause (s v : Mach) :
    (showReflex s v).f TX_CHECK_cause = if (reflexFail v).isSome then 2 else if (fanFail v).isSome then 1 else 0 := by
  have put (c l r e : Nat) :
      ((((s.setF TX_CHECK_cause c).setF TX_CHECK_load (satAt 7 l)).setF TX_CHECK_ring r).setF TX_CHECK_entry e).f TX_CHECK_cause =
        c % 2 ^ 2 := by
    rw [Mach.f_setF_other _ _ _ _ (by decide), Mach.f_setF_other _ _ _ _ (by decide), Mach.f_setF_other _ _ _ _ (by decide),
      Mach.f_setF_same _ _ _ (by decide)]
    rfl
  unfold showReflex
  cases reflexFail v with
  | some i => exact put 2 _ _ _
  | none =>
    cases fanFail v with
    | some r => exact put 1 _ _ _
    | none => exact put 0 _ _ _

theorem showWindow_marks (s v : Mach) : Marks [SK_WINDOW, SK_EVENT] s (showWindow s v) := by
  have h := (Marks.refl [SK_WINDOW, SK_EVENT] s).setF SK_WINDOW_wmin_ns ((wMin v + 79) / 80) (by decide)
  unfold showWindow
  split
  · exact h.raise _ (by decide)
  · exact h

theorem showWindow_wmin (s v : Mach) : (showWindow s v).f SK_WINDOW_wmin_ns = (wMin v + 79) / 80 % 2 ^ SK_WINDOW_wmin_ns.width := by
  have h := Mach.f_setF_same s SK_WINDOW_wmin_ns ((wMin v + 79) / 80) (by decide)
  unfold showWindow
  split
  · exact (((Marks.refl [SK_EVENT] _).raise _ (by decide)).f (by decide)).trans h
  · exact h

theorem showWindow_short (s v : Mach) (h : phaseOff v 4 * 80 < phaseOff v 3 * 80 + wMin v) :
    (showWindow s v).f SK_EVENT_window_short = 1 := by
  rw [showWindow, if_pos h]
  exact Mach.f_raise_same _ _ (by decide) (by decide)

/-- The fields that a check of the regions writes: the cause, a region x and a second one y. -/
def putRegions (s : Mach) (c x y : Nat) : Mach :=
  (((s.setF PT_CHECK_cause c).setF PT_CHECK_master (x / 32)).setF PT_CHECK_region (x % 32)).setF PT_CHECK_region2 (y % 32)

theorem putRegions_marks (s : Mach) (c x y : Nat) : Marks [PT_CHECK, PT_EVENT] s (putRegions s c x y) :=
  ((((Marks.refl _ s).setF _ _ (by decide)).setF _ _ (by decide)).setF _ _ (by decide)).setF _ _ (by decide)

theorem putRegions_cause (s : Mach) {c : Nat} (x y : Nat) (hc : c < 4) : (putRegions s c x y).f PT_CHECK_cause = c := by
  rw [putRegions, Mach.f_setF_other _ _ _ _ (by decide), Mach.f_setF_other _ _ _ _ (by decide), Mach.f_setF_other _ _ _ _ (by decide),
    Mach.f_setF_same _ _ _ (by decide)]
  exact Nat.mod_eq_of_lt hc

theorem regionCause_lt (v : Mach) (x : Nat) : regionCause v x < 4 := by
  unfold regionCause
  repeat' split
  all_goals decide

section
variable (s : Mach) {v : Mach}

theorem showRegions_of_refused {x : Nat} (h : regionFail v = some x) : showRegions s v = putRegions s (regionCause v x) x 0 := by
  simp only [showRegions, h, putRegions]

theorem showRegions_of_pair {x y : Nat} (h : regionFail v = none) (hp : regionPair v = some (x, y)) :
    showRegions s v = (putRegions s 3 x y).raise PT_EVENT_overlap_cfg := by
  simp only [showRegions, h, hp, putRegions]

theorem showRegions_of_clear (h : regionFail v = none) (hp : regionPair v = none) : showRegions s v = putRegions s 0 0 0 := by
  simp only [showRegions, h, hp, putRegions]

end

theorem showRegions_marks (s v : Mach) : Marks [PT_CHECK, PT_EVENT] s (showRegions s v) := by
  cases h : regionFail v with
  | some x => rw [showRegions_of_refused s h]; exact putRegions_marks _ _ _ _
  | none =>
    cases hp : regionPair v with
    | some x => rw [showRegions_of_pair s h hp]; exact (putRegions_marks _ _ _ _).raise _ (by decide)
    | none => rw [showRegions_of_clear s h hp]; exact putRegions_marks _ _ _ _

/-! ### The checks together -/

/-- The registers that the checks write. -/
def checkRegs : List Nat :=
  [BT_DMAX, BT_LEAD_CHECK, TX_CHECK, SK_WINDOW, SK_EVENT, PT_CHECK, PT_EVENT, TW_STATUS] ++ (keysFrom 0 4).map RG_RING_CAP

/-- The module with what each check found of the set v in its own register. -/
def checkMarks (s v : Mach) : Mach :=
  (showRegions (showWindow (showReflex (showCap (showLead s v) v) v) v) v).setF TW_STATUS_mirror_bytes (mirrorBytes v)

theorem checkMarks_marks (s v : Mach) : Marks checkRegs s (checkMarks s v) :=
  ((((((showLead_marks s v).trans (showCap_marks _ v)).trans (showReflex_marks _ v)).trans (showWindow_marks _ v)).trans
    (showRegions_marks _ v)).mono (by decide)).setF _ _ (by decide)

/-- The checks write their own registers and end being due. -/
theorem showChecks_eq (s : Mach) :
    showChecks s = { checkMarks s (stagedView s) with beat := { s.beat with checkDue := none } } :=
  congrArg (fun b => { checkMarks s (stagedView s) with beat := { b with checkDue := none } })
    ((checkMarks_marks s (stagedView s)).2.beat (by decide))

section
variable (s v : Mach)

theorem checkMarks_lead : (checkMarks s v).f BT_LEAD_CHECK_cause = leadCause v := by
  rw [checkMarks, Mach.f_setF_other _ _ _ _ (by decide), (showRegions_marks _ v).f (by decide), (showWindow_marks _ v).f (by decide),
    (showReflex_marks _ v).f (by decide), (showCap_marks _ v).f (by decide), showLead_cause]

theorem checkMarks_reflex :
    (checkMarks s v).f TX_CHECK_cause = if (reflexFail v).isSome then 2 else if (fanFail v).isSome then 1 else 0 := by
  rw [checkMarks, Mach.f_setF_other _ _ _ _ (by decide), (showRegions_marks _ v).f (by decide), (showWindow_marks _ v).f (by decide),
    showReflex_cause]

theorem checkMarks_wmin : (checkMarks s v).f SK_WINDOW_wmin_ns = (wMin v + 79) / 80 % 2 ^ SK_WINDOW_wmin_ns.width := by
  rw [checkMarks, Mach.f_setF_other _ _ _ _ (by decide), (showRegions_marks _ v).f (by decide), showWindow_wmin]

theorem checkMarks_short (h : phaseOff v 4 * 80 < phaseOff v 3 * 80 + wMin v) : (checkMarks s v).f SK_EVENT_window_short = 1 := by
  rw [checkMarks, Mach.f_setF_other _ _ _ _ (by decide), (showRegions_marks _ v).f (by decide), showWindow_short _ _ h]

theorem checkMarks_mirror : (checkMarks s v).f TW_STATUS_mirror_bytes = mirrorBytes v % 2 ^ TW_STATUS_mirror_bytes.width :=
  Mach.f_setF_same _ _ _ (by decide)

theorem checkMarks_refused {x : Nat} (h : regionFail v = some x) : (checkMarks s v).f PT_CHECK_cause = regionCause v x := by
  rw [checkMarks, Mach.f_setF_other _ _ _ _ (by decide), showRegions_of_refused _ h, putRegions_cause _ _ _ (regionCause_lt v x)]

theorem checkMarks_pair {x : Nat × Nat} (h : regionFail v = none) (hp : regionPair v = some x) :
    (checkMarks s v).f PT_CHECK_cause = 3 ∧ (checkMarks s v).f PT_EVENT_overlap_cfg = 1 := by
  rw [checkMarks, Mach.f_setF_other _ _ _ _ (by decide), Mach.f_setF_other _ _ _ _ (by decide), showRegions_of_pair _ h hp]
  refine ⟨?_, Mach.f_raise_same _ _ (by decide) (by decide)⟩
  rw [((Marks.refl [PT_EVENT] _).raise _ (by decide)).f (by decide), putRegions_cause _ _ _ (by decide)]

theorem checkMarks_clear (h : regionFail v = none) (hp : regionPair v = none) : (checkMarks s v).f PT_CHECK_cause = 0 := by
  rw [checkMarks, Mach.f_setF_other _ _ _ _ (by decide), showRegions_of_clear _ h hp, putRegions_cause _ _ _ (by decide)]

end

theorem only_withBeat (s : Mach) (b : Beat) : Only [.beat] s { s with beat := b } := rfl

theorem Mach.r_withBeat (s : Mach) (b : Beat) (k : Nat) : ({ s with beat := b } : Mach).r k = s.r k := rfl

theorem Mach.now_withBeat (s : Mach) (b : Beat) : ({ s with beat := b } : Mach).now = s.now := rfl

/-- The checks, run at the moment they are due, leave the rest of the module but for time. -/
theorem showChecks_upTo_only (s : Mach) (t : Nat) :
    Only [.regs, .beat, .work, .now, .sub, .cycles, .hSkew] s (showChecks (s.upTo t)) := by
  rw [showChecks_eq]
  have h : Only [.regs, .work, .now, .sub, .cycles, .hSkew] s (checkMarks (s.upTo t) (stagedView (s.upTo t))) :=
    (only_upTo s t).comp (checkMarks_marks (s.upTo t) _).2 fun x y z => by simp only [List.foldl_cons, List.foldl_nil, copyPart]
  exact h.comp (only_withBeat _ _) fun x y z => by simp only [List.foldl_cons, List.foldl_nil, copyPart]

theorem showChecks_upTo_onlyRegs (s : Mach) (t : Nat) : OnlyRegs checkRegs s (showChecks (s.upTo t)) := by
  intro k hk
  rw [showChecks_eq, Mach.r_withBeat, (checkMarks_marks _ _).1 k hk, Mach.r_upTo]

theorem showChecks_upTo_beat (s : Mach) (t : Nat) : (showChecks (s.upTo t)).beat = { s.beat with checkDue := none } := by
  rw [showChecks_eq, Mach.beat_upTo]

theorem showChecks_f (s : Mach) (x : RF) : (showChecks s).f x = (checkMarks s (stagedView s)).f x := by
  rw [showChecks_eq, Mach.f, Mach.r_withBeat, Mach.f]

theorem showChecks_now (s : Mach) : (showChecks s).now = s.now := by
  rw [showChecks_eq, Mach.now_withBeat]
  exact (checkMarks_marks s _).2.now (by decide)

/-! ### The set that becomes active (R5) -/

/-- A register's value with its RWS fields taken from a set. -/
def mergeRws (l : List (Nat × U64)) (k : Nat) (v : U64) : U64 := (v &&& ~~~(rwsMask k)) ||| (mapGet regReset l k &&& rwsMask k)

theorem merge_of_zero (v x : U64) : (v &&& ~~~0) ||| (x &&& 0) = v := by
  rw [show x &&& 0 = 0 from BitVec.and_zero, show ~~~(0 : U64) = BitVec.allOnes 64 from rfl, BitVec.and_allOnes]
  exact BitVec.or_zero

theorem merge_self (v w : U64) : (v &&& ~~~w) ||| (v &&& w) = v := by
  rw [← BitVec.and_or_distrib_left, BitVec.or_comm, BitVec.or_not_self, BitVec.and_allOnes]

theorem mergeRws_idem (l : List (Nat × U64)) (k : Nat) (v : U64) : mergeRws l k (mergeRws l k v) = mergeRws l k v := by
  ext i hi
  simp only [mergeRws, BitVec.getElem_or, BitVec.getElem_and, BitVec.getElem_not]
  cases v[i] <;> cases (rwsMask k)[i] <;> simp

theorem mapGet_of_not_mem {α : Type} (d : Nat → α) {l : List (Nat × α)} {k : Nat} (h : k ∉ l.map (fun p => p.1)) :
    mapGet d l k = d k := by
  induction l with
  | nil => rfl
  | cons p l ih =>
    rw [List.map_cons, List.mem_cons, not_or] at h
    rw [mapGet, if_neg h.1, ih h.2]

theorem takeSet_r (l : List (Nat × U64)) (s : Mach) (k j : Nat) :
    (takeSet l s k).r j = if j = k then mergeRws l k (s.r k) else s.r j := by
  unfold takeSet
  dsimp only
  split
  · next hw =>
    split
    · next hj => rw [hj, mergeRws, hw, merge_of_zero]
    · rfl
  · exact Mach.r_setR s k j _

theorem foldl_takeSet_r (l : List (Nat × U64)) (ks : List Nat) (s : Mach) (j : Nat) :
    (ks.foldl (takeSet l) s).r j = if j ∈ ks then mergeRws l j (s.r j) else s.r j := by
  induction ks generalizing s with
  | nil => rfl
  | cons k ks ih =>
    rw [List.foldl_cons, ih, takeSet_r]
    by_cases hj : j = k
    · simp [hj, mergeRws_idem]
    · simp [hj]

/-- Every register takes the RWS fields of the set and keeps its other fields, listed or not. -/
theorem applySet_r (s : Mach) (l : List (Nat × U64)) (j : Nat) : (applySet s l).r j = mergeRws l j (s.r j) := by
  rw [applySet, foldl_takeSet_r]
  split
  · rfl
  · next h =>
    rw [List.mem_append, not_or] at h
    rw [mergeRws, mapGet_of_not_mem regReset h.2, Mach.r, mapGet_of_not_mem regReset h.1, merge_self]

theorem takeSet_only (l : List (Nat × U64)) (s : Mach) (k : Nat) : Only [.regs] s (takeSet l s k) := by
  unfold takeSet
  dsimp only
  split
  · exact Only.refl _ s
  · rfl

theorem applySet_only (s : Mach) (l : List (Nat × U64)) : Only [.regs] s (applySet s l) :=
  Only.foldl (takeSet_only l) (fun _ _ _ => rfl) _ s

/-- The status of the edge that applies a set: its result, no block, the tag of its commit and the edge's beat. -/
def appliedStatus (s : Mach) (edge : Nat) : Mach :=
  (((s.setF GL_STAGE_STATUS_result 2).setF GL_STAGE_STATUS_block 0).setF GL_STAGE_STATUS_tag s.beat.commitTag).setF
    GL_STAGE_STATUS_beat edge

/-- The status, the event and the count of an edge that applies a set. -/
def appliedMarks (s : Mach) (edge : Nat) : Mach := ((appliedStatus s edge).raise GL_EVENT_committed).inc (GL_CNT 0)

/-- No commit is pending any more, and the protection unit is configured again. -/
def commitDone (s : Mach) : Mach := { s with committed := none, mpuClear := false, beat := { s.beat with commitAt := none } }

theorem r_commitDone (s : Mach) (k : Nat) : (commitDone s).r k = s.r k := rfl
theorem f_commitDone (s : Mach) (x : RF) : (commitDone s).f x = s.f x := rfl
theorem committed_commitDone (s : Mach) : (commitDone s).committed = none := rfl

theorem appliedMarks_marks (s : Mach) (edge : Nat) : Marks [GL_STAGE_STATUS, GL_EVENT, GL_CNT 0] s (appliedMarks s edge) :=
  ((((((Marks.refl _ s).setF _ _ (by decide)).setF _ _ (by decide)).setF _ _ (by decide)).setF _ _ (by decide)).raise _
    (by decide)).inc _ (by decide)

theorem appliedMarks_status (s : Mach) (edge : Nat) {x : RF} (hx : x.reg = GL_STAGE_STATUS) :
    (appliedMarks s edge).f x = (appliedStatus s edge).f x := by
  have h : Marks [GL_EVENT, GL_CNT 0] (appliedStatus s edge) (appliedMarks s edge) :=
    ((Marks.refl _ _).raise _ (by decide)).inc _ (by decide)
  exact h.f (by rw [hx]; decide)

theorem appliedMarks_event (s : Mach) (edge : Nat) : (appliedMarks s edge).f GL_EVENT_committed = 1 := by
  rw [appliedMarks, ((Marks.refl [GL_CNT 0] _).inc _ (by decide)).f (by decide), Mach.f_raise_same _ _ (by decide) (by decide)]

theorem applyCommit_some {s : Mach} {l : List (Nat × U64)} (edge : Nat) (h : s.committed = some l) :
    (applyCommit s edge).1 = commitDone (appliedMarks (applySet s l) edge) := by
  rw [applyCommit, h]
  rfl

section
variable (s : Mach) (edge : Nat)

theorem appliedStatus_result : (appliedStatus s edge).f GL_STAGE_STATUS_result = 2 := by
  rw [appliedStatus, Mach.f_setF_other _ _ _ _ (by decide), Mach.f_setF_other _ _ _ _ (by decide), Mach.f_setF_other _ _ _ _ (by decide),
    Mach.f_setF_same _ _ _ (by decide)]
  rfl

theorem appliedStatus_block : (appliedStatus s edge).f GL_STAGE_STATUS_block = 0 := by
  rw [appliedStatus, Mach.f_setF_other _ _ _ _ (by decide), Mach.f_setF_other _ _ _ _ (by decide), Mach.f_setF_same _ _ _ (by decide)]
  rfl

theorem appliedStatus_tag : (appliedStatus s edge).f GL_STAGE_STATUS_tag = s.beat.commitTag % 2 ^ 16 := by
  rw [appliedStatus, Mach.f_setF_other _ _ _ _ (by decide), Mach.f_setF_same _ _ _ (by decide)]
  rfl

theorem appliedStatus_beat : (appliedStatus s edge).f GL_STAGE_STATUS_beat = edge % 2 ^ 32 :=
  Mach.f_setF_same _ _ _ (by decide)

end

/-! ### A commit write (R649) -/

/-- A commit write first waits for the checks that are due. -/
theorem stageCommit_of_due {s : Mach} {t : Nat} (master tag : Nat) (h : s.beat.checkDue = some t) :
    stageCommit s master tag = stageCommit (showChecks (s.upTo t)) master tag := by
  have hn : (showChecks (s.upTo t)).beat.checkDue = none := congrArg Beat.checkDue (showChecks_upTo_beat s t)
  rw [stageCommit, h, stageCommit, hn]

/-- What an accepted commit write leaves. -/
def acceptCommit (s : Mach) (tag : Nat) : Mach :=
  let s := (s.setF GL_STAGE_STATUS_result 1).setF GL_STAGE_STATUS_block 0
  { s with committed := some s.staged,
           beat := { s.beat with commitAt := some s.now, commitTag := tag % 65536, commitOff := !s.b BT_CTRL_beat_en } }

section
variable {s : Mach} (master tag : Nat) (hd : s.beat.checkDue = none)
include hd

theorem stageCommit_of_pending (hc : s.committed ≠ none) :
    stageCommit s master tag = refuseCommit (s.setF GL_STAGE_STATUS_tag tag) master 4 0 := by
  rw [stageCommit, hd]
  exact if_pos (Option.isSome_iff_ne_none.mpr hc)

theorem stageCommit_of_standby (hc : s.committed = none) (hs : s.standby = true) :
    stageCommit s master tag = refuseCommit (s.setF GL_STAGE_STATUS_tag tag) master 5 0 := by
  have hs' : (s.setF GL_STAGE_STATUS_tag tag).standby = true := by rwa [Mach.standby_setF _ _ _ (by decide)]
  simp only [stageCommit, hd, Mach.committed_setF, hc, hs', Option.isSome_none, Bool.false_eq_true, if_false, if_true]

theorem stageCommit_of_failing {b : Nat} {l : List Nat} (hc : s.committed = none) (hs : s.standby = false)
    (hf : failingBlocks (stagedView (s.setF GL_STAGE_STATUS_tag tag)) = b :: l) :
    stageCommit s master tag = refuseCommit (refuseMarks (s.setF GL_STAGE_STATUS_tag tag)) master 3 b := by
  have hs' : (s.setF GL_STAGE_STATUS_tag tag).standby = false := by rwa [Mach.standby_setF _ _ _ (by decide)]
  simp only [stageCommit, hd, Mach.committed_setF, hc, hs', hf, Option.isSome_none, Bool.false_eq_true, if_false]

theorem stageCommit_of_passing (hc : s.committed = none) (hs : s.standby = false)
    (hf : failingBlocks (stagedView (s.setF GL_STAGE_STATUS_tag tag)) = []) :
    stageCommit s master tag = acceptCommit (s.setF GL_STAGE_STATUS_tag tag) tag := by
  have hs' : (s.setF GL_STAGE_STATUS_tag tag).standby = false := by rwa [Mach.standby_setF _ _ _ (by decide)]
  simp only [stageCommit, hd, Mach.committed_setF, hc, hs', hf, Option.isSome_none, Bool.false_eq_true, if_false, acceptCommit]

end

/-! ### What a refused commit write shows -/

/-- The registers of every refused commit write. -/
def refusedRegs : List Nat := [GL_STAGE_STATUS, GL_EVENT, GL_CNT 1]

theorem refuseCommit_marks (s : Mach) (master result block : Nat) : Marks refusedRegs s (refuseCommit s master result block) :=
  (((((Marks.refl _ s).setF _ _ (by decide)).setF _ _ (by decide)).raise _ (by decide)).inc _ (by decide)).logE _

section
variable (s : Mach) (master : Nat) {result block : Nat}

/-- The event, the counter and the log entry of a refused commit write leave its status. -/
theorem refuseCommit_status {x : RF} (hx : x.reg = GL_STAGE_STATUS) :
    (refuseCommit s master result block).f x = ((s.setF GL_STAGE_STATUS_result result).setF GL_STAGE_STATUS_block block).f x := by
  have h : Marks [GL_EVENT, GL_CNT 1] ((s.setF GL_STAGE_STATUS_result result).setF GL_STAGE_STATUS_block block)
      (refuseCommit s master result block) := (((Marks.refl _ _).raise _ (by decide)).inc _ (by decide)).logE _
  exact h.f (by rw [hx]; decide)

theorem refuseCommit_result (h : result < 16) : (refuseCommit s master result block).f GL_STAGE_STATUS_result = result := by
  rw [refuseCommit_status s master rfl, Mach.f_setF_other _ _ _ _ (by decide), Mach.f_setF_same _ _ _ (by decide)]
  exact Nat.mod_eq_of_lt h

theorem refuseCommit_block (h : block < 256) : (refuseCommit s master result block).f GL_STAGE_STATUS_block = block := by
  rw [refuseCommit_status s master rfl, Mach.f_setF_same _ _ _ (by decide)]
  exact Nat.mod_eq_of_lt h

theorem refuseCommit_tag : (refuseCommit s master result block).f GL_STAGE_STATUS_tag = s.f GL_STAGE_STATUS_tag := by
  rw [refuseCommit_status s master rfl, Mach.f_setF_other _ _ _ _ (by decide), Mach.f_setF_other _ _ _ _ (by decide)]

theorem refuseCommit_event : (refuseCommit s master result block).f GL_EVENT_refused = 1 := by
  have h (t : Mach) (e : LogEntry) : Marks [GL_CNT 1] t ((t.inc (GL_CNT 1)).logE e) := ((Marks.refl _ t).inc _ (by decide)).logE e
  rw [refuseCommit, (h _ _).f (by decide), Mach.f_raise_same _ _ (by decide) (by decide)]

theorem refuseCommit_count : (refuseCommit s master result block).n (GL_CNT 1) = (s.n (GL_CNT 1) + 1) % 2 ^ 64 := by
  have h : Marks [GL_STAGE_STATUS, GL_EVENT] s
      (((s.setF GL_STAGE_STATUS_result result).setF GL_STAGE_STATUS_block block).raise GL_EVENT_refused) :=
    (((Marks.refl _ s).setF _ _ (by decide)).setF _ _ (by decide)).raise _ (by decide)
  rw [refuseCommit, ((Marks.refl [] _).logE _).n (by decide), Mach.n_inc_same, h.n (by decide)]

end

theorem setTag_tag (s : Mach) (tag : BitVec 16) : (s.setF GL_STAGE_STATUS_tag tag.toNat).f GL_STAGE_STATUS_tag = tag.toNat :=
  (Mach.f_setF_same _ _ _ (by decide)).trans (Nat.mod_eq_of_lt tag.isLt)

theorem setTag_marks (s : Mach) (tag : Nat) : Marks refusedRegs s (s.setF GL_STAGE_STATUS_tag tag) :=
  (Marks.refl _ s).setF _ _ (by decide)

/-- The registers that the failing checks of a refused set write. -/
def failRegs : List Nat :=
  (keysFrom 0 4).map RG_RING_EVENT ++ ((keysFrom 0 2).map UX_EVENT ++
    [BT_DMAX, BT_LEAD_CHECK, AT_FAULT, AT_EVENT, BR_EVENT, PT_EVENT, JN_EVENT, TW_EVENT])

theorem refuseMarks_marks (s : Mach) : Marks failRegs s (refuseMarks s) := by
  unfold refuseMarks
  extract_lets v lead caps att mirror region windows layout
  have hlead : Marks failRegs s lead := Marks.ite (Marks.refl _ s) ((showLead_marks s v).mono (by decide))
  have hcaps : Marks failRegs s caps := hlead.foldl fun t n hn ht =>
    (ht.raise _ (List.mem_append_left _ (List.mem_map_of_mem hn))).ite ht
  have hatt : Marks failRegs s att := by
    unfold att
    split
    · exact ((((hcaps.setF _ _ (by decide)).setF _ _ (by decide)).setF _ _ (by decide)).setF _ _ (by decide)).raise _ (by decide)
    · exact hcaps
  have hmirror : Marks failRegs s mirror := by
    unfold mirror
    split
    · exact (hatt.raise _ (by decide)).logE _
    · exact hatt
  have hregion : Marks failRegs s region := (hmirror.raise _ (by decide)).ite hmirror
  have hwindows : Marks failRegs s windows := hregion.foldl fun t p hp ht =>
    (ht.raise _ (List.mem_append_right _ (List.mem_append_left _ (List.mem_map_of_mem hp)))).ite ht
  have hlayout : Marks failRegs s layout := (hwindows.raise _ (by decide)).ite hwindows
  exact ((hlayout.raise _ (by decide)).logE _).ite hlayout

theorem failingBlocks_lt {v : Mach} {b : Nat} {l : List Nat} (h : failingBlocks v = b :: l) : b < 256 := by
  have hb : b ∈ failingBlocks v := h ▸ List.mem_cons_self
  obtain ⟨p, hp, he⟩ := List.mem_filterMap.mp hb
  have hall : ∀ k ∈ [0x01, 0x02, 0x03, 0x04, 0x05, 0x08, 0x09, 0x0A, 0x0B, 0x0C, 0x0D, 0x0E, 0x12], k < 256 := by decide
  obtain rfl := Option.some.inj (Option.ite_none_right_eq_some.mp he).2
  exact hall p.1 (List.mem_map_of_mem (f := Prod.fst) hp)

/-- A refused set leaves every register that has an RWS field. -/
theorem refused_keeps_rws (s : Mach) (master tag b : Nat) {k : Nat} (hk : rwsMask k ≠ 0) :
    (refuseCommit (refuseMarks (s.setF GL_STAGE_STATUS_tag tag)) master 3 b).r k = s.r k := by
  have h := ((setTag_marks s tag).trans (refuseMarks_marks _)).trans (refuseCommit_marks (refuseMarks _) master 3 b)
  have hzero : ∀ j ∈ refusedRegs ++ failRegs ++ refusedRegs, rwsMask j = 0 := by decide
  exact h.1 k fun hmem => hk (hzero k hmem)

/-- A commit write refused before its set is checked writes the status, the event and the counter alone. -/
theorem refusedTag_marks (s : Mach) (master tag result : Nat) :
    Marks refusedRegs s (refuseCommit (s.setF GL_STAGE_STATUS_tag tag) master result 0) :=
  (setTag_marks s tag).andThen (refuseCommit_marks _ master result 0)

/-- The count of a refused commit write, whatever its failing checks wrote before. -/
theorem refusedTag_count {s t : Mach} {ks : List Nat} {tag : Nat} (master result block : Nat)
    (h : Marks ks (s.setF GL_STAGE_STATUS_tag tag) t) (hk : GL_CNT 1 ∉ ks) :
    (refuseCommit t master result block).n (GL_CNT 1) = (s.n (GL_CNT 1) + 1) % 2 ^ 64 := by
  rw [refuseCommit_count, h.n hk, ((Marks.refl [GL_STAGE_STATUS] s).setF _ _ (by decide)).n (by decide)]

theorem refusedTag_tag {s t : Mach} {ks : List Nat} {tag : BitVec 16} (master result block : Nat)
    (h : Marks ks (s.setF GL_STAGE_STATUS_tag tag.toNat) t) (hk : GL_STAGE_STATUS ∉ ks) :
    (refuseCommit t master result block).f GL_STAGE_STATUS_tag = tag.toNat := by
  rw [refuseCommit_tag, h.f hk, setTag_tag]

/-! ### What an accepted commit write shows -/

theorem f_acceptCommit (s : Mach) (tag : Nat) (x : RF) :
    (acceptCommit s tag).f x = ((s.setF GL_STAGE_STATUS_result 1).setF GL_STAGE_STATUS_block 0).f x := rfl

theorem acceptCommit_result (s : Mach) (tag : Nat) : (acceptCommit s tag).f GL_STAGE_STATUS_result = 1 := by
  rw [f_acceptCommit, Mach.f_setF_other _ _ _ _ (by decide), Mach.f_setF_same _ _ _ (by decide)]
  rfl

theorem acceptCommit_block (s : Mach) (tag : Nat) : (acceptCommit s tag).f GL_STAGE_STATUS_block = 0 := by
  rw [f_acceptCommit, Mach.f_setF_same _ _ _ (by decide)]
  rfl

section
variable (s : Mach) (tag : BitVec 16)

theorem acceptCommit_tag : (acceptCommit (s.setF GL_STAGE_STATUS_tag tag.toNat) tag.toNat).f GL_STAGE_STATUS_tag = tag.toNat := by
  rw [f_acceptCommit, Mach.f_setF_other _ _ _ _ (by decide), Mach.f_setF_other _ _ _ _ (by decide), setTag_tag]

theorem acceptCommit_regs : Marks [GL_STAGE_STATUS] s
    (((s.setF GL_STAGE_STATUS_tag tag.toNat).setF GL_STAGE_STATUS_result 1).setF GL_STAGE_STATUS_block 0) :=
  (((Marks.refl _ s).setF _ _ (by decide)).setF _ _ (by decide)).setF _ _ (by decide)

theorem acceptCommit_off : (acceptCommit (s.setF GL_STAGE_STATUS_tag tag.toNat) tag.toNat).beat.commitOff = !s.b BT_CTRL_beat_en :=
  congrArg (fun x => !(x == 1)) ((acceptCommit_regs s tag).f (x := BT_CTRL_beat_en) (by decide))

end

/-! ### A discard (R651) -/

/-- One register of a discard: its staging copy takes the active value. -/
def discardReg (s : Mach) (k : Nat) : Mach := if rwsMask k = 0 then s else s.setSt k (s.r k)

theorem stageDiscard_of_free {s : Mach} (h : s.committed = none) :
    stageDiscard s = ((s.regs.map (fun p => p.1)) ++ (s.staged.map (fun p => p.1))).foldl discardReg s :=
  if_neg (by rw [h]; exact Bool.false_ne_true)

theorem stageDiscard_of_pending {s : Mach} (h : s.committed ≠ none) : stageDiscard s = s.setF GL_STAGE_STATUS_result 4 :=
  if_pos (Option.isSome_iff_ne_none.mpr h)

theorem discardReg_only (s : Mach) (k : Nat) : Only [.staged] s (discardReg s k) := by
  unfold discardReg
  split
  · exact Only.refl _ s
  · rfl

theorem discardReg_st (s : Mach) (k j : Nat) :
    (discardReg s k).st j = if j = k ∧ rwsMask j ≠ 0 then s.r j else s.st j := by
  unfold discardReg
  split
  · next hw => rw [if_neg fun h => h.2 (h.1 ▸ hw)]
  · next hw =>
    rw [Mach.setSt, Mach.st, mapGet_mapSet]
    by_cases hj : j = k
    · subst hj
      rw [if_pos rfl, if_pos ⟨rfl, hw⟩]
    · rw [if_neg hj, if_neg fun h => hj h.1, Mach.st]

theorem discardReg_r (s : Mach) (k j : Nat) : (discardReg s k).r j = s.r j :=
  congrArg (mapGet regReset · j) ((discardReg_only s k).regs (by decide))

theorem foldl_discardReg_st (ks : List Nat) (s : Mach) (j : Nat) :
    (ks.foldl discardReg s).st j = if j ∈ ks ∧ rwsMask j ≠ 0 then s.r j else s.st j := by
  induction ks generalizing s with
  | nil => exact (if_neg fun h => absurd h.1 List.not_mem_nil).symm
  | cons k ks ih =>
    rw [List.foldl_cons, ih, discardReg_r, discardReg_st]
    by_cases hw : rwsMask j ≠ 0
    · by_cases hj : j = k
      · subst hj
        rw [if_pos (show j ∈ j :: ks ∧ _ from ⟨List.mem_cons_self, hw⟩), if_pos (show j = j ∧ _ from ⟨rfl, hw⟩), ite_self]
      · simp only [hj, false_and, if_false, List.mem_cons, false_or]
    · simp only [hw, and_false, if_false]

/-- A register that neither map lists has its reset value in both, so that a discard has nothing to copy. -/
theorem stageDiscard_st {s : Mach} (h : s.committed = none) (j : Nat) :
    (stageDiscard s).st j = if rwsMask j = 0 then s.st j else s.r j := by
  rw [stageDiscard_of_free h, foldl_discardReg_st]
  by_cases hw : rwsMask j = 0
  · rw [if_pos hw, if_neg fun hm => hm.2 hw]
  · rw [if_neg hw]
    split
    · rfl
    · next hn =>
      have hm : j ∉ s.regs.map (fun p => p.1) ++ s.staged.map (fun p => p.1) := fun hm => hn ⟨hm, hw⟩
      rw [List.mem_append, not_or] at hm
      rw [Mach.st, mapGet_of_not_mem regReset hm.2, Mach.r, mapGet_of_not_mem regReset hm.1]

theorem stageDiscard_only {s : Mach} (h : s.committed = none) : Only [.staged] s (stageDiscard s) := by
  rw [stageDiscard_of_free h]
  exact Only.foldl discardReg_only (fun _ _ _ => rfl) _ s

/-! ### The edge with the beats off (R650) -/

theorem nocWaited_committed (s : Mach) (m a b : Nat) : (nocWaited s m a b).committed = s.committed := by
  unfold nocWaited
  dsimp only
  rw [apply_ite Mach.committed]
  exact ite_self _

theorem nocSend_committed (s : Mach) (k : NocPacket) (t : Nat) : (nocSend s k t).committed = s.committed := by
  unfold nocSend
  dsimp only
  split
  · rfl
  · rfl

theorem nocAdmitAt_committed (s : Mach) (k : NocPacket) (t : Nat) : (nocAdmitAt s k t).committed = s.committed := by
  unfold nocAdmitAt
  dsimp only
  split
  · exact nocSend_committed _ _ _
  · split
    · exact (nocSend_committed _ _ _).trans (nocWaited_committed _ _ _ _)
    · exact nocSend_committed _ _ _

theorem nocAdmitAll_committed (q kept : List NocPacket) (s : Mach) : (nocAdmitAll q kept s).committed = s.committed := by
  induction q generalizing kept s with
  | nil => rfl
  | cons k q ih =>
    have hwait : (if k.urgent then s else nocWaited s k.master k.injected s.cycles).committed = s.committed := by
      split
      · rfl
      · exact nocWaited_committed _ _ _ _
    rw [nocAdmitAll]
    split
    · extract_lets c
      split
      · exact (ih _ _).trans (nocAdmitAt_committed _ _ _)
      · exact (ih _ _).trans hwait
    · exact (ih _ _).trans hwait

theorem commitApplyBeatsOff_of_some {s : Mach} {l : List (Nat × U64)} (hc : s.committed = some l)
    (hoff : s.beat.commitOff = true ∨ s.b BT_STATUS_beat_run = false) :
    (nocAdmit (s.upTo (s.beat.commitAt.getD s.now))).committed = some l ∧
    onCommitApplyBeatsOff s =
      let t := s.upTo (s.beat.commitAt.getD s.now)
      migrateStart (commitEffects (nocAdmit t) (applyCommit (nocAdmit t) t.beatNum).1 l) := by
  have hk : (nocAdmit (s.upTo (s.beat.commitAt.getD s.now))).committed = some l :=
    ((nocAdmitAll_committed _ _ _).trans ((only_upTo s _).committed (by decide))).trans hc
  refine ⟨hk, ?_⟩
  rw [onCommitApplyBeatsOff, if_pos ⟨Option.isSome_iff_exists.mpr ⟨l, hc⟩, hoff⟩]
  simp only [stagingPoint, hk]

/-! ### The clauses of the statement -/

/-- A command whose meaning is h on the module ends in what h leaves. -/
theorem ends_of_onC {c : Instr} {s : State} {h : Mach → Mach} {P : Mach → Prop} (hx : exec c s = onC h s) (hp : P (h s.m)) :
    Ends c s P :=
  ⟨h s.m, hx, hp⟩

theorem leaves_of_onC {c : Instr} {s : State} {h : Mach → Mach} {m : Mach} (hx : exec c s = onC h s) (hm : h s.m = m) : Leaves c s m := by
  rw [Leaves, hx, ← hm]
  rfl

theorem onStagingCheckComplete_of_due {s : Mach} {t : Nat} (h : s.beat.checkDue = some t) :
    onStagingCheckComplete s = showChecks (s.upTo t) := by
  rw [onStagingCheckComplete, h]

theorem onStagingCheckComplete_of_none {s : Mach} (h : s.beat.checkDue = none) : onStagingCheckComplete s = s := by
  rw [onStagingCheckComplete, h]

theorem exec_stageCommit_of_due (s : State) (master : BitVec 7) (tag : BitVec 16) {t : Nat} (h : s.m.beat.checkDue = some t) :
    exec (.stageCommit master tag) s = exec (.stageCommit master tag) { s with m := showChecks (s.m.upTo t) } :=
  congrArg (fun m => (.next { s with m := finish m } : Host.Outcome State Fault Refusal)) (stageCommit_of_due master.toNat tag.toNat h)

/-- Settles O38: the checks by `checkMarks`, a commit write by the case it answers, the edge by `applySet_r`, a discard by
`stageDiscard_st`. -/
theorem stagingResults : Obligations.StagingResults := by
  unfold Obligations.StagingResults
  refine ⟨fun s => ⟨fun hd => ?noCheckDue, fun t hd => ?checksEnd⟩,
    fun s master tag t hd => ⟨exec_stageCommit_of_due s master tag hd, congrArg Beat.checkDue (showChecks_upTo_beat s.m t)⟩,
    fun s master tag hd => ⟨fun hc hs hf => ?accepted, fun hc => ?pending, fun hc hs => ?standby,
      fun b l hc hs hf => ?failing⟩,
    fun s edge l hc => ?edge, fun s l hc hoff => ?beatsOff, fun s => ⟨fun hc => ?discarded, fun hc => ?discardRefused⟩⟩
  case noCheckDue =>
    exact leaves_of_onC (h := onStagingCheckComplete) rfl (onStagingCheckComplete_of_none hd)
  case checksEnd =>
    refine ends_of_onC (h := onStagingCheckComplete) rfl ?_
    rw [onStagingCheckComplete_of_due hd, showChecks_upTo_beat, showChecks_now, upTo_now]
    simp only [showChecks_f]
    exact ⟨trivial, Nat.le_max_right _ _, Nat.le_max_left _ _, checkMarks_lead _ _, checkMarks_wmin _ _, fun _ => checkMarks_refused _ _,
      fun _ => checkMarks_pair _ _, checkMarks_clear _ _, checkMarks_reflex _ _, checkMarks_short _ _, checkMarks_mirror _ _,
      showChecks_upTo_onlyRegs s.m t, showChecks_upTo_only s.m t⟩
  case accepted =>
    refine ends_of_onC (h := onStageCommit master tag) rfl ?_
    rw [onStageCommit, stageCommit_of_passing _ _ hd hc hs hf]
    exact ⟨rfl, acceptCommit_result _ _, acceptCommit_block _ _, acceptCommit_tag _ _, rfl, Nat.mod_eq_of_lt tag.isLt,
      acceptCommit_off _ _, (acceptCommit_regs s.m tag).1, rfl⟩
  case pending =>
    refine ends_of_onC (h := onStageCommit master tag) rfl ?_
    rw [onStageCommit, stageCommit_of_pending _ _ hd hc]
    have hm := refusedTag_marks s.m master.toNat tag.toNat 4
    have h0 := Marks.refl [] (s.m.setF GL_STAGE_STATUS_tag tag.toNat)
    exact ⟨hm.2.committed (by decide), refuseCommit_result _ _ (by decide), refuseCommit_block _ _ (by decide),
      refusedTag_tag _ _ _ h0 (by decide), refuseCommit_event _ _, refusedTag_count _ _ _ h0 (by decide), hm.1, hm.2⟩
  case standby =>
    refine ends_of_onC (h := onStageCommit master tag) rfl ?_
    rw [onStageCommit, stageCommit_of_standby _ _ hd hc hs]
    have hm := refusedTag_marks s.m master.toNat tag.toNat 5
    exact ⟨(hm.2.committed (by decide)).trans hc, refuseCommit_result _ _ (by decide), refuseCommit_event _ _, hm.1, hm.2⟩
  case failing =>
    refine ends_of_onC (h := onStageCommit master tag) rfl ?_
    rw [onStageCommit, stageCommit_of_failing _ _ hd hc hs hf]
    have hm := refuseMarks_marks (s.m.setF GL_STAGE_STATUS_tag tag.toNat)
    exact ⟨refuseCommit_result _ _ (by decide), refuseCommit_block _ _ (failingBlocks_lt hf), refusedTag_tag _ _ _ hm (by decide),
      refuseCommit_event _ _, refusedTag_count _ _ _ hm (by decide), fun k hk => refused_keeps_rws s.m _ _ b hk,
      (((setTag_marks s.m tag.toNat).trans hm).trans (refuseCommit_marks _ _ _ _)).2⟩
  case edge =>
    intro m
    have hm : m = commitDone (appliedMarks (applySet s l) edge) := applyCommit_some edge hc
    have hstatus {x : RF} (hx : x.reg = GL_STAGE_STATUS) : m.f x = (appliedStatus (applySet s l) edge).f x := by
      rw [hm, f_commitDone, appliedMarks_status _ _ hx]
    have hbeat : (applySet s l).beat = s.beat := (applySet_only s l).beat (by decide)
    refine ⟨fun k hk => ?_, ?_, ?_, ?_, ?_, ?_, ?_⟩
    · rw [hm, r_commitDone, (appliedMarks_marks _ edge).1 k hk, applySet_r, mergeRws]
    · rw [hstatus rfl, appliedStatus_result]
    · rw [hstatus rfl, appliedStatus_block]
    · rw [hstatus rfl, appliedStatus_tag, hbeat]
    · rw [hstatus rfl, appliedStatus_beat]
    · rw [hm, f_commitDone, appliedMarks_event]
    · rw [hm, committed_commitDone]
  case beatsOff =>
    obtain ⟨hkeep, happly⟩ := commitApplyBeatsOff_of_some hc hoff
    exact ⟨hkeep, leaves_of_onC (h := onCommitApplyBeatsOff) rfl happly⟩
  case discarded =>
    refine ends_of_onC (h := onStageDiscard) rfl ?_
    exact ⟨stageDiscard_st hc, stageDiscard_only hc⟩
  case discardRefused =>
    refine ends_of_onC (h := onStageDiscard) rfl ?_
    rw [onStageDiscard, stageDiscard_of_pending hc]
    exact ⟨Mach.f_setF_same _ _ _ (by decide), Mach.f_setF_other _ _ _ _ (by decide), Mach.f_setF_other _ _ _ _ (by decide),
      onlyRegs_setF _ GL_STAGE_STATUS_result _, only_setF _ _ _⟩

end Sys2Proof.Machine
